-- ==== Sys2Proof/Word.lean ====
section
/-! DEFINITION. Words, bytes and sparse tables: the plain containers the state is made of. -/

namespace Sys2Proof

/-- A byte. -/
abbrev Byte := BitVec 8

/-- A 64-bit word. -/
abbrev Word := BitVec 64

/-- A sparse table: entries at rising keys. What an absent key holds is said where the table is read. -/
abbrev SMap (α : Type) := List (Nat × α)

namespace SMap

/-- The entry at key `k`, if the table lists one. -/
def find? {α : Type} : SMap α → Nat → Option α
  | [], _ => none
  | (k', v) :: m, k => if k' = k then some v else find? m k

/-- The entry at key `k`, or `d` where the table lists none. -/
def get {α : Type} (d : α) (m : SMap α) (k : Nat) : α :=
  match find? m k with
  | some v => v
  | none => d

/-- The table with `v` at key `k`; the order of the keys is kept. -/
def set {α : Type} : SMap α → Nat → α → SMap α
  | [], k, v => [(k, v)]
  | (k', v') :: m, k, v =>
    if k' = k then (k, v) :: m
    else if k < k' then (k, v) :: (k', v') :: m
    else (k', v') :: set m k v

/-- The table without the entry at key `k`. -/
def del {α : Type} : SMap α → Nat → SMap α
  | [], _ => []
  | (k', v') :: m, k => if k' = k then del m k else (k', v') :: del m k

/-- The table with the entry at `k` (or `d`) changed by `f`. -/
def upd {α : Type} (d : α) (m : SMap α) (k : Nat) (f : α → α) : SMap α :=
  set m k (f (get d m k))

/-- The keys listed. -/
def keys {α : Type} (m : SMap α) : List Nat := m.map Prod.fst

/-- Every entry of the table changed by `f`. -/
def mapVal {α : Type} (f : Nat → α → α) (m : SMap α) : SMap α := m.map (fun e => (e.1, f e.1 e.2))

end SMap

/-- A list's element at `i`, or `d` past its end. -/
def nth {α : Type} (d : α) (l : List α) (i : Nat) : α := l.getD i d

/-- The list with element `i` replaced by `v`; a list too short is left as it is. -/
def setNth {α : Type} : List α → Nat → α → List α
  | [], _, _ => []
  | _ :: l, 0, v => v :: l
  | x :: l, i + 1, v => x :: setNth l i v

/-- The sum of a list of integers. -/
def sumInt (l : List Int) : Int := l.foldl (· + ·) 0

/-- The sum of a list of naturals. -/
def sumNat (l : List Nat) : Nat := l.foldl (· + ·) 0

/-- Bits `[lo, lo + w)` of `n`. -/
def field (n lo w : Nat) : Nat := (n >>> lo) % 2 ^ w

/-- Bit `i` of `n`. -/
def bitAt (n i : Nat) : Bool := field n i 1 = 1

/-- 1 for true, 0 for false. -/
def bnat (b : Bool) : Nat := if b then 1 else 0

/-- The two's complement value of the low `w` bits of `n`. -/
def signed (w n : Nat) : Int :=
  if n % 2 ^ w < 2 ^ (w - 1) then (n % 2 ^ w : Nat) else (n % 2 ^ w : Nat) - (2 ^ w : Nat)

/-- The low `w` bits of an integer. -/
def unsigned (w : Nat) (i : Int) : Nat := (i % (2 ^ w : Nat)).toNat

/-- `i` held within `lo` and `hi`. -/
def clampInt (lo hi i : Int) : Int := if i < lo then lo else if hi < i then hi else i

/-- `n` saturated at `hi`. -/
def satNat (hi n : Nat) : Nat := if hi < n then hi else n

/-- The `n` bytes of a number, least significant first (R8). -/
def leBytes : Nat → Nat → List Byte
  | 0, _ => []
  | n + 1, v => BitVec.ofNat 8 v :: leBytes n (v / 256)

/-- The number whose bytes are given least significant first (R8). -/
def ofLeBytes : List Byte → Nat
  | [] => 0
  | b :: bs => b.toNat + 256 * ofLeBytes bs

/-- The number whose bytes are given most significant first. -/
def ofBeBytes (bs : List Byte) : Nat := ofLeBytes bs.reverse

/-- Bytes `[off, off + n)` of a byte list, zero past its end. -/
def bytesAt (bs : List Byte) (off n : Nat) : List Byte :=
  (List.range n).map (fun i => bs.getD (off + i) 0)

/-- The little-endian number in bytes `[off, off + n)`. -/
def leAt (bs : List Byte) (off n : Nat) : Nat := ofLeBytes (bytesAt bs off n)

/-- A byte list cut or padded with zeros to `n` bytes. -/
def padTo (n : Nat) (bs : List Byte) : List Byte := bytesAt bs 0 n

/-- The least multiple of `m` that is at least `n`. -/
def roundUp (n m : Nat) : Nat := (n + (m - 1)) / m * m

/-- `n` rounded to the nearest whole quotient by `d`, halves to even. -/
def divRoundNE (n : Int) (d : Nat) : Int :=
  let q := n / (d : Int)
  let r := n % (d : Int)
  if 2 * r < (d : Int) then q
  else if (d : Int) < 2 * r then q + 1
  else if q % 2 = 0 then q else q + 1

/-- A rational rounded to the nearest whole number, halves to even. -/
def roundRat (x : Rat) : Int := divRoundNE x.num x.den

/-- A rational rounded toward minus infinity. -/
def floorRat (x : Rat) : Int := x.num / (x.den : Int)

end Sys2Proof
end

