-- ==== Sys2Proof/Syntax.lean ====
section
/-! DEFINITION. The commands of the block, one constructor for each row of the opcode table, and the data they carry:
CSI-2 packet headers, tile bundles, packages, flits. The first operand `t` of a command is the device time in ns of its
instant (log entry 13). -/

namespace Sys2Proof

/-- The master ports a dictionary request comes from (Table 13-6, Last Port). -/
inductive Master where
  | mailbox
  | pdo
  | canFd
  deriving DecidableEq, Repr

/-- Last Port's code of a master (Table 13-6). -/
def Master.code : Master → Nat
  | .mailbox => 1
  | .pdo => 2
  | .canFd => 3

/-! ## Intake -/

/-- What the header ECC found (R54, Table 2-1). -/
inductive Ecc where
  | ok
  | corrected
  | uncorrectable
  deriving DecidableEq, Repr

/-- What kind of packet a header announces (Table 2-1). -/
inductive PacketKind where
  | long
  | frameStart
  | frameEnd
  | lineStart
  | lineEnd
  deriving DecidableEq, Repr

/-- The surface region a patch shows (R52): its port and its corner and size in pixels. -/
structure Patch where
  port : Fin 4
  x : Nat
  y : Nat
  w : Nat
  h : Nat
  deriving DecidableEq, Repr

/-- A CSI-2 packet header. `supported` is false where the packet uses a feature that Table 2-1 marks "not supported";
`arrival` is the device time at the last bit of the packet, which R41, R43 and Table 2-8 refer to. -/
structure PacketHeader where
  ecc : Ecc
  supported : Bool
  kind : PacketKind
  vc : BitVec 2
  dataType : BitVec 6
  arrival : Nat
  deriving DecidableEq, Repr

/-- What a packet on a frame-format port brings (R33). -/
inductive FrameItem where
  | start
  | line (pixels : List Byte)
  deriving DecidableEq, Repr

/-- Whose pulse runs out: a PULSE rule's, a tile's post or another module's post (R64, R17, R293). -/
inductive PulseSource where
  | rule (n : Fin 32)
  | tile (tile : Fin 64) (k : Fin 8)
  | remote (addr : BitVec 18) (k : Fin 8)
  deriving DecidableEq, Repr

/-- What starts an inertial read (R87). -/
inductive ReadCause where
  | drdyRising
  | drdyFalling
  | timer
  deriving DecidableEq, Repr

/-- Read Trigger's code of a cause (Table 3-6). -/
def ReadCause.code : ReadCause → Nat
  | .drdyRising => 0
  | .drdyFalling => 1
  | .timer => 2

/-- An input with a sample ring (R93). -/
inductive InputId where
  | analog (n : Fin 8)
  | inertial (m : Fin 2)
  | encoder (e : Fin 4)
  deriving DecidableEq, Repr

/-! ## Tile bundles (Tables 4-3 and 4-4) -/

/-- A scalar register g0 to g31. -/
abbrev GReg := Fin 32

/-- A vector register v0 to v15. -/
abbrev VReg := Fin 16

/-- The scalar operations of slots 0 and 1: the groups Table 4-3 names (R102; log entry 14). -/
inductive ScalarOp where
  | nop
  | add | sub | mul
  | and | or | xor | shl | shr | sar
  | cmpEq | cmpNe | cmpLt | cmpLtu
  | load | store
  | branch
  | loop (iterations : BitVec 17) (last : BitVec 10)
  deriving DecidableEq, Repr

/-- A scalar slot with the operand fields of Table 4-4. -/
structure ScalarSlot where
  op : ScalarOp
  pred : Option GReg
  dst : GReg
  srcA : GReg
  srcB : GReg
  immSel : Bool
  imm : BitVec 32
  deriving DecidableEq, Repr

/-- The vector operations of slots 2 and 3 (Table 4-3, R105, R118 to R121, R153 to R156; log entry 14). -/
inductive VectorOp where
  | nop
  | add | sub | mul | min | max | absDiff | maxAbsDiff
  | and | or | xor
  | cmpEq | cmpGt | cmpGe | select
  | exp2 | log2 | recip | rsqrt
  | reduceAdd | reduceMax | reduceMin
  | permute
  | convFp8 | convInt8 | convInt4
  | seed
  | tafter | tage | tadd
  | move | accWide | drain | changed | marks
  deriving DecidableEq, Repr

/-- A vector slot with the operand fields of Table 4-4. `stochastic` selects the rounding of a conversion (R118); bits 0 and 1 of
`feed`: 64 bytes of ag0 and of ag1 stand for the low lanes of src_a and of src_b (R106). -/
structure VectorSlot where
  op : VectorOp
  pred : Option GReg
  dst : VReg
  srcA : VReg
  srcB : VReg
  srcC : VReg
  mask : GReg
  ty : BitVec 3
  imm : BitVec 24
  stochastic : Bool
  feed : BitVec 2
  deriving DecidableEq, Repr

/-- What slot 4 does (Table 4-4, op). -/
inductive MacOp where
  | nop | loadWeights | accumulate | drain | clear
  deriving DecidableEq, Repr

/-- Slot 4 with the operand fields of Table 4-4. -/
structure MacSlot where
  op : MacOp
  pred : Option GReg
  bank : Fin 4
  format : BitVec 3
  stochastic : Bool
  input : BitVec 2
  vsrc : VReg
  delta : Bool
  count : BitVec 16
  deriving DecidableEq, Repr

/-- What slots 5 and 6 do (Table 4-4, op). -/
inductive AgOp where
  | nop | loadDescriptor | start | advance | stop | readStatus
  deriving DecidableEq, Repr

/-- Slots 5 (ag0, ag1) and 6 (ag2). -/
structure AgSlot where
  op : AgOp
  pred : Option GReg
  ag1 : Bool
  dreg : GReg
  deriving DecidableEq, Repr

/-- The neuron unit operations of slot 7, class 0 (Table 7-7). -/
inductive NeuronOp where
  | inject (stamp data : GReg)
  | injectRoute (stamp data : GReg)
  | nadd (src : VReg) (delay : Fin 16) (first : BitVec 13)
  | inputMark (src : GReg)
  | done (src : GReg)
  | stepStatus (dst : GReg)
  deriving DecidableEq, Repr

/-- Slot 7 (Table 4-4, class). -/
inductive SyncOp where
  | nop
  | neuron (op : NeuronOp)
  | post (id : BitVec 14) (count : BitVec 32)
  | wait (id : BitVec 8) (target : BitVec 32)
  | test (id : BitVec 8) (target : BitVec 32) (dst : GReg)
  | set (id : BitVec 8) (value : BitVec 32)
  | release (n : BitVec 32)
  | watermark (src : GReg)
  | sleep
  | kerbPost (k : Fin 8) (level : Bool) (width : BitVec 32)
  | submit (addr : GReg)
  | resultPost (stamp addr length : GReg)
  deriving DecidableEq, Repr

/-- Slot 7 with its predicate. -/
structure SyncSlot where
  op : SyncOp
  pred : Option GReg
  deriving DecidableEq, Repr

/-- One 512-bit bundle of eight slots (Table 4-3). -/
structure Bundle where
  s0 : ScalarSlot
  s1 : ScalarSlot
  s2 : VectorSlot
  s3 : VectorSlot
  s4 : MacSlot
  s5 : AgSlot
  s6 : AgSlot
  s7 : SyncSlot
  deriving DecidableEq, Repr

/-- A scalar slot that does nothing: opcode 0x00 (R102). -/
def ScalarSlot.none : ScalarSlot := ⟨.nop, .none, 0, 0, 0, false, 0⟩
/-- A vector slot that does nothing. -/
def VectorSlot.none : VectorSlot := ⟨.nop, .none, 0, 0, 0, 0, 0, 0, 0, false, 0⟩
/-- Slot 4 doing nothing. -/
def MacSlot.none : MacSlot := ⟨.nop, .none, 0, 0, false, 0, 0, false, 0⟩
/-- An address-generator slot doing nothing. -/
def AgSlot.none : AgSlot := ⟨.nop, .none, false, 0⟩
/-- Slot 7 doing nothing. -/
def SyncSlot.none : SyncSlot := ⟨.nop, .none⟩
/-- The bundle of no-ops: 512 bits of zero (R102). -/
def Bundle.nop : Bundle := ⟨.none, .none, .none, .none, .none, .none, .none, .none⟩

/-! ## Packages (18_model_packages.md) -/

/-- A rectangle of pixels, inclusive. -/
structure Window where
  xLo : Nat
  xHi : Nat
  yLo : Nat
  yHi : Nat
  deriving DecidableEq, Repr

/-- A subscription of a context (R97): the tile mask's bit i is the tile at offset i of the partition, row by row. -/
structure Subscription where
  port : Fin 4
  tileMask : BitVec 64
  win : Window
  events : Bool
  markers : Bool
  patches : Bool
  frames : Bool
  deriving DecidableEq, Repr

/-- A resident neuron of a package: tile offset, number, state and control word (Tables 7-1 and 7-2). -/
structure NeuronInit where
  tileOff : Nat
  num : Nat
  state : BitVec 64
  control : BitVec 64
  deriving DecidableEq, Repr

/-- A neuron program: 16-bit or 32-bit state and its micro-operations (R178). -/
structure NeuronProgram where
  wide : Bool
  code : List (BitVec 32)
  deriving DecidableEq, Repr

/-- What one tile of a placement holds at load: sections 1, 2 and 5 (R419), by offset in the partition. `code` are the 512-bit
bundles of Table 4-3; `layerCode` gives the bundles, first and last, that compute a layer (R138; log entry 14). -/
structure TileImage where
  code : List (BitVec 512)
  layerCode : List (Nat × Nat × Nat)
  scratch : List (Nat × List Byte)
  ringBase : Nat
  ringSize : Nat
  orderedBase : Nat
  orderedSize : Nat
  spikeMapBase : Nat
  programs : List NeuronProgram
  params : List (List (BitVec 16))
  deriving DecidableEq, Repr

/-- A placement of a package (Table 18-2) with the sections that carry its mask (R419): what each tile holds at load, weight
blocks and DRAM contents by offset, neurons, routes, subscriptions. Tiles are named by their offset in the partition, row by
row; route lists by their place in the context's range (log entry 54). -/
structure Placement where
  w : Nat
  h : Nat
  origin : Option (Fin 64)
  streams : Bool
  syncObjects : Nat
  neuronsPerTile : Nat
  dramBytes : Nat
  scratchBytes : Nat
  derating : Nat
  tiles : List TileImage
  weights : List (Nat × Nat × List Byte)
  image : List (Nat × List Byte)
  neurons : List NeuronInit
  routes : List (BitVec 64)
  subs : List Subscription
  deriving DecidableEq, Repr

/-- A layer of a package as the device needs it: number, whether R135 gives it no position, whether it is delta-capable,
its format code of Table 4-7, its safety limit and what R168 takes from it: the norm, the product count, the largest e_a + e_b of its
products, the Q0.31 multiplier, shift and rounding of its requantisation; `inputs` are the layers
whose outputs are its input, none for an input of the network (R138). -/
structure LayerInfo where
  number : Nat
  inputs : List Nat
  inSize : Nat × Nat
  filter : Nat × Nat
  stride : Nat × Nat
  dilation : Nat × Nat
  padLo : Nat × Nat
  padHi : Nat × Nat
  deltaCapable : Bool
  format : Nat
  thetaCap : Nat
  weightNorm : Nat
  products : Nat
  maxExp : Int
  mult : Nat
  scaleShift : Nat
  stochastic : Bool
  deriving DecidableEq, Repr

/-- What an audit found at one position (R171): its tile, the output computed exactly and the value reused, in output LSB. -/
structure AuditSample where
  tile : Fin 64
  exact : Rat
  reused : Rat
  deriving DecidableEq, Repr

/-- A package (Tables 17-2, 18-1); `sha` is the first 16 bytes of the SHA-384 of its bytes. The outcomes of the cryptographic checks
of its bytes are carried as flags (log entry 15): `signatureOk` for the key of `signerKey`, `recipientOk` and `tagOk` for decryption,
`contentOk` for the layout checks of R419 and of Tables 18-1 and 18-2 on the bytes. `resultLayers` are the layers its result records
depend on (R138). -/
structure Package where
  bytes : Nat
  sha : BitVec 128
  signerKey : Fin 4
  signatureOk : Bool
  productCode : BitVec 32
  securityVersion : Nat
  encrypted : Bool
  recipientOk : Bool
  tagOk : Bool
  contentOk : Bool
  version : BitVec 32
  name : List Byte
  header : List Byte
  digest : BitVec 128
  weightOnly : Bool
  calRuntime : Bool
  participation : Bool
  routeCount : Nat
  trackSlots : Nat
  subscriptions : Nat
  firewallRegions : Nat
  placements : List Placement
  pinned : Option Nat
  objects : List (Nat × Nat × Nat)
  layers : List LayerInfo
  resultLayers : List Nat
  deriving DecidableEq, Repr

/-- How a FoE write of a package stands (R430): it begins, or its last byte has arrived. -/
inductive FoePhase where
  | begin
  | finish (pkg : Package)
  deriving DecidableEq, Repr

/-- A firmware image over FoE (R401), with the first 16 bytes of its SHA-384. -/
structure Firmware where
  signatureOk : Bool
  version : Nat
  sha : BitVec 128
  deriving DecidableEq, Repr

/-- What a memory read finds (R100, R318). -/
inductive Upset where
  | none
  | single
  | double
  deriving DecidableEq, Repr

/-- A protected store of a tile (Table 4-2); an entry of its pending map by Roundabout slot and neuron (R182). -/
inductive TileStore where
  | instruction
  | scratchpad
  | neuron
  | routeCache (key : Nat)
  | scalarRegister
  | pendingMap (slot : Fin 16) (neuron : Fin 8192)
  deriving DecidableEq, Repr

/-- What a flit on the mesh carries (Table 12-4): the C1 response of a transaction of a tile, or an item on its way of another
class: a post, a spike message, a measurement record, a result post to a queue. -/
inductive MeshItem where
  | response (tile : Fin 64)
  | post
  | spike
  | record
  | result (q : Fin 9)
  deriving DecidableEq, Repr

/-- A protected store whose words are read or scrubbed (Table 12-4): a tile's, one of the Square's by what the word belongs to
(R319), the Lodge's retention memory (R320); or the mesh, checked from source to destination interface. -/
inductive SramStore where
  | tile (tile : Fin 64) (store : TileStore)
  | tracks
  | measurements (slot : Nat)
  | lateQueue
  | history
  | anchors
  | streetMap
  | coefficients
  | mesh (item : MeshItem)
  deriving DecidableEq, Repr

/-- What an error of the DRAM or of its link hits (R316, R318): the word at an address, read by the scrub or the Gate; the read of the
`i`-th outstanding transaction of a tile; a READ of another module; the late-window store's copy of an
entry of the late queue, or a transfer of the link. -/
inductive DramWord where
  | at_ (a : Nat)
  | tileRead (tile : Fin 64) (i : Nat)
  | linkRead (port : Fin 4) (header : BitVec 192)
  | late (i : Nat)
  | link
  deriving DecidableEq, Repr

/-- What a DRAM read finds, and in what. -/
structure DramUpset where
  word : DramWord
  upset : Upset
  deriving DecidableEq, Repr

/-! ## Operands that carry more than one value -/

/-- A word of a packet as the port receive queue gives it: a parity error on read discards it (R60). -/
structure WordIn where
  bits : BitVec 64
  parityError : Bool
  deriving DecidableEq, Repr

/-- The outcome of a payload CRC check (R53), and the entries of the pending-packet store that a parity error takes (R60). -/
structure CrcOutcome where
  passed : Bool
  bad : List Nat
  deriving DecidableEq, Repr

/-- What the delivery port sends: lane words of the port whose turn it is, read from its intake queue with or without a parity error
(R60), or a surface patch (R52). -/
inductive DeliveryTurn where
  | queue (parityError : Bool)
  | patch (r : Patch)
  deriving DecidableEq, Repr

/-- A level of an input line and the INTAKE cycles it stands, which a glitch filter compares (R36, R90). -/
structure Level where
  high : Bool
  stable : Nat
  deriving DecidableEq, Repr

/-- A trigger of an inertial port and its cause (R87). -/
structure ReadStart where
  port : Fin 2
  cause : ReadCause
  deriving DecidableEq, Repr

/-- A rising edge of an encoder's Z and the INTAKE cycles its level stands (R90). -/
structure IndexRise where
  encoder : Fin 4
  stable : Nat
  deriving DecidableEq, Repr

/-- The instant at which the Square reads a feed word, and whether a parity error discards it (R60). -/
structure FeedRead where
  time : Nat
  parityError : Bool
  deriving DecidableEq, Repr

/-- The instant at which a calibration window ends, and the cycles that the runtime's task takes on each tile (R258). -/
structure TaskEnd where
  time : Nat
  cycles : Nat
  deriving DecidableEq, Repr

/-- A write into a result queue, and whether bandwidth takes it within 2 µs (R26). -/
structure RecordWrite where
  queue : Fin 9
  taken : Bool
  deriving DecidableEq, Repr

/-- Who issues a transaction on a tile (R109). -/
inductive Issuer where
  | ag (n : Fin 3)
  | scalar
  deriving DecidableEq, Repr

/-- The target of a transaction (Table 4-5, space): the device address map, or another module's. A write carries its
data; a read names the scratchpad bytes it fills. -/
structure Access where
  write : Bool
  module : Option (BitVec 18)
  addr : BitVec 48
  bytes : Nat
  data : List Byte
  dest : BitVec 20
  deriving DecidableEq, Repr

/-- An item of a provocation unit (R321): a packet or a flit as bytes, with its class on a link port. -/
structure ProvItem where
  bytes : List Byte
  cls : Fin 4
  deriving DecidableEq, Repr

/-- The commands. -/
inductive Instr where
  -- power-up, supply and temperature (15, 19)
  | inputPowerValid
  | dieBringupDone (t : Nat)
  | autoload (t : Nat)
  | inputVoltageExcursion (t : Nat) (mv : Nat)
  | inputBelowHoldUp (t : Nat) (mv : Nat)
  | inputRestored (t : Nat) (mv : Nat)
  | inputBelowLodgeSupply (t : Nat)
  | regulatorOutOfRegulation (t : Nat)
  | thermalCapTick (t : Nat) (junction plate : Int)
  | thermalShutdown (t : Nat) (junction plate : Int)
  | lodgeSupervisorTimeout (t : Nat)
  | slotBoundary
  -- time (15)
  | timeSourceWrite (t : Nat) (m : Master) (v : Nat)
  | timeSourceSample (t : Nat) (offset : Int)
  | timeSourceLost (t : Nat)
  | holdoverLimitExpiry (t : Nat)
  | syncOutEdge (t : Nat)
  | syncOutPulseEnd (t : Nat)
  -- intake (02)
  | portEnable (t : Nat) (m : Master) (p : Fin 4) (v : Nat)
  | clearLost (t : Nat) (m : Master) (p : Fin 4)
  | reAnchor (t : Nat) (m : Master) (p : Fin 4)
  | csi2PacketHeader (t : Nat) (p : Fin 4) (h : PacketHeader)
  | eventWord (t : Nat) (p : Fin 4) (w : WordIn)
  | framePacket (t : Nat) (p : Fin 4) (item : FrameItem)
  | payloadCrcCheck (t : Nat) (p : Fin 4) (ok : CrcOutcome)
  | rateTrimWindowEnd (t : Nat) (p : Fin 4)
  | hotWindowEnd (t : Nat) (p : Fin 4)
  | coldTimeExpiry (t : Nat) (p : Fin 4)
  | surfaceLineWriteback (t : Nat) (line : Nat)
  | governorTick (t : Nat)
  | gateDeliveryFlit (t : Nat) (turn : DeliveryTurn)
  | i3cTransfer (t : Nat) (m : Master) (p : Fin 4) (data : List Byte)
  | i3cTransferComplete (t : Nat) (p : Fin 4) (result : Fin 4) (data : List Byte)
  | inBandInterrupt (t : Nat) (p : Fin 4) (addr : BitVec 7) (payload : List Byte)
  | triggerInputEdge (t : Nat) (n : Fin 4) (level : Level)
  -- Kerb path and coarse codes (02, 03)
  | kerbDecayTick (t : Nat) (c : Fin 60)
  | coarseCode (t : Nat) (n : Fin 8) (q : BitVec 3)
  | kerbPulseEnd (t : Nat) (src : PulseSource)
  | kerbInhibitEnd (t : Nat) (n : Fin 32)
  | ruleEnable (t : Nat) (m : Master) (n : Fin 32) (v : Nat)
  | latchClear (t : Nat) (m : Master) (k : Fin 8) (v : Nat)
  -- analog and motion (03, 10)
  | channelEnable (t : Nat) (m : Master) (n : Fin 8) (v : Nat)
  | customFirWrite (t : Nat) (m : Master) (n : Fin 8) (data : List Byte)
  | modulatorOverload (t : Nat) (n : Fin 8) (positive : Bool)
  | decimatedSample (t : Nat) (n : Fin 8) (mods : List Int) (overrange : Bool)
  | settlingDone (t : Nat) (n : Fin 8)
  | offsetCalPeriod (t : Nat) (n : Fin 8) (measured : Int)
  | slotBlockWrite (t : Nat) (input : InputId)
  | blockComplete (t : Nat) (input : InputId)
  | inertialReadTrigger (t : Nat) (r : ReadStart)
  | inertialReadComplete (t : Nat) (m : Fin 2) (data : List Byte)
  | drdySilence (t : Nat) (m : Fin 2)
  | encoderEdge (t : Nat) (e : Fin 4) (a b : Level)
  | indexEdge (t : Nat) (z : IndexRise)
  | encoderCommand (t : Nat) (m : Master) (e : Fin 4) (v : Nat)
  | encoderLineFault (t : Nat) (e : Fin 4)
  | encoderLineRestore (t : Nat) (e : Fin 4)
  -- the Market (04 to 06)
  | bundleIssue (t : Nat) (tile : Fin 64)
  | agWaitRelease (t : Nat) (tile : Fin 64) (ag : Fin 3)
  | agCompletionPost (t : Nat) (tile : Fin 64) (ag : Fin 3)
  | transactionIssue (t : Nat) (tile : Fin 64) (issuer : Issuer) (acc : Access)
  | transactionResponse (t : Nat) (tile : Fin 64) (slot : Nat) (error : Bool)
  | postArrival (t : Nat) (i : Nat)
  | waitRelease (t : Nat) (tile : Fin 64)
  | tileWake (t : Nat) (tile : Fin 64)
  | inputMarkAutoRaise (t : Nat) (tile : Fin 64)
  | stepOpen (t : Nat) (n : Fin 8)
  | stepRelease (t : Nat) (tile : Fin 64)
  | stepDoneReport (t : Nat) (tile : Fin 64)
  | spikeMessage (t : Nat) (i : Nat)
  | routeCacheMissResponse (t : Nat) (tile : Fin 64) (error : Bool)
  | sramScrub (t : Nat) (store : SramStore) (i : Nat) (found : Upset)
  | lagPublish (t : Nat)
  | voltageLoopTick (t : Nat) (tile : Fin 64) (canaries : Nat) (power : Nat)
  | guardCanaryError (t : Nat) (tile : Fin 64)
  | deltaAudit (t : Nat) (n : Fin 8) (layer : Nat) (samples : List AuditSample)
  | forceExact (t : Nat) (m : Master) (n : Fin 8) (v : Nat)
  | contextStart (t : Nat) (m : Master) (n : Fin 8)
  | contextPause (t : Nat) (m : Master) (n : Fin 8)
  | contextPauseDone (t : Nat) (n : Fin 8)
  | contextResume (t : Nat) (m : Master) (n : Fin 8)
  | contextStop (t : Nat) (m : Master) (n : Fin 8)
  | contextUnload (t : Nat) (m : Master) (n : Fin 8)
  -- the Square (08, 09)
  | measurementFiled (t : Nat) (i : Nat)
  | feedWord (r : FeedRead)
  | feedWindowRefresh (t : Nat)
  | slotClose (t : Nat)
  | slotDeadline (t : Nat)
  | egoSettle (t : Nat)
  | egoCausalPublish (t : Nat)
  | fusionStart (t : Nat)
  | fusionEnd (t : Nat)
  | referenceReset (t : Nat) (m : Master) (v : Nat)
  | projectionSetWrite (t : Nat) (m : Master) (f : Fin 16) (sub : Fin 8) (data : List Byte)
  | sensorRestore (t : Nat) (m : Master) (n : Fin 24) (v : Nat)
  | degradationReset (t : Nat) (m : Master) (v : Nat)
  | waitLimitLoopTick (t : Nat)
  -- calibration (10)
  | refractoryLearnWindowEnd (t : Nat) (p : Fin 4)
  | biasWindowEnd (t : Nat) (p : Fin 4)
  | timeOffsetWindowEnd (t : TaskEnd) (p : Fin 4) (estimate : Rat) (peak : Nat)
  | extrinsicWindowEnd (t : TaskEnd) (f : Fin 16) (rotation translation : List Rat)
  | scaleWindowEnd (t : TaskEnd)
  | calibrationRestart (t : Nat) (m : Master) (v : Nat)
  | calibrationSave (t : Nat) (m : Master) (v : Nat)
  | linkDeskewCorrection (t : Nat) (p : Fin 4) (ps : Int)
  -- the Chaivo link (11)
  | chaivoPortEnable (t : Nat) (m : Master) (p : Fin 4) (v : Nat)
  | retrainStored (t : Nat) (m : Master) (p : Fin 4)
  | retrainFull (t : Nat) (m : Master) (p : Fin 4)
  | trainingComplete (t : Nat) (p : Fin 4)
  | trainingStallNotice (t : Nat) (p : Fin 4)
  | downRetryTimer (t : Nat) (p : Fin 4)
  | blockLockLoss (t : Nat) (p : Fin 4)
  | sfpInsertion (t : Nat) (p : Fin 4) (ident : List Byte)
  | sfpOvercurrent (t : Nat) (p : Fin 4)
  | flitHeader (t : Nat) (p : Fin 4) (h : BitVec 192)
  | flitTrailer (t : Nat) (p : Fin 4) (payload : List Byte) (trailer : BitVec 64)
  | flitAckReceived (t : Nat) (p : Fin 4) (ack : BitVec 12) (cls : Fin 4) (credits : BitVec 5)
  | nakReceived (t : Nat) (p : Fin 4) (lastGood : BitVec 12)
  | retryTimeout (t : Nat) (p : Fin 4)
  | linkBlock (t : Nat) (p : Fin 4) (content : BitVec 52)
  | timingBlockSend (t : Nat) (p : Fin 4)
  | timingBlockReceive (t : Nat) (p : Fin 4) (content : BitVec 52) (arrivalPs : Int)
  | timeMessageSend (t : Nat) (p : Fin 4)
  | time (t : Nat) (p : Fin 4) (a : BitVec 32) (b : BitVec 48)
  | hello (t : Nat) (p : Fin 4) (a : BitVec 32) (b : BitVec 48)
  | link (t : Nat) (p : Fin 4) (b : BitVec 48)
  | read (t : Nat) (p : Fin 4) (h : BitVec 192)
  | write (t : Nat) (p : Fin 4) (h : BitVec 192) (data : List Byte)
  | writePosted (t : Nat) (p : Fin 4) (h : BitVec 192) (data : List Byte)
  | pull (t : Nat) (p : Fin 4) (h : BitVec 192)
  | readResp (t : Nat) (h : BitVec 192) (data : List Byte)
  | writeAck (t : Nat) (h : BitVec 192)
  | pullResp (t : Nat) (h : BitVec 192) (data : List Byte)
  | errorResp (t : Nat) (h : BitVec 192)
  | kerbPostMessage (t : Nat) (p : Fin 4) (h : BitVec 192)
  | echo (t : Nat) (p : Fin 4) (h : BitVec 192)
  | echoReply (t : Nat) (h : BitVec 192)
  | responseTimeout (t : Nat) (tag : BitVec 12)
  | hostModeFrame (t : Nat) (p : Fin 4) (fcsOk : Bool) (frame : List Byte)
  | streetMapWrite (t : Nat) (m : Master) (local_ : Bool) (data : List Byte)
  | streetMapSwap (t : Nat)
  | mapFlashMirror (t : Nat)
  -- queues, provocation, DRAM (12)
  | resultRecordEntry (t : Nat) (w : RecordWrite)
  | batchTailTimeout (t : Nat) (q : Fin 9)
  | queueStallNotice (t : Nat) (q : Fin 9)
  | commitTargetUnload (t : Nat)
  | provocationItem (t : Nat) (i : Fin 8) (item : ProvItem)
  | provocationSwapTimeout (t : Nat) (i : Fin 8)
  | dramScrub (t : Nat) (found : DramUpset)
  -- control (13, 14)
  | goReady (t : Nat) (m : Master)
  | goRun (t : Nat) (m : Master)
  | goStandby (t : Nat) (m : Master)
  | halt (t : Nat) (m : Master)
  | restart (t : Nat) (m : Master)
  | transitionComplete (t : Nat)
  | claimTake (t : Nat) (m : Master)
  | claimRelease (t : Nat) (m : Master)
  | dictionaryWrite (t : Nat) (m : Master) (index : BitVec 16) (sub : BitVec 8) (data : List Byte) (toggleOk : Bool)
  | sync0Event (t : Nat)
  | ethercatStateRequest (t : Nat) (st : Nat) (sync0 : Nat)
  | fieldLoss (t : Nat)
  | storeParameters (t : Nat) (m : Master) (v : Nat)
  | restoreDefaultParameters (t : Nat) (m : Master) (v : Nat)
  | parameterMirrorWrite (t : Nat)
  | numberOfErrorsClear (t : Nat) (m : Master) (v : Nat)
  | statusAcknowledge (t : Nat) (m : Master) (v : Nat)
  -- security (17)
  | sessionChallenge (t : Nat) (m : Master)
  | sessionResponse (t : Nat) (m : Master) (data : List Byte)
  | sessionClose (t : Nat) (m : Master) (v : Nat)
  | sessionTimeout (t : Nat) (m : Master)
  | roleKeyWrite (t : Nat) (m : Master) (which : Fin 4) (data : List Byte)
  | packageKeysWrite (t : Nat) (m : Master) (data : List Byte)
  | accessRightsWrite (t : Nat) (m : Master) (data : List Byte)
  | dramFirewallWrite (t : Nat) (m : Master) (data : List Byte)
  | portFiltersWrite (t : Nat) (m : Master) (data : List Byte)
  | debugLockWrite (t : Nat) (m : Master) (v : Nat)
  | debugReadData (t : Nat) (m : Master)
  | certifiedEnter (t : Nat) (m : Master)
  | certifiedLeave (t : Nat) (m : Master)
  | trngTestFail (t : Nat)
  | trngRetest (t : Nat) (pass : Bool)
  | firmwareFoeWrite (t : Nat) (image : Firmware)
  -- packages and diagnostics (18, 14)
  | packageFoeWrite (t : Nat) (slot : Fin 8) (phase : FoePhase)
  | load (t : Nat) (m : Master)
  | loadComplete (t : Nat)
  | commit (t : Nat) (m : Master)
  | erase (t : Nat) (m : Master)
  | builtInTest (t : Nat) (m : Master) (v : Nat)
  | builtInTestDone (t : Nat) (results : List (Nat × Nat)) (ms : Nat)
  | ledgerClear (t : Nat) (m : Master) (v : Nat)
  -- hang detection and recovery (16)
  | tallySample (t : Nat)
  | tallyExpiry (t : Nat)
  | fenceComplete (t : Nat)
  | fenceTimeout (t : Nat)
  | ledgerReadTimeout (t : Nat) (unit : Fin 70)
  | ledgerWritten (t : Nat)
  | resetRelease (t : Nat)
  | resetDone (t : Nat)
  | resetDoneTimeout (t : Nat)
  | dramRetrainFail (t : Nat)
  | ledgerFlashCopyDone (t : Nat) (ok : Bool)
  | suspectReplayStart (t : Nat)
  | replayRangeDone (t : Nat)
  | replaySliceExpiry (t : Nat)
  | replayHang (t : Nat)
  | returnToService (t : Nat)
  | supplyTapOvercurrent (t : Nat) (tap : Fin 5)
  -- field buses and the rows the source lists last
  | producerHeartbeat (t : Nat)
  | ethercatFrame (t : Nat) (rx : List Byte)
  | canFdFrame (t : Nat)
  | modulePowerCycleEnd
  | weightSwapComplete (t : Nat) (n : Fin 8)
  | imageRewriteDone (t : Nat) (n : Fin 8)
  | linkBlockSend (t : Nat) (p : Fin 4)
  | tagReuseExpiry (t : Nat) (tag : BitVec 12)
  | auditLogFlashMirror (t : Nat)
  deriving DecidableEq, Repr

end Sys2Proof
end

