-- ==== Sys2Proof/Decode.lean ====
section
/-! DEFINITION. The words of the opcode table. -/

namespace Sys2Proof

/-- The rows of spec/opcode_table.json that give an encoding, as width, mask, pattern and command: the table gives no
row bits or fields, so there is none. -/
def tableRows : List (Nat × Nat × Nat × Instr) := []

/-- The command of the first row that a word matches. -/
def matchRow : List (Nat × Nat × Nat × Instr) → Nat → Nat → Option Instr
  | [], _, _ => none
  | (n, mask, pat, c) :: rest, nbits, w =>
    if nbits = n ∧ Nat.land w mask = pat then some c else matchRow rest nbits w

/-- The command a word of the opcode table spells. -/
def decodeTableWord (nbits w : Nat) : Option Instr := matchRow tableRows nbits w

end Sys2Proof
end

