-- ==== Sys2Proof/Config.lean ====
section
/-! DEFINITION. What an implementation fixes and what the spec leaves open: constants without a body. No proof can
see their values, so a statement holds for every value of them. Each is named in a log entry. -/

namespace Sys2Proof.Config

/-- What an opcode byte other than 0 means in a slot of a bundle: the place of its operation among those of the slot, beyond the
last for an undefined opcode (R102 leaves the numbering to the Haleel documentation; log entry 14). -/
opaque opcode : Nat → Nat → Nat

/-- A fresh free value: the counter of the state applied to it (log entry 2). -/
opaque freeValue : Nat → Nat

/-- What an integer operation of a vector or scalar pipe writes when its exact result does not fit: the operation's
number, the exact result and the width (log entry 6; the spec states no result there, R105, R120). -/
opaque intOverflow : Nat → Int → Nat → Int

/-- exp2, log2, reciprocal and reciprocal square root on FP32 (R120 bounds the relative error only): the operation's
number and the operand's bits; taken where it keeps the bound or where R120 states no value (log entry 7). -/
opaque specialFunction : Nat → Nat → Nat

/-- A REAL32 result of the Square that REAL32 does not hold exactly (R208 states a bound, no rounding; log entry 8). -/
opaque real32Near : Rat → Rat

/-- What an infinity or a NaN given as a REAL32 stands for in a formula of the Square, the Gate or a loop, by its encoding (R8
gives the format, no rule its arithmetic there; log entry 78). -/
opaque real32Open : Nat → Rat

/-- exp(x) for the weights of a dispute (R244; log entry 8). -/
opaque expReal : Rat → Rat

/-- The square root used to normalise a quaternion and to take norms (R211; log entry 8). -/
opaque sqrtReal : Rat → Rat

/-- sine and cosine of half a rotation angle (R211, R266; log entry 8). -/
opaque sinReal : Rat → Rat

/-- cosine (R211, R266; log entry 8). -/
opaque cosReal : Rat → Rat

/-- The angle of a vector, y first (R218, R234; log entry 8). -/
opaque atan2Real : Rat → Rat → Rat

/-- Vsafe in mV of tile `t` at a clock in MHz, and whether the truncated columns are off (R164, R162,
factory-characterised; log entry 9). -/
opaque vsafe : Nat → Nat → Bool → Nat

/-- Vfloor in mV of tile `t` at a clock in MHz (R164; log entry 9). -/
opaque vfloor : Nat → Nat → Nat

/-- The sign and payload of a quiet NaN that an operation makes: exponent bits, fraction bits (R117, R118 say only that
the result is a NaN; log entry 10). -/
opaque nanBits : Nat → Nat → Nat

/-- The 32 bytes of a session challenge drawn from the generator of R404, by draw number (log entry 11). -/
opaque drbg : Nat → Nat → Nat

/-- The trim of the locked discipline's proportional-integral law, in ppb, from the offset and the trim (R372; log
entry 12). -/
opaque piTrim : Int → Int → Int

/-- Factory values of the module: 0 hardware version, 1 serial number, 2 to 5 the MAC addresses of L0 to L3, 6 the
firmware revision; they never change (R344; log entry 4). -/
opaque factory : Nat → Nat

/-- Coefficient `i` of the 23-tap half-band filter (R74 names it and gives no coefficients; log entry 84). -/
opaque halfBand : Nat → Rat

/-- Tap `i`, 0 to 47, of the factory final FIR (R74 gives its shape and no coefficients; log entry 84). -/
opaque factoryFir : Nat → Rat

/-- A sample of the decimation chain that is not a whole number of LSB (R74 to R76 state no rounding; log entry 25). -/
opaque wholeSample : Rat → Int

/-- A mean that is not a whole number: sum and count (boxcars of R74, offset measurements of R269; log entry 25). -/
opaque mean : Int → Nat → Int

/-- Bytes of the factory keys: 0 Package Key 0, 1 to 4 the Role Keys Owner to Observer (R402; log entry 5). -/
opaque factoryKey : Nat → Nat → Nat

/-- What the die's capture path reads: the ledger's stamp and a byte offset (R386 names what the areas hold and lays out none
of them; log entry 40). -/
opaque capture : Nat → Nat → Nat

end Sys2Proof.Config
end

