-- ==== Sys2Proof/Machine/Operands.lean ====
section
/-! DEFINITION. Operand formats: BF16, FP8, FP32 and REAL32 (R117, R118, R9), canonical events and markers (R38, R39),
and the values of dictionary requests. -/

namespace Sys2Proof.Machine

/-- A floating value: a NaN, an infinity, or a finite value with the sign its zero carries. -/
inductive FVal where
  | nan
  | inf (neg : Bool)
  | fin (neg : Bool) (x : Rat)
  deriving DecidableEq, Repr

/-- A floating format: exponent bits, fraction bits, bias, and whether its highest exponent holds infinities. -/
structure FFormat where
  ebits : Nat
  mbits : Nat
  bias : Int
  ieee : Bool
  deriving DecidableEq, Repr

/-- FP32 and REAL32. -/
def fp32 : FFormat := ⟨8, 23, 127, true⟩
/-- BF16. -/
def bf16 : FFormat := ⟨8, 7, 127, true⟩
/-- FP8 E4M3: no infinity, NaN S.1111.111 (R118). -/
def e4m3 : FFormat := ⟨4, 3, 7, false⟩
/-- FP8 E5M2. -/
def e5m2 : FFormat := ⟨5, 2, 15, true⟩

/-- 2 to an integer power. -/
def pow2 (e : Int) : Rat := if 0 ≤ e then ((2 ^ e.toNat : Nat) : Rat) else 1 / ((2 ^ (-e).toNat : Nat) : Rat)

/-- The value of an encoding. -/
def FFormat.decode (f : FFormat) (n : Nat) : FVal :=
  let neg := bitAt n (f.ebits + f.mbits)
  let e := field n f.mbits f.ebits
  let m := field n 0 f.mbits
  let sg : Rat := if neg then -1 else 1
  if f.ieee ∧ e = 2 ^ f.ebits - 1 then (if m = 0 then .inf neg else .nan)
  else if ¬ f.ieee ∧ e = 2 ^ f.ebits - 1 ∧ m = 2 ^ f.mbits - 1 then .nan
  else if e = 0 then .fin neg (sg * (m : Nat) * pow2 (1 - f.bias - f.mbits))
  else .fin neg (sg * ((2 ^ f.mbits + m : Nat) : Rat) * pow2 ((e : Int) - f.bias - f.mbits))

/-- The floor of the base-2 logarithm of a positive rational. -/
def floorLog2 (x : Rat) : Int :=
  let e : Int := (Nat.log2 x.num.toNat : Int) - (Nat.log2 x.den : Int)
  if pow2 e ≤ x then (if pow2 (e + 1) ≤ x then e + 1 else e) else e - 1

/-- How a magnitude is rounded to a whole number: nearest-even, or up when the top 8 bits of the discarded part and the
random byte reach 256 (R119). -/
inductive Rounding where
  | nearest
  | stochastic (rnd : Nat)
  deriving DecidableEq, Repr

/-- A non-negative magnitude rounded to a whole number. -/
def roundMag (r : Rounding) (x : Rat) : Nat :=
  match r with
  | .nearest => (roundRat x).toNat
  | .stochastic rnd =>
    let q := (floorRat x).toNat
    if 256 ≤ (floorRat ((x - (q : Rat)) * 256)).toNat + rnd then q + 1 else q

/-- The encoding of a magnitude before its range is checked; gradual underflow (R117). -/
def FFormat.magBits (f : FFormat) (r : Rounding) (x : Rat) : Nat :=
  if x = 0 then 0
  else
    let emin : Int := 1 - f.bias
    let e := max (floorLog2 x) emin
    ((e - emin).toNat * 2 ^ f.mbits) + roundMag r (x / pow2 (e - f.mbits))

/-- The largest finite encoding, without sign. -/
def FFormat.maxFinite (f : FFormat) : Nat :=
  if f.ieee then (2 ^ f.ebits - 1) * 2 ^ f.mbits - 1 else 2 ^ (f.ebits + f.mbits) - 2

/-- A quiet NaN of a format: sign and payload are free (log entry 10). -/
def FFormat.qnan (f : FFormat) : Nat :=
  let n := Config.nanBits f.ebits f.mbits
  let sg := n % 2 * 2 ^ (f.ebits + f.mbits)
  if f.ieee then sg + (2 ^ f.ebits - 1) * 2 ^ f.mbits + 2 ^ (f.mbits - 1) + n / 2 % 2 ^ (f.mbits - 1)
  else sg + (2 ^ (f.ebits + f.mbits) - 1)

/-- The encoding of a value; `sat` saturates what lies beyond the range instead of giving an infinity (R118). -/
def FFormat.encode (f : FFormat) (r : Rounding) (sat : Bool) (v : FVal) : Nat :=
  let sign := fun (neg : Bool) => bnat neg * 2 ^ (f.ebits + f.mbits)
  match v with
  | .nan => f.qnan
  | .inf neg => sign neg + (if sat ∨ ¬ f.ieee then f.maxFinite else f.maxFinite + 1)
  | .fin neg x =>
    let neg' := if x = 0 then neg else decide (x < 0)
    let b := f.magBits r (if x < 0 then -x else x)
    sign neg' + (if f.maxFinite < b then (if sat ∨ ¬ f.ieee then f.maxFinite else f.maxFinite + 1) else b)

/-- The product of two values (R117). -/
def FVal.mul : FVal → FVal → FVal
  | .nan, _ => .nan
  | _, .nan => .nan
  | .inf a, .inf b => .inf (a != b)
  | .inf a, .fin b x => if x = 0 then .nan else .inf (a != b)
  | .fin a x, .inf b => if x = 0 then .nan else .inf (a != b)
  | .fin a x, .fin b y => .fin (a != b) (x * y)

/-- The exact sum of two values; infinities of opposite sign give NaN. -/
def FVal.add : FVal → FVal → FVal
  | .nan, _ => .nan
  | _, .nan => .nan
  | .inf a, .inf b => if a = b then .inf a else .nan
  | .inf a, .fin _ _ => .inf a
  | .fin _ _, .inf b => .inf b
  | .fin a x, .fin b y => .fin (a && b) (x + y)

/-- The negated value. -/
def FVal.neg : FVal → FVal
  | .nan => .nan
  | .inf a => .inf (!a)
  | .fin a x => .fin (!a) (-x)

/-- The magnitude. -/
def FVal.abs : FVal → FVal
  | .nan => .nan
  | .inf _ => .inf false
  | .fin _ x => .fin false (if x < 0 then -x else x)

/-- Whether a value is below another; a NaN is below nothing. -/
def FVal.lt : FVal → FVal → Bool
  | .nan, _ => false
  | _, .nan => false
  | .inf a, .inf b => a && !b
  | .inf a, .fin _ _ => a
  | .fin _ _, .inf b => !b
  | .fin _ x, .fin _ y => decide (x < y)

/-- The REAL32 of an encoding as a rational; what an infinity or a NaN stands for is open (log entry 78). -/
def real32 (n : Nat) : Rat :=
  match fp32.decode n with
  | .fin _ x => x
  | _ => Config.real32Open n

/-- Whether an encoding is a finite REAL32. -/
def isReal32 (n : Nat) : Bool :=
  match fp32.decode n with
  | .fin _ _ => true
  | _ => false

/-- Whether an encoding is a REAL32 above 0. -/
def aboveZero (n : Nat) : Bool := FVal.lt (.fin false 0) (fp32.decode n)

/-- Whether an encoding is a REAL32 of 0 or less. -/
def zeroOrLess (n : Nat) : Bool :=
  match fp32.decode n with
  | .nan => false
  | v => !FVal.lt (.fin false 0) v

/-- The REAL32 encoding of a rational. -/
def real32Bits (x : Rat) : Nat := fp32.encode .nearest true (.fin (decide (x < 0)) x)

/-! ## Lane words (R38, R39) -/

/-- The canonical event (Table 2-4). -/
def eventLane (port pol x y stamp : Nat) : BitVec 64 :=
  BitVec.ofNat 64 (port % 4 * 2 ^ 62 + pol % 2 * 2 ^ 61 + x % 4096 * 2 ^ 49 + y % 4096 * 2 ^ 37 + stamp % 2 ^ 37)

/-- The x of a canonical event. -/
def laneX (w : BitVec 64) : Nat := field w.toNat 49 12
/-- The y of a canonical event. -/
def laneY (w : BitVec 64) : Nat := field w.toNat 37 12

/-- The EPOCH marker (Table 2-5). -/
def epochMarker (port stamp : Nat) : BitVec 64 :=
  BitVec.ofNat 64 (1 * 2 ^ 60 + port % 4 * 2 ^ 58 + stamp / 2 ^ 37 % 2 ^ 27)

/-- The GAP marker (Table 2-5); `reasons` has bit 4 capacity, 3 governor, 2 queue full, 1 lossless overflow, 0 parity. -/
def gapMarker (port reasons n : Nat) : BitVec 64 :=
  BitVec.ofNat 64 (2 * 2 ^ 60 + port % 4 * 2 ^ 58 + reasons % 32 * 2 ^ 32 + satNat (2 ^ 32 - 1) n)

/-- The TRIGGER marker (Table 2-5). -/
def triggerMarker (port source number level stamp : Nat) : BitVec 64 :=
  BitVec.ofNat 64 (3 * 2 ^ 60 + port % 4 * 2 ^ 58 + source % 2 * 2 ^ 57 + number % 16 * 2 ^ 53 + level % 2 * 2 ^ 52
    + stamp % 2 ^ 37)

/-- The START marker (Table 2-5). -/
def startMarker (port cold stamp : Nat) : BitVec 64 :=
  BitVec.ofNat 64 (4 * 2 ^ 60 + port % 4 * 2 ^ 58 + cold % 2 * 2 ^ 57 + stamp % 2 ^ 37)

/-! ## Little builders of records -/

/-- A bit field of a record being laid out: value `v` of `w` bits at bit `lo`. -/
def put (lo w v : Nat) : Nat := v % 2 ^ w * 2 ^ lo

end Sys2Proof.Machine
end

