-- ==== Sys2Proof/Machine/BundleCode.lean ====
section
/-! DEFINITION. The 512-bit encoding of a bundle (R102, Tables 4-3, 4-4, 7-7). The tables give the headers, the operand fields and
the operations of slots 4 to 7; which opcode byte names which operation is Haleel's (`Config.opcode`), and so are the operands of
the classes of slot 7 that Table 4-4 leaves to them (log entry 14). -/

namespace Sys2Proof.Machine

/-! ## Headers and fields -/

/-- The word of slot `k` (Table 4-3). -/
def slotWord (w : BitVec 512) (k : Nat) : Nat := field w.toNat (64 * k) 64

/-- Bits [63:56], the opcode. -/
def opcodeOf (n : Nat) : Nat := field n 56 8

/-- The predicate of a slot: bits [55] and [54:50] (R102). -/
def predOf (n : Nat) : Option GReg := if bitAt n 55 then some ⟨field n 50 5 % 32, Nat.mod_lt _ (by decide)⟩ else none

/-- A scalar register field. -/
def gField (n lo : Nat) : GReg := ⟨field n lo 5 % 32, Nat.mod_lt _ (by decide)⟩

/-- A vector register field. -/
def vField (n lo : Nat) : VReg := ⟨field n lo 4 % 16, Nat.mod_lt _ (by decide)⟩

/-- Whether bits `[lo, lo + w)` are zero, as a reserved field has to be (R103). -/
def zeroField (n lo w : Nat) : Bool := field n lo w == 0

/-! ## Slots 0 to 3: the operation groups of Table 4-3 -/

/-- The operations of slot 0: integer arithmetic, logic, compare, loads and stores, branches. -/
def scalarOpsA : List ScalarOp :=
  [.add, .sub, .mul, .and, .or, .xor, .shl, .shr, .sar, .cmpEq, .cmpNe, .cmpLt, .cmpLtu, .load, .store, .branch]

/-- The operations of slot 1: integer arithmetic, logic, hardware loops, whose operands are in the immediate. -/
def scalarOpsB (imm : Nat) : List ScalarOp :=
  [.add, .sub, .mul, .and, .or, .xor, .shl, .shr, .sar, .loop (BitVec.ofNat 17 imm) (BitVec.ofNat 10 (imm / 2 ^ 17))]

/-- The operations of slot 2, each with its rounding: integer and floating arithmetic, compare, select, conversion, time
operations, SEED, and the operations of R153 to R156 that name vector pipe 0. -/
def vectorOpsA : List (VectorOp × Bool) :=
  [.add, .sub, .mul, .min, .max, .absDiff, .maxAbsDiff, .and, .or, .xor, .cmpEq, .cmpGt, .cmpGe, .select, .convFp8, .convInt8,
    .convInt4, .seed, .tafter, .tage, .tadd, .move, .accWide, .drain, .changed, .marks].map (fun o => (o, false)) ++ [(.convFp8, true)]

/-- The operations of slot 3: arithmetic, exp2, log2, reciprocal, reciprocal square root, lane reductions, permutes, conversion. -/
def vectorOpsB : List (VectorOp × Bool) :=
  [.add, .sub, .mul, .min, .max, .absDiff, .and, .or, .xor, .exp2, .log2, .recip, .rsqrt, .reduceAdd, .reduceMax, .reduceMin,
    .permute, .convFp8, .convInt8, .convInt4, .move, .drain].map (fun o => (o, false)) ++ [(.convFp8, true)]

/-- Slot 0 or 1. -/
def decodeScalar (k n : Nat) : Option ScalarSlot :=
  let op : Option ScalarOp := if opcodeOf n = 0 then some .nop
    else (if k = 0 then scalarOpsA else scalarOpsB (field n 0 32))[Config.opcode k (opcodeOf n)]?
  if zeroField n 48 2 then
    op.map (fun o => ⟨o, predOf n, gField n 43, gField n 38, gField n 33, bitAt n 32, BitVec.ofNat 32 n⟩)
  else none

/-- Slot 2 or 3; the two lowest places of the opcode's operation say which generators feed it. -/
def decodeVector (k n : Nat) : Option VectorSlot :=
  let c := Config.opcode k (opcodeOf n)
  let op : Option (VectorOp × Bool) := if opcodeOf n = 0 then some (.nop, false)
    else (if k = 2 then vectorOpsA else vectorOpsB)[c / 4]?
  if zeroField n 48 2 then
    op.map (fun o => ⟨o.1, predOf n, vField n 44, vField n 40, vField n 36, vField n 32, gField n 27, BitVec.ofNat 3 (field n 24 3),
      BitVec.ofNat 24 n, o.2, BitVec.ofNat 2 (if opcodeOf n = 0 then 0 else c)⟩)
  else none

/-! ## Slots 4 to 6: the op field of Table 4-4 -/

/-- Slot 4. Formats 6 and 7, roundings 2 and 3 and input 3 are reserved, and so is delta with input 2 (R156). -/
def decodeMac (n : Nat) : Option MacSlot :=
  let op : MacOp := match field n 44 2 with
    | 0 => .loadWeights
    | 1 => .accumulate
    | 2 => .drain
    | _ => .clear
  if opcodeOf n = 0 then (if zeroField n 48 2 && zeroField n 0 16 then some MacSlot.none else none)
  else if Config.opcode 4 (opcodeOf n) = 0 ∧ zeroField n 48 2 ∧ zeroField n 0 16 ∧ field n 41 3 < 6 ∧ field n 39 2 < 2
      ∧ field n 37 2 < 3 ∧ ¬(bitAt n 32 ∧ field n 37 2 = 2) then
    some ⟨op, predOf n, ⟨field n 46 2 % 4, Nat.mod_lt _ (by decide)⟩, BitVec.ofNat 3 (field n 41 3), bitAt n 39,
      BitVec.ofNat 2 (field n 37 2), vField n 33, bitAt n 32, BitVec.ofNat 16 (field n 16 16)⟩
  else none

/-- Slot 5 or 6. Slot 6 names ag2 and has no agsel. -/
def decodeAg (k n : Nat) : Option AgSlot :=
  let op : Option AgOp := [AgOp.loadDescriptor, .start, .advance, .stop, .readStatus][field n 44 3]?
  if opcodeOf n = 0 then (if zeroField n 48 2 && zeroField n 0 39 then some AgSlot.none else none)
  else if Config.opcode k (opcodeOf n) = 0 ∧ zeroField n 48 2 ∧ zeroField n 0 39 ∧ (k = 6 → field n 47 1 = 0) then
    op.map (fun o => ⟨o, predOf n, bitAt n 47, gField n 39⟩)
  else none

/-! ## Slot 7 -/

/-- An operation of the neuron unit (Table 7-7): [47:44] zero, [43:40] operation, [39:32] zero, operands in the immediate. -/
def decodeNeuron (n : Nat) : Option NeuronOp :=
  let delay : Fin 16 := ⟨field n 4 4 % 16, Nat.mod_lt _ (by decide)⟩
  if !(zeroField n 44 4 && zeroField n 32 8) then none
  else match field n 40 4 with
    | 0 => if zeroField n 10 22 then some (.inject (gField n 0) (gField n 5)) else none
    | 1 => if zeroField n 10 22 then some (.injectRoute (gField n 0) (gField n 5)) else none
    | 2 => if zeroField n 21 11 ∧ field n 8 13 ≤ 8128 then some (.nadd (vField n 0) delay (BitVec.ofNat 13 (field n 8 13))) else none
    | 3 => if zeroField n 5 27 then some (.inputMark (gField n 0)) else none
    | 4 => if zeroField n 5 27 then some (.done (gField n 0)) else none
    | 5 => if zeroField n 5 27 then some (.stepStatus (gField n 0)) else none
    | _ => none

/-- The operation of class `c` (Table 4-4). WAIT, TEST and SET name an object of the tile by its low 8 bits; TEST has its
destination in [44:40] (log entry 14). -/
def decodeClass (c n : Nat) : Option SyncOp :=
  let id8 := BitVec.ofNat 8 (field n 32 8)
  let imm := BitVec.ofNat 32 n
  match c with
  | 0 => (decodeNeuron n).map .neuron
  | 1 => if zeroField n 46 2 then some (.post (BitVec.ofNat 14 (field n 32 14)) imm) else none
  | 2 => if zeroField n 40 8 then some (.wait id8 imm) else none
  | 3 => if zeroField n 45 3 then some (.test id8 imm (gField n 40)) else none
  | 4 => if zeroField n 40 8 then some (.set id8 imm) else none
  | 5 => if zeroField n 32 16 then some (.release imm) else none
  | 6 => if zeroField n 32 16 && zeroField n 5 27 then some (.watermark (gField n 0)) else none
  | 7 => if zeroField n 0 48 then some .sleep else none
  | 8 => if zeroField n 36 12 then some (.kerbPost ⟨field n 32 3 % 8, Nat.mod_lt _ (by decide)⟩ (bitAt n 35) imm) else none
  | 9 => if zeroField n 32 16 && zeroField n 5 27 then some (.submit (gField n 0)) else none
  | 10 => if zeroField n 32 16 && zeroField n 15 17 then some (.resultPost (gField n 0) (gField n 5) (gField n 10)) else none
  | _ => none

/-- Slot 7: opcode bits [63:60] are 0x8, [59:56] the class (R102). -/
def decodeSync (n : Nat) : Option SyncSlot :=
  if opcodeOf n = 0 then (if zeroField n 48 2 then some SyncSlot.none else none)
  else if field n 60 4 = 8 ∧ zeroField n 48 2 then (decodeClass (field n 56 4) n).map (fun o => ⟨o, predOf n⟩)
  else none

/-! ## The bundle -/

/-- The bundle of a 512-bit word; none where it has an undefined opcode or a reserved field that is not zero (R103). -/
def decodeBundle (w : BitVec 512) : Option Bundle :=
  match decodeScalar 0 (slotWord w 0), decodeScalar 1 (slotWord w 1), decodeVector 2 (slotWord w 2), decodeVector 3 (slotWord w 3) with
  | some s0, some s1, some s2, some s3 =>
    match decodeMac (slotWord w 4), decodeAg 5 (slotWord w 5), decodeAg 6 (slotWord w 6), decodeSync (slotWord w 7) with
    | some s4, some s5, some s6, some s7 => some ⟨s0, s1, s2, s3, s4, s5, s6, s7⟩
    | _, _, _, _ => none
  | _, _, _, _ => none

end Sys2Proof.Machine
end

