-- ==== Sys2Proof/Machine/Layers.lean ====
section
/-! DEFINITION. The layers of a package: output sizes and empty layers (R135, R138), and the error bound of R168. -/

namespace Sys2Proof.Machine

/-! ## Sizes (R135, R138) -/

/-- The output size of an axis (R135). -/
def axisOut (inp k st d lo hi : Nat) : Int := ((inp : Int) + lo + hi - d * ((k : Int) - 1) - 1) / (st : Int) + 1

/-- Whether a layer has no output position on an axis (R138). -/
def LayerInfo.empty (l : LayerInfo) : Bool :=
  decide (axisOut l.inSize.1 l.filter.1 l.stride.1 l.dilation.1 l.padLo.1 l.padHi.1 < 1)
    || decide (axisOut l.inSize.2 l.filter.2 l.stride.2 l.dilation.2 l.padLo.2 l.padHi.2 < 1)

/-- Layers known not to be executed, with those added whose input is wholly their output (R138). -/
def growUnexecuted (ls : List LayerInfo) : Nat → List Nat → List Nat
  | 0, e => e
  | n + 1, e =>
    growUnexecuted ls n ((ls.filter (fun l => e.contains l.number || (l.inputs != [] && l.inputs.all e.contains))).map (·.number))

/-- The layers that are not executed: the empty ones, and every layer whose input is wholly the output of such layers (R138). -/
def unexecuted (ls : List LayerInfo) : List Nat := growUnexecuted ls ls.length ((ls.filter LayerInfo.empty).map (·.number))

/-! ## Error bounds (R167, R168) -/

/-- The value of a θ of a layer (R157): a count of input codes, or a BF16 value for FP8 and BF16 inputs. -/
def thetaValue (l : LayerInfo) (th : Nat) : Rat :=
  if 2 ≤ l.format then (match bf16.decode th with
    | .fin _ x => x
    | _ => 0) else (th : Rat)

/-- Whether a θ lies in the range of its layer's format (R157): 0 to 15, 0 to 255, or a BF16 value that is not negative. -/
def thetaOk (l : LayerInfo) (th : Nat) : Bool :=
  match l.format with
  | 0 => decide (th ≤ 15)
  | 1 => decide (th ≤ 255)
  | _ => decide (th ≤ 0x7F80)

/-- The worst-case error of one product (Table 6-2): truncated, and in the tolerant regime. -/
def productBound (l : LayerInfo) (truncated tolerant : Bool) : Rat :=
  let e : Nat := match l.format with
    | 0 => 3 * bnat truncated + 7 * bnat tolerant
    | 1 => 25 * bnat truncated + 63 * bnat tolerant
    | 4 => 25 * bnat truncated + 63 * bnat tolerant
    | _ => 0
  if l.format = 4 then (e : Rat) * pow2 (l.maxExp - 14) else (e : Rat)

/-- The format's own rounding over an accumulation (R117, Table 6-2): none in the integer formats; in the floating ones half an ulp for
each cycle, of which there are no more than products, each below 2^(maxExp + 2) (log entry 86). -/
def ownRounding (l : LayerInfo) : Rat :=
  if l.format = 2 ∨ l.format = 3 ∨ l.format = 4 then ((l.products * l.products : Nat) : Rat) * pow2 (l.maxExp - 22) else 0

/-- E_o of R168 for a layer at a θ. -/
def sumBound (l : LayerInfo) (th : Nat) (truncated tolerant : Bool) : Rat :=
  thetaValue l th * (l.weightNorm : Rat) + (l.products : Rat) * productBound l truncated tolerant + ownRounding l

/-- The bound of R168 in output LSB: requantised by the Q0.31 multiplier and the shift, and rounded. -/
def outputBound (l : LayerInfo) (th : Nat) (truncated tolerant : Bool) : Rat :=
  sumBound l th truncated tolerant * (l.mult : Rat) * pow2 (-31 - (l.scaleShift : Int)) + (if l.stochastic then 1 else 1 / 2)

end Sys2Proof.Machine
end

