-- ==== Sys2Proof/Machine/Names.lean ====
section
/-! DEFINITION. The keys of the objects of the dictionary: index times 256 plus subindex, one name for each row of the
object tables of 02_event_intake_and_kerb_path.md to 14_object_dictionary_reference.md. An argument is the copy (port, channel, tile, …)
or the position in a row that lists several subindices. -/

namespace Sys2Proof.Machine

/-- The key of an object: index and subindex in one number. -/
abbrev obKey (index sub : Nat) : Nat := index * 256 + sub

namespace Ob

/-- Port Enable (Table 2-13, R70). -/
abbrev portEnable (n : Nat) : Nat := obKey (0x2100 + 0x10 * n) 1
/-- Port State (Table 2-13, R70). -/
abbrev portState (n : Nat) : Nat := obKey (0x2100 + 0x10 * n) 2
/-- Lane Rate (Mbit/s) (Table 2-13, R70). -/
abbrev laneRate (n : Nat) : Nat := obKey (0x2100 + 0x10 * n) 3
/-- Port Command (Table 2-13, R70). -/
abbrev portCommand (n : Nat) : Nat := obKey (0x2100 + 0x10 * n) 4
/-- Word Format (Table 2-13, R70). -/
abbrev wordFormat (n : Nat) : Nat := obKey (0x2101 + 0x10 * n) 1
/-- Virtual Channel (Table 2-13, R70). -/
abbrev virtualChannel (n : Nat) : Nat := obKey (0x2101 + 0x10 * n) 2
/-- Data Type (Table 2-13, R70). -/
abbrev dataType (n : Nat) : Nat := obKey (0x2101 + 0x10 * n) 3
/-- Sensor Tick (ns, Q32.32) (Table 2-13, R70). -/
abbrev sensorTick (n : Nat) : Nat := obKey (0x2101 + 0x10 * n) 4
/-- Rate Tracking (Table 2-13, R70). -/
abbrev rateTracking (n : Nat) : Nat := obKey (0x2101 + 0x10 * n) 5
/-- Field Extractor (Table 2-13, R70). -/
abbrev fieldExtractor (n : Nat) : Nat := obKey (0x2102 + 0x10 * n) 0
/-- Calibrated Offset (ns) (Table 2-13, R70). -/
abbrev calibratedOffset (n : Nat) : Nat := obKey (0x2103 + 0x10 * n) 1
/-- Rate Trim (ppb) (Table 2-13, R70). -/
abbrev rateTrim (n : Nat) : Nat := obKey (0x2103 + 0x10 * n) 2
/-- Hot Pixel Enable (Table 2-13, R70). -/
abbrev hotPixelEnable (n : Nat) : Nat := obKey (0x2104 + 0x10 * n) 1
/-- Hot Threshold (ev/s) (Table 2-13, R70). -/
abbrev hotThreshold (n : Nat) : Nat := obKey (0x2104 + 0x10 * n) 2
/-- Release Threshold (ev/s) (Table 2-13, R70). -/
abbrev releaseThreshold (n : Nat) : Nat := obKey (0x2104 + 0x10 * n) 3
/-- Hot Window (ms) (Table 2-13, R70). -/
abbrev hotWindow (n : Nat) : Nat := obKey (0x2104 + 0x10 * n) 4
/-- Hot Pixel Count (Table 2-13, R70). -/
abbrev hotPixelCount (n : Nat) : Nat := obKey (0x2104 + 0x10 * n) 5
/-- Hot Pixel List (Table 2-13, R70). -/
abbrev hotPixelList (n : Nat) : Nat := obKey (0x2104 + 0x10 * n) 6
/-- Refractory Period (16 ns) (Table 2-13, R70). -/
abbrev refractoryPeriod (n : Nat) : Nat := obKey (0x2105 + 0x10 * n) 1
/-- Refractory Mode (Table 2-13, R70). -/
abbrev refractoryMode (n : Nat) : Nat := obKey (0x2105 + 0x10 * n) 2
/-- Surface Format (Table 2-13, R70). -/
abbrev surfaceFormat (n : Nat) : Nat := obKey (0x2106 + 0x10 * n) 1
/-- Surface Tick Shift (Table 2-13, R70). -/
abbrev surfaceTickShift (n : Nat) : Nat := obKey (0x2106 + 0x10 * n) 2
/-- Surface Width (Table 2-13, R70). -/
abbrev surfaceWidth (n : Nat) : Nat := obKey (0x2106 + 0x10 * n) 3
/-- Surface Height (Table 2-13, R70). -/
abbrev surfaceHeight (n : Nat) : Nat := obKey (0x2106 + 0x10 * n) 4
/-- Cold Time (ms) (Table 2-13, R70). -/
abbrev coldTime (n : Nat) : Nat := obKey (0x2106 + 0x10 * n) 5
/-- Cold Flag (Table 2-13, R70). -/
abbrev coldFlag (n : Nat) : Nat := obKey (0x2106 + 0x10 * n) 6
/-- Governor Policy (Table 2-13, R70). -/
abbrev governorPolicy (n : Nat) : Nat := obKey (0x2107 + 0x10 * n) 1
/-- Keep Fraction (1/256) (Table 2-13, R70). -/
abbrev keepFraction (n : Nat) : Nat := obKey (0x2107 + 0x10 * n) 2
/-- Region Priority (Table 2-13, R70). -/
abbrev regionPriority (n : Nat) : Nat := obKey (0x2107 + 0x10 * n) 3
/-- Port counters (Table 2-13, R70). -/
abbrev portCounter (n : Nat) (i : Nat) : Nat := obKey (0x2108 + 0x10 * n) (1 + i)
/-- I3C Bus Mode (Table 2-13, R70). -/
abbrev i3cBusMode (n : Nat) : Nat := obKey (0x2109 + 0x10 * n) 1
/-- I3C Transfer (Table 2-13, R70). -/
abbrev i3cTransfer (n : Nat) : Nat := obKey (0x2109 + 0x10 * n) 2
/-- Transfer Status (Table 2-13, R70). -/
abbrev transferStatus (n : Nat) : Nat := obKey (0x2109 + 0x10 * n) 3
/-- Transfer Read Data (Table 2-13, R70). -/
abbrev transferReadData (n : Nat) : Nat := obKey (0x2109 + 0x10 * n) 4
/-- In-band Interrupt (Table 2-13, R70). -/
abbrev inbandInterrupt (n : Nat) : Nat := obKey (0x2109 + 0x10 * n) 5
/-- Replay Oldest Stamp (ns) (Table 2-13, R70). -/
abbrev replayOldestStamp (n : Nat) : Nat := obKey (0x210A + 0x10 * n) 1
/-- Replay Fill (bytes) (Table 2-13, R70). -/
abbrev replayFill (n : Nat) : Nat := obKey (0x210A + 0x10 * n) 2
/-- Region Cell Shift S0–S3 (Table 2-14, R71). -/
abbrev regionCellShift (i : Nat) : Nat := obKey 0x2300 (1 + i)
/-- Region Origin S0–S3 (Table 2-14, R71). -/
abbrev regionOrigin (i : Nat) : Nat := obKey 0x2301 (1 + i)
/-- Region Map S0–S3 (Table 2-14, R71). -/
abbrev regionMap (i : Nat) : Nat := obKey 0x2302 (1 + i)
/-- Counter Set (Table 2-14, R71). -/
abbrev counterSet : Nat := obKey 0x2303 0
/-- Counter Values (Table 2-14, R71). -/
abbrev counterValues : Nat := obKey 0x2304 0
/-- Rule Enable (Table 2-14, R71). -/
abbrev ruleEnable (n : Nat) : Nat := obKey (0x2310 + n) 1
/-- Rule Source (Table 2-14, R71). -/
abbrev ruleSource (n : Nat) : Nat := obKey (0x2310 + n) 2
/-- Rule Output (Table 2-14, R71). -/
abbrev ruleOutput (n : Nat) : Nat := obKey (0x2310 + n) 3
/-- Rule Mode (Table 2-14, R71). -/
abbrev ruleMode (n : Nat) : Nat := obKey (0x2310 + n) 4
/-- On Level (Table 2-14, R71). -/
abbrev onLevel (n : Nat) : Nat := obKey (0x2310 + n) 5
/-- Off Level (Table 2-14, R71). -/
abbrev offLevel (n : Nat) : Nat := obKey (0x2310 + n) 6
/-- Pulse Width (cycles) (Table 2-14, R71). -/
abbrev pulseWidth (n : Nat) : Nat := obKey (0x2310 + n) 7
/-- Inhibit (cycles) (Table 2-14, R71). -/
abbrev inhibit (n : Nat) : Nat := obKey (0x2310 + n) 8
/-- Arm (Table 2-14, R71). -/
abbrev arm (n : Nat) : Nat := obKey (0x2310 + n) 9
/-- Verify (Table 2-14, R71). -/
abbrev verify (n : Nat) : Nat := obKey (0x2310 + n) 10
/-- Output Polarity (Table 2-14, R71). -/
abbrev outputPolarity (n : Nat) : Nat := obKey (0x2340 + n) 1
/-- Safe Level (Table 2-14, R71). -/
abbrev safeLevel (n : Nat) : Nat := obKey (0x2340 + n) 2
/-- Latch Clear (Table 2-14, R71). -/
abbrev latchClear (n : Nat) : Nat := obKey (0x2340 + n) 3
/-- Output State (Table 2-14, R71). -/
abbrev outputState (n : Nat) : Nat := obKey (0x2340 + n) 4
/-- Edge Record (Table 2-14, R71). -/
abbrev edgeRecord : Nat := obKey 0x2350 1
/-- Overwritten Count (Table 2-14, R71). -/
abbrev overwrittenCount : Nat := obKey 0x2350 2
/-- Channel Enable (Table 3-5, R95). -/
abbrev channelEnable (n : Nat) : Nat := obKey (0x2200 + n) 1
/-- Preset (Table 3-5, R95). -/
abbrev preset (n : Nat) : Nat := obKey (0x2200 + n) 2
/-- Filter Mode (Table 3-5, R95). -/
abbrev filterMode (n : Nat) : Nat := obKey (0x2200 + n) 3
/-- Boxcar Length 1 to 3 (Table 3-5, R95). -/
abbrev boxcarLength (n : Nat) (i : Nat) : Nat := obKey (0x2200 + n) (4 + i)
/-- DC Blocker Enable (Table 3-5, R95). -/
abbrev dcBlockerEnable (n : Nat) : Nat := obKey (0x2200 + n) 7
/-- DC Corner (mHz) (Table 3-5, R95). -/
abbrev dcCorner (n : Nat) : Nat := obKey (0x2200 + n) 8
/-- DC Preload (LSB) (Table 3-5, R95). -/
abbrev dcPreload (n : Nat) : Nat := obKey (0x2200 + n) 9
/-- DC Preload Source (Table 3-5, R95). -/
abbrev dcPreloadSource (n : Nat) : Nat := obKey (0x2200 + n) 10
/-- DC Freeze (Table 3-5, R95). -/
abbrev dcFreeze (n : Nat) : Nat := obKey (0x2200 + n) 11
/-- DC Estimate (LSB) (Table 3-5, R95). -/
abbrev dcEstimate (n : Nat) : Nat := obKey (0x2200 + n) 12
/-- FIR Set (Table 3-5, R95). -/
abbrev firSet (n : Nat) : Nat := obKey (0x2200 + n) 13
/-- Custom FIR (Table 3-5, R95). -/
abbrev customFir (n : Nat) : Nat := obKey (0x2200 + n) 14
/-- Group Delay (ps) (Table 3-5, R95). -/
abbrev groupDelay (n : Nat) : Nat := obKey (0x2200 + n) 15
/-- Settling (samples) (Table 3-5, R95). -/
abbrev settling (n : Nat) : Nat := obKey (0x2200 + n) 16
/-- Channel State (Table 3-5, R95). -/
abbrev channelState (n : Nat) : Nat := obKey (0x2200 + n) 17
/-- Overrange Count (Table 3-5, R95). -/
abbrev overrangeCount (n : Nat) : Nat := obKey (0x2200 + n) 18
/-- Modulator Reset Count (Table 3-5, R95). -/
abbrev modulatorResetCount (n : Nat) : Nat := obKey (0x2200 + n) 19
/-- Coarse Code (Table 3-5, R95). -/
abbrev coarseCode (n : Nat) : Nat := obKey (0x2200 + n) 20
/-- Last Sample (Table 3-5, R95). -/
abbrev lastSample (n : Nat) : Nat := obKey (0x2200 + n) 21
/-- Inertial Enable (Table 3-6, R95). -/
abbrev inertialEnable (n : Nat) : Nat := obKey (0x2210 + n) 1
/-- SPI Clock (kHz) (Table 3-6, R95). -/
abbrev spiClock (n : Nat) : Nat := obKey (0x2210 + n) 2
/-- SPI Mode (Table 3-6, R95). -/
abbrev spiMode (n : Nat) : Nat := obKey (0x2210 + n) 3
/-- Read Trigger (Table 3-6, R95). -/
abbrev readTrigger (n : Nat) : Nat := obKey (0x2210 + n) 4
/-- Sample Period (ns) (Table 3-6, R95). -/
abbrev samplePeriod (n : Nat) : Nat := obKey (0x2210 + n) 5
/-- Read Program (Table 3-6, R95). -/
abbrev readProgram (n : Nat) : Nat := obKey (0x2210 + n) 6
/-- Sensor Latency (ns) (Table 3-6, R95). -/
abbrev sensorLatency (n : Nat) : Nat := obKey (0x2210 + n) 7
/-- Inertial State (Table 3-6, R95). -/
abbrev inertialState (n : Nat) : Nat := obKey (0x2210 + n) 8
/-- Missed Count (Table 3-6, R95). -/
abbrev missedCount (n : Nat) : Nat := obKey (0x2210 + n) 9
/-- Read Count (Table 3-6, R95). -/
abbrev readCount (n : Nat) : Nat := obKey (0x2210 + n) 10
/-- Encoder Enable (Table 3-7, R95). -/
abbrev encoderEnable (n : Nat) : Nat := obKey (0x2220 + n) 1
/-- Count Mode (Table 3-7, R95). -/
abbrev countMode (n : Nat) : Nat := obKey (0x2220 + n) 2
/-- Glitch Filter (cycles) (Table 3-7, R95). -/
abbrev glitchFilter (n : Nat) : Nat := obKey (0x2220 + n) 3
/-- Index Mode (Table 3-7, R95). -/
abbrev indexMode (n : Nat) : Nat := obKey (0x2220 + n) 4
/-- Direction Invert (Table 3-7, R95). -/
abbrev directionInvert (n : Nat) : Nat := obKey (0x2220 + n) 5
/-- Position Preset (Table 3-7, R95). -/
abbrev positionPreset (n : Nat) : Nat := obKey (0x2220 + n) 6
/-- Encoder Command (Table 3-7, R95). -/
abbrev encoderCommand (n : Nat) : Nat := obKey (0x2220 + n) 7
/-- Position (Table 3-7, R95). -/
abbrev position (n : Nat) : Nat := obKey (0x2220 + n) 8
/-- Index Latch (Table 3-7, R95). -/
abbrev indexLatch (n : Nat) : Nat := obKey (0x2220 + n) 9
/-- Encoder State (Table 3-7, R95). -/
abbrev encoderState (n : Nat) : Nat := obKey (0x2220 + n) 10
/-- Illegal Transition Count (Table 3-7, R95). -/
abbrev illegalTransitionCount (n : Nat) : Nat := obKey (0x2220 + n) 11
/-- Line Fault Count (Table 3-7, R95). -/
abbrev lineFaultCount (n : Nat) : Nat := obKey (0x2220 + n) 12
/-- Sample Ring Base A0–A7, M0–M1, E0–E3 (Table 3-7, R95). -/
abbrev sampleRingBase (i : Nat) : Nat := obKey 0x2230 (1 + i)
/-- Contexts Running (Table 4-10, R131). -/
abbrev contextsRunning : Nat := obKey 0x2400 1
/-- Tiles Asleep (Table 4-10, R131). -/
abbrev tilesAsleep : Nat := obKey 0x2400 2
/-- Context State (Table 4-10, R131). -/
abbrev contextState (n : Nat) : Nat := obKey (0x2410 + n) 1
/-- Partition Origin (Table 4-10, R131). -/
abbrev partitionOrigin (n : Nat) : Nat := obKey (0x2410 + n) 2
/-- Partition Size (Table 4-10, R131). -/
abbrev partitionSize (n : Nat) : Nat := obKey (0x2410 + n) 3
/-- Logical Time (ns) (Table 4-10, R131). -/
abbrev logicalTime (n : Nat) : Nat := obKey (0x2410 + n) 4
/-- Lag (ns) (Table 4-10, R131). -/
abbrev lag (n : Nat) : Nat := obKey (0x2410 + n) 5
/-- Context Status (Table 4-10, R131). -/
abbrev contextStatus (n : Nat) : Nat := obKey (0x2410 + n) 6
/-- Subscriptions (Table 4-10, R131). -/
abbrev subscriptions (n : Nat) : Nat := obKey (0x2410 + n) 7
/-- Tile State (Table 4-10, R131). -/
abbrev tileState (n : Nat) : Nat := obKey (0x3000 + 0x40 * n) 1
/-- Tile Context (Table 4-10, R131). -/
abbrev tileContext (n : Nat) : Nat := obKey (0x3000 + 0x40 * n) 2
/-- Tile Clock (MHz) (Table 4-10, R131). -/
abbrev tileClock (n : Nat) : Nat := obKey (0x3000 + 0x40 * n) 3
/-- Bundles Retired (Table 4-10, R131). -/
abbrev bundlesRetired (n : Nat) : Nat := obKey (0x3000 + 0x40 * n) 4
/-- Array Cycles Active (Table 4-10, R131). -/
abbrev arrayCyclesActive (n : Nat) : Nat := obKey (0x3000 + 0x40 * n) 5
/-- SRAM Corrected Count (Table 4-10, R131). -/
abbrev sramCorrectedCount (n : Nat) : Nat := obKey (0x3000 + 0x40 * n) 6
/-- SRAM Uncorrected Count (Table 4-10, R131). -/
abbrev sramUncorrectedCount (n : Nat) : Nat := obKey (0x3000 + 0x40 * n) 7
/-- Rounding Seed (Table 4-10, R131). -/
abbrev roundingSeed (n : Nat) : Nat := obKey (0x3000 + 0x40 * n) 8
/-- Accumulator Saturation Count (Table 4-10, R131). -/
abbrev accumulatorSaturationCount (n : Nat) : Nat := obKey (0x3000 + 0x40 * n) 9
/-- Transaction Error Count (Table 4-10, R131). -/
abbrev transactionErrorCount (n : Nat) : Nat := obKey (0x3000 + 0x40 * n) 10
/-- Outstanding Transactions (Table 4-10, R131). -/
abbrev outstandingTransactions (n : Nat) : Nat := obKey (0x3000 + 0x40 * n) 11
/-- Power Cap (0.1 W) (Table 6-4, R174). -/
abbrev powerCap : Nat := obKey 0x2600 1
/-- Clock Min (MHz) (Table 6-4, R174). -/
abbrev clockMin : Nat := obKey 0x2600 2
/-- Clock Max (MHz) (Table 6-4, R174). -/
abbrev clockMax : Nat := obKey 0x2600 3
/-- Voltage Max (mV) (Table 6-4, R174). -/
abbrev voltageMax : Nat := obKey 0x2600 4
/-- Canary Target (errors per 10 µs) (Table 6-4, R174). -/
abbrev canaryTarget : Nat := obKey 0x2600 5
/-- Tolerance Enable (Table 6-4, R174). -/
abbrev toleranceEnable (n : Nat) : Nat := obKey (0x2610 + n) 1
/-- Delta Enable (Table 6-4, R174). -/
abbrev deltaEnable (n : Nat) : Nat := obKey (0x2610 + n) 2
/-- Target Error (1/16 output LSB) (Table 6-4, R174). -/
abbrev targetError (n : Nat) : Nat := obKey (0x2610 + n) 3
/-- Theta Mode (Table 6-4, R174). -/
abbrev thetaMode (n : Nat) : Nat := obKey (0x2610 + n) 4
/-- Audit Interval (evaluations) (Table 6-4, R174). -/
abbrev auditInterval (n : Nat) : Nat := obKey (0x2610 + n) 5
/-- Start Evaluations (Table 6-4, R174). -/
abbrev startEvaluations (n : Nat) : Nat := obKey (0x2610 + n) 6
/-- Arithmetic Mode (Table 6-4, R174). -/
abbrev arithmeticMode (n : Nat) : Nat := obKey (0x2610 + n) 7
/-- Force Exact (Table 6-4, R174). -/
abbrev forceExact (n : Nat) : Nat := obKey (0x2610 + n) 8
/-- Theta Table (Table 6-4, R174). -/
abbrev thetaTable (n : Nat) : Nat := obKey (0x2610 + n) 9
/-- Theta Current (Table 6-4, R174). -/
abbrev thetaCurrent (n : Nat) : Nat := obKey (0x2610 + n) 10
/-- Bound Report (Table 6-4, R174). -/
abbrev boundReport (n : Nat) : Nat := obKey (0x2610 + n) 11
/-- Reuse Fraction (1/65,536) (Table 6-4, R174). -/
abbrev reuseFraction (n : Nat) : Nat := obKey (0x2610 + n) 12
/-- Bound Breach Count (Table 6-4, R174). -/
abbrev boundBreachCount (n : Nat) : Nat := obKey (0x2610 + n) 13
/-- Theta Predicted Excess (1/16 output LSB) (Table 6-4, R174). -/
abbrev thetaPredictedExcess (n : Nat) : Nat := obKey (0x2610 + n) 14
/-- Tolerance Locked (Table 6-4, R174). -/
abbrev toleranceLocked (n : Nat) : Nat := obKey (0x2610 + n) 15
/-- Maximum Lag (µs) (Table 6-4, R174). -/
abbrev maximumLag (n : Nat) : Nat := obKey (0x2107 + 0x10 * n) 4
/-- Keep Floor (1/256) (Table 6-4, R174). -/
abbrev keepFloor (n : Nat) : Nat := obKey (0x2107 + 0x10 * n) 5
/-- Keep Ceiling (1/256) (Table 6-4, R174). -/
abbrev keepCeiling (n : Nat) : Nat := obKey (0x2107 + 0x10 * n) 6
/-- Governor Pin (Table 6-4, R174). -/
abbrev governorPin (n : Nat) : Nat := obKey (0x2107 + 0x10 * n) 7
/-- Pinned Keep Fraction (1/256) (Table 6-4, R174). -/
abbrev pinnedKeepFraction (n : Nat) : Nat := obKey (0x2107 + 0x10 * n) 8
/-- Predicted Lag Excess (µs) (Table 6-4, R174). -/
abbrev predictedLagExcess (n : Nat) : Nat := obKey (0x2107 + 0x10 * n) 9
/-- Wait Limit Min (ns) (Table 6-4, R174). -/
abbrev waitLimitMin : Nat := obKey 0x2730 1
/-- Wait Limit Max (ns) (Table 6-4, R174). -/
abbrev waitLimitMax : Nat := obKey 0x2730 2
/-- Wait Limit Mode (Table 6-4, R174). -/
abbrev waitLimitMode : Nat := obKey 0x2730 3
/-- Pinned Wait Limit (ns) (Table 6-4, R174). -/
abbrev pinnedWaitLimit : Nat := obKey 0x2730 4
/-- Late Target (1/65,536) (Table 6-4, R174). -/
abbrev lateTarget : Nat := obKey 0x2730 5
/-- Wait Limit (ns) (Table 6-4, R174). -/
abbrev waitLimit : Nat := obKey 0x2730 6
/-- Late Predicted Excess (1/65,536) (Table 6-4, R174). -/
abbrev latePredictedExcess : Nat := obKey 0x2730 7
/-- Loop Mode (Table 6-4, R174). -/
abbrev loopMode (n : Nat) : Nat := obKey (0x3000 + 0x40 * n) 16
/-- Pinned Clock (MHz) (Table 6-4, R174). -/
abbrev pinnedClock (n : Nat) : Nat := obKey (0x3000 + 0x40 * n) 17
/-- Pinned Voltage (mV) (Table 6-4, R174). -/
abbrev pinnedVoltage (n : Nat) : Nat := obKey (0x3000 + 0x40 * n) 18
/-- Tile Voltage (mV) (Table 6-4, R174). -/
abbrev tileVoltage (n : Nat) : Nat := obKey (0x3000 + 0x40 * n) 19
/-- Regime (Table 6-4, R174). -/
abbrev regime (n : Nat) : Nat := obKey (0x3000 + 0x40 * n) 20
/-- Vsafe at Current Clock (mV) (Table 6-4, R174). -/
abbrev vsafeAtCurrentClock (n : Nat) : Nat := obKey (0x3000 + 0x40 * n) 21
/-- Vfloor at Current Clock (mV) (Table 6-4, R174). -/
abbrev vfloorAtCurrentClock (n : Nat) : Nat := obKey (0x3000 + 0x40 * n) 22
/-- Low Canary Count (Table 6-4, R174). -/
abbrev lowCanaryCount (n : Nat) : Nat := obKey (0x3000 + 0x40 * n) 23
/-- Guard Canary Count (Table 6-4, R174). -/
abbrev guardCanaryCount (n : Nat) : Nat := obKey (0x3000 + 0x40 * n) 24
/-- Power Predicted Excess (0.1 W) (Table 6-4, R174). -/
abbrev powerPredictedExcess (n : Nat) : Nat := obKey (0x3000 + 0x40 * n) 25
/-- Route Table Base (Table 7-9, R203). -/
abbrev routeTableBase : Nat := obKey 0x2500 1
/-- Route Entries Free (Table 7-9, R203). -/
abbrev routeEntriesFree : Nat := obKey 0x2500 2
/-- Neurons Resident (Table 7-9, R203). -/
abbrev neuronsResident : Nat := obKey 0x2500 3
/-- Step Length (ns) (Table 7-9, R203). -/
abbrev stepLength (n : Nat) : Nat := obKey (0x2510 + n) 1
/-- Input Guard (ns) (Table 7-9, R203). -/
abbrev inputGuard (n : Nat) : Nat := obKey (0x2510 + n) 2
/-- Program Participation (Table 7-9, R203). -/
abbrev programParticipation (n : Nat) : Nat := obKey (0x2510 + n) 3
/-- Current Step (Table 7-9, R203). -/
abbrev currentStep (n : Nat) : Nat := obKey (0x2510 + n) 4
/-- Steps Executed (Table 7-9, R203). -/
abbrev stepsExecuted (n : Nat) : Nat := obKey (0x2510 + n) 5
/-- Steps Skipped (Table 7-9, R203). -/
abbrev stepsSkipped (n : Nat) : Nat := obKey (0x2510 + n) 6
/-- Spikes (Table 7-9, R203). -/
abbrev spikes (n : Nat) : Nat := obKey (0x2510 + n) 7
/-- Late Inputs (Table 7-9, R203). -/
abbrev lateInputs (n : Nat) : Nat := obKey (0x2510 + n) 8
/-- Far Drops (Table 7-9, R203). -/
abbrev farDrops (n : Nat) : Nat := obKey (0x2510 + n) 9
/-- Ordered Overflows (Table 7-9, R203). -/
abbrev orderedOverflows (n : Nat) : Nat := obKey (0x2510 + n) 10
/-- Longest Step (ns) (Table 7-9, R203). -/
abbrev longestStep (n : Nat) : Nat := obKey (0x2510 + n) 11
/-- Neuron Seed (Table 7-9, R203). -/
abbrev neuronSeed (n : Nat) : Nat := obKey (0x2510 + n) 12
/-- Route Base (Table 7-9, R203). -/
abbrev routeBase (n : Nat) : Nat := obKey (0x2510 + n) 13
/-- Route Count (Table 7-9, R203). -/
abbrev routeCount (n : Nat) : Nat := obKey (0x2510 + n) 14
/-- Neurons Resident (Table 7-9, R203). -/
abbrev tileNeuronsResident (n : Nat) : Nat := obKey (0x3000 + 0x40 * n) 32
/-- Neurons Updated Last Step (Table 7-9, R203). -/
abbrev neuronsUpdatedLastStep (n : Nat) : Nat := obKey (0x3000 + 0x40 * n) 33
/-- Step Phase (Table 7-9, R203). -/
abbrev stepPhase (n : Nat) : Nat := obKey (0x3000 + 0x40 * n) 34
/-- Input Mark (ns) (Table 7-9, R203). -/
abbrev inputMark (n : Nat) : Nat := obKey (0x3000 + 0x40 * n) 35
/-- Route Cache Hits (Table 7-9, R203). -/
abbrev routeCacheHits (n : Nat) : Nat := obKey (0x3000 + 0x40 * n) 36
/-- Route Cache Misses (Table 7-9, R203). -/
abbrev routeCacheMisses (n : Nat) : Nat := obKey (0x3000 + 0x40 * n) 37
/-- Synaptic Inputs Applied (Table 7-9, R203). -/
abbrev synapticInputsApplied (n : Nat) : Nat := obKey (0x3000 + 0x40 * n) 38
/-- Spike Messages Sent (Table 7-9, R203). -/
abbrev spikeMessagesSent (n : Nat) : Nat := obKey (0x3000 + 0x40 * n) 39
/-- Far List Fill (Table 7-9, R203). -/
abbrev farListFill (n : Nat) : Nat := obKey (0x3000 + 0x40 * n) 40
/-- Ordered List Fill (Table 7-9, R203). -/
abbrev orderedListFill (n : Nat) : Nat := obKey (0x3000 + 0x40 * n) 41
/-- Frame Enable (Table 8-6, R229). -/
abbrev frameEnable (n : Nat) : Nat := obKey (0x2700 + n) 1
/-- Intrinsics (Table 8-6, R229). -/
abbrev intrinsics (n : Nat) : Nat := obKey (0x2700 + n) 2
/-- Distortion (Table 8-6, R229). -/
abbrev distortion (n : Nat) : Nat := obKey (0x2700 + n) 3
/-- Extrinsic (Table 8-6, R229). -/
abbrev extrinsic (n : Nat) : Nat := obKey (0x2700 + n) 4
/-- Plane (Table 8-6, R229). -/
abbrev plane (n : Nat) : Nat := obKey (0x2700 + n) 5
/-- Image Size (Table 8-6, R229). -/
abbrev imageSize (n : Nat) : Nat := obKey (0x2700 + n) 6
/-- Arithmetic (Table 8-6, R229). -/
abbrev arithmetic (n : Nat) : Nat := obKey (0x2700 + n) 7
/-- Frame Epoch (Table 8-6, R229). -/
abbrev frameEpoch (n : Nat) : Nat := obKey (0x2700 + n) 8
/-- Ego Enable (Table 8-6, R229). -/
abbrev egoEnable : Nat := obKey 0x2710 1
/-- Encoder Roles (Table 8-6, R229). -/
abbrev encoderRoles : Nat := obKey 0x2710 2
/-- Encoder Scale (Table 8-6, R229). -/
abbrev encoderScale : Nat := obKey 0x2710 3
/-- Inertial Source (Table 8-6, R229). -/
abbrev inertialSource : Nat := obKey 0x2710 4
/-- Inertial Extrinsic (Table 8-6, R229). -/
abbrev inertialExtrinsic : Nat := obKey 0x2710 5
/-- Gyro Bias (Table 8-6, R229). -/
abbrev gyroBias : Nat := obKey 0x2710 6
/-- Gravity Reference (Table 8-6, R229). -/
abbrev gravityReference : Nat := obKey 0x2710 7
/-- Mount HP Corner (mHz) (Table 8-6, R229). -/
abbrev mountHpCorner : Nat := obKey 0x2710 8
/-- Speed Window (slots) (Table 8-6, R229). -/
abbrev speedWindow : Nat := obKey 0x2710 9
/-- Reference Reset (Table 8-6, R229). -/
abbrev referenceReset : Nat := obKey 0x2710 10
/-- Ego State Causal (Table 8-6, R229). -/
abbrev egoStateCausal : Nat := obKey 0x2711 1
/-- Ego State Settled (Table 8-6, R229). -/
abbrev egoStateSettled : Nat := obKey 0x2711 2
/-- Await Mask (Table 8-6, R229). -/
abbrev awaitMask : Nat := obKey 0x2720 1
/-- Late Window (slots) (Table 8-6, R229). -/
abbrev lateWindow : Nat := obKey 0x2720 2
/-- Slots Open (Table 8-6, R229). -/
abbrev slotsOpen : Nat := obKey 0x2720 3
/-- Last Issued Slot (Table 8-6, R229). -/
abbrev lastIssuedSlot : Nat := obKey 0x2720 4
/-- Late Queue Fill (Table 8-6, R229). -/
abbrev lateQueueFill : Nat := obKey 0x2720 5
/-- Closed by Deadline (Table 8-6, R229). -/
abbrev closedByDeadline : Nat := obKey 0x2720 6
/-- Late Applied (Table 8-6, R229). -/
abbrev lateApplied : Nat := obKey 0x2720 7
/-- Late Discarded (Table 8-6, R229). -/
abbrev lateDiscarded : Nat := obKey 0x2720 8
/-- Updates Dropped (Table 8-6, R229). -/
abbrev updatesDropped : Nat := obKey 0x2720 9
/-- Early or Future Discards (Table 8-6, R229). -/
abbrev earlyOrFutureDiscards : Nat := obKey 0x2720 10
/-- Records Rejected (Table 8-6, R229). -/
abbrev recordsRejected : Nat := obKey 0x2720 11
/-- Stream Watermarks (Table 8-6, R229). -/
abbrev streamWatermarks : Nat := obKey 0x2720 12
/-- Followed Tracks (Table 8-6, R229). -/
abbrev followedTracks : Nat := obKey 0x2720 13
/-- Analog Alignment Mask (Table 8-6, R229). -/
abbrev analogAlignmentMask : Nat := obKey 0x2720 14
/-- Feed Enable (Table 8-6, R229). -/
abbrev feedEnable (n : Nat) : Nat := obKey (0x2740 + n) 1
/-- Feed Region Mask (Table 8-6, R229). -/
abbrev feedRegionMask (n : Nat) : Nat := obKey (0x2740 + n) 2
/-- Event Min Count (Table 8-6, R229). -/
abbrev eventMinCount (n : Nat) : Nat := obKey (0x2740 + n) 3
/-- Feed Drops (Table 8-6, R229). -/
abbrev feedDrops (n : Nat) : Nat := obKey (0x2740 + n) 4
/-- Events Accumulated (Table 8-6, R229). -/
abbrev eventsAccumulated (n : Nat) : Nat := obKey (0x2740 + n) 5
/-- Process Noise (Table 9-6, R251). -/
abbrev processNoise : Nat := obKey 0x2800 1
/-- Gate (Table 9-6, R251). -/
abbrev gateThreshold : Nat := obKey 0x2800 2
/-- Hint Gate (Table 9-6, R251). -/
abbrev hintGate : Nat := obKey 0x2800 3
/-- Confirm Hits (Table 9-6, R251). -/
abbrev confirmHits : Nat := obKey 0x2800 4
/-- Confirm Gap (slots) (Table 9-6, R251). -/
abbrev confirmGap : Nat := obKey 0x2800 5
/-- Delete After (slots) (Table 9-6, R251). -/
abbrev deleteAfter : Nat := obKey 0x2800 6
/-- Max Position Variance (m²) (Table 9-6, R251). -/
abbrev maxPositionVariance : Nat := obKey 0x2800 7
/-- Birth Covariance (Table 9-6, R251). -/
abbrev birthCovariance : Nat := obKey 0x2800 8
/-- Birth Defaults (Table 9-6, R251). -/
abbrev birthDefaults : Nat := obKey 0x2800 9
/-- Line-Borne (Table 9-6, R251). -/
abbrev lineborne : Nat := obKey 0x2800 10
/-- Line Direction (Table 9-6, R251). -/
abbrev lineDirection : Nat := obKey 0x2800 11
/-- Refresh Count (Table 9-6, R251). -/
abbrev refreshCount : Nat := obKey 0x2800 12
/-- Live Tracks (Table 9-6, R251). -/
abbrev liveTracks : Nat := obKey 0x2801 1
/-- Confirmed Tracks (Table 9-6, R251). -/
abbrev confirmedTracks : Nat := obKey 0x2801 2
/-- Births (Table 9-6, R251). -/
abbrev births : Nat := obKey 0x2801 3
/-- Births Refused (Table 9-6, R251). -/
abbrev birthsRefused : Nat := obKey 0x2801 4
/-- Deletions (Table 9-6, R251). -/
abbrev deletions : Nat := obKey 0x2801 5
/-- Unassociated (Table 9-6, R251). -/
abbrev unassociated : Nat := obKey 0x2801 6
/-- Updates Skipped (Table 9-6, R251). -/
abbrev updatesSkipped : Nat := obKey 0x2801 7
/-- Track Detail (Table 9-6, R251). -/
abbrev trackDetail : Nat := obKey 0x2802 0
/-- Device Step (Table 9-6, R251). -/
abbrev deviceStep : Nat := obKey 0x2810 1
/-- Demotion Factor (Table 9-6, R251). -/
abbrev demotionFactor : Nat := obKey 0x2810 2
/-- NIS Limit (Table 9-6, R251). -/
abbrev nisLimit : Nat := obKey 0x2810 3
/-- Restore Slots (Table 9-6, R251). -/
abbrev restoreSlots : Nat := obKey 0x2810 4
/-- Dispute Threshold (Table 9-6, R251). -/
abbrev disputeThreshold : Nat := obKey 0x2810 5
/-- Ego Missing Slots (Table 9-6, R251). -/
abbrev egoMissingSlots : Nat := obKey 0x2810 6
/-- Coast Slots (Table 9-6, R251). -/
abbrev coastSlots : Nat := obKey 0x2810 7
/-- Freeze Slots (Table 9-6, R251). -/
abbrev freezeSlots : Nat := obKey 0x2810 8
/-- D3 Noise Factor (Table 9-6, R251). -/
abbrev d3NoiseFactor : Nat := obKey 0x2810 9
/-- Disputes Open (Table 9-6, R251). -/
abbrev disputesOpen : Nat := obKey 0x2810 10
/-- Step Entries (Table 9-6, R251). -/
abbrev stepEntries : Nat := obKey 0x2810 11
/-- Degradation Reset (Table 9-6, R251). -/
abbrev degradationReset : Nat := obKey 0x2810 12
/-- Sensor Step (Table 9-6, R251). -/
abbrev sensorStep (n : Nat) : Nat := obKey (0x2820 + n) 1
/-- Sensor Step Floor (Table 9-6, R251). -/
abbrev sensorStepFloor (n : Nat) : Nat := obKey (0x2820 + n) 2
/-- Innovation History (Table 9-6, R251). -/
abbrev innovationHistory (n : Nat) : Nat := obKey (0x2820 + n) 3
/-- Sensor Restore (Table 9-6, R251). -/
abbrev sensorRestore (n : Nat) : Nat := obKey (0x2820 + n) 4
/-- Updates Applied (Table 9-6, R251). -/
abbrev updatesApplied (n : Nat) : Nat := obKey (0x2820 + n) 5
/-- Demotions (Table 9-6, R251). -/
abbrev demotions (n : Nat) : Nat := obKey (0x2820 + n) 6
/-- Epoch (Table 10-4, R275). -/
abbrev epoch : Nat := obKey 0x2900 1
/-- Calibration Context (Table 10-4, R275). -/
abbrev calibrationContext : Nat := obKey 0x2900 2
/-- Calibration Share (1/1,000) (Table 10-4, R275). -/
abbrev calibrationShare : Nat := obKey 0x2900 3
/-- Square Reserve (updates) (Table 10-4, R275). -/
abbrev squareReserve : Nat := obKey 0x2900 4
/-- Epoch Spacing (slots) (Table 10-4, R275). -/
abbrev epochSpacing : Nat := obKey 0x2900 5
/-- Calibration Freeze (Table 10-4, R275). -/
abbrev calibrationFreeze : Nat := obKey 0x2900 6
/-- Calibration Save (Table 10-4, R275). -/
abbrev calibrationSave : Nat := obKey 0x2900 7
/-- Calibration Restart (Table 10-4, R275). -/
abbrev calibrationRestart : Nat := obKey 0x2900 8
/-- Extrinsic Anchor (Table 10-4, R275). -/
abbrev extrinsicAnchor : Nat := obKey 0x2900 9
/-- Residual Ring Base (Table 10-4, R275). -/
abbrev residualRingBase : Nat := obKey 0x2900 10
/-- Residuals Lost (Table 10-4, R275). -/
abbrev residualsLost : Nat := obKey 0x2900 11
/-- Epoch Changes (Table 10-4, R275). -/
abbrev epochChanges : Nat := obKey 0x2900 12
/-- Refractory Learning Enable (Table 10-4, R275). -/
abbrev refractoryLearningEnable (n : Nat) : Nat := obKey (0x2910 + n) 1
/-- Refractory Learn Window (ms) (Table 10-4, R275). -/
abbrev refractoryLearnWindow (n : Nat) : Nat := obKey (0x2910 + n) 2
/-- Refractory Min (16 ns) (Table 10-4, R275). -/
abbrev refractoryMin (n : Nat) : Nat := obKey (0x2910 + n) 3
/-- Refractory Max (16 ns) (Table 10-4, R275). -/
abbrev refractoryMax (n : Nat) : Nat := obKey (0x2910 + n) 4
/-- Bias Trim Enable (Table 10-4, R275). -/
abbrev biasTrimEnable (n : Nat) : Nat := obKey (0x2910 + n) 5
/-- Bias Program (Table 10-4, R275). -/
abbrev biasProgram (n : Nat) : Nat := obKey (0x2910 + n) 6
/-- Bias Rate Band (ev/s) (Table 10-4, R275). -/
abbrev biasRateBand (n : Nat) : Nat := obKey (0x2910 + n) 7
/-- Bias Window (ms) (Table 10-4, R275). -/
abbrev biasWindow (n : Nat) : Nat := obKey (0x2910 + n) 8
/-- Bias Code (Table 10-4, R275). -/
abbrev biasCode (n : Nat) : Nat := obKey (0x2910 + n) 9
/-- Time Offset Enable (Table 10-4, R275). -/
abbrev timeOffsetEnable (n : Nat) : Nat := obKey (0x2910 + n) 10
/-- Offset Search (ns) (Table 10-4, R275). -/
abbrev offsetSearch (n : Nat) : Nat := obKey (0x2910 + n) 11
/-- Offset Min Correlation (1/256) (Table 10-4, R275). -/
abbrev offsetMinCorrelation (n : Nat) : Nat := obKey (0x2910 + n) 12
/-- Offset Window (ms) (Table 10-4, R275). -/
abbrev offsetWindow (n : Nat) : Nat := obKey (0x2910 + n) 13
/-- Offset Estimate (ns) (Table 10-4, R275). -/
abbrev offsetEstimate (n : Nat) : Nat := obKey (0x2910 + n) 14
/-- Applied Offset (ns) (Table 10-4, R275). -/
abbrev appliedOffset (n : Nat) : Nat := obKey (0x2910 + n) 15
/-- Rate Ring Base (Table 10-4, R275). -/
abbrev rateRingBase (n : Nat) : Nat := obKey (0x2910 + n) 16
/-- Loop States (Table 10-4, R275). -/
abbrev loopStates (n : Nat) : Nat := obKey (0x2910 + n) 17
/-- Offset Drift Limit (ns) (Table 10-4, R275). -/
abbrev offsetDriftLimit (n : Nat) : Nat := obKey (0x2910 + n) 18
/-- Offset Cal Enable (Table 10-4, R275). -/
abbrev offsetCalEnable (n : Nat) : Nat := obKey (0x2920 + n) 1
/-- Offset Correction (LSB) (Table 10-4, R275). -/
abbrev offsetCorrection (n : Nat) : Nat := obKey (0x2920 + n) 2
/-- Refine Enable (Table 10-4, R275). -/
abbrev refineEnable (n : Nat) : Nat := obKey (0x2930 + n) 1
/-- Extrinsic Window (residuals) (Table 10-4, R275). -/
abbrev extrinsicWindow (n : Nat) : Nat := obKey (0x2930 + n) 2
/-- Extrinsic Step Max (Table 10-4, R275). -/
abbrev extrinsicStepMax (n : Nat) : Nat := obKey (0x2930 + n) 3
/-- Extrinsic Drift Limit (Table 10-4, R275). -/
abbrev extrinsicDriftLimit (n : Nat) : Nat := obKey (0x2930 + n) 4
/-- Cumulative Correction (Table 10-4, R275). -/
abbrev cumulativeCorrection (n : Nat) : Nat := obKey (0x2930 + n) 5
/-- Extrinsic Loop State (Table 10-4, R275). -/
abbrev extrinsicLoopState (n : Nat) : Nat := obKey (0x2930 + n) 6
/-- Scale Enable (Table 10-4, R275). -/
abbrev scaleEnable : Nat := obKey 0x2940 1
/-- Scale Reference Frame (Table 10-4, R275). -/
abbrev scaleReferenceFrame : Nat := obKey 0x2940 2
/-- Scale Min Speed (mm/s) (Table 10-4, R275). -/
abbrev scaleMinSpeed : Nat := obKey 0x2940 3
/-- Scale Window (records) (Table 10-4, R275). -/
abbrev scaleWindow : Nat := obKey 0x2940 4
/-- Scale Drift Limit (ppm) (Table 10-4, R275). -/
abbrev scaleDriftLimit : Nat := obKey 0x2940 5
/-- Scale Correction (ppm) (Table 10-4, R275). -/
abbrev scaleCorrection : Nat := obKey 0x2940 6
/-- Scale Loop State (Table 10-4, R275). -/
abbrev scaleLoopState : Nat := obKey 0x2940 7
/-- Module Address (Table 11-8, R302). -/
abbrev moduleAddress : Nat := obKey 0x2A00 1
/-- Hop Limit (Table 11-8, R302). -/
abbrev hopLimit : Nat := obKey 0x2A00 2
/-- Response Timeout (µs) (Table 11-8, R302). -/
abbrev responseTimeout : Nat := obKey 0x2A00 3
/-- Time Upstream Port (Table 11-8, R302). -/
abbrev timeUpstreamPort : Nat := obKey 0x2A00 4
/-- Time Distance (Table 11-8, R302). -/
abbrev timeDistance : Nat := obKey 0x2A00 5
/-- Late Responses (Table 11-8, R302). -/
abbrev lateResponses : Nat := obKey 0x2A00 6
/-- Map Swaps (Table 11-8, R302). -/
abbrev mapSwaps : Nat := obKey 0x2A00 7
/-- Region Map (Table 11-8, R302). -/
abbrev streetRegionMap : Nat := obKey 0x2A01 0
/-- Local Map (Table 11-8, R302). -/
abbrev localMap : Nat := obKey 0x2A02 0
/-- Port Enable (Table 11-8, R302). -/
abbrev linkPortEnable (n : Nat) : Nat := obKey (0x2A10 + n) 1
/-- Port Mode (Table 11-8, R302). -/
abbrev portMode (n : Nat) : Nat := obKey (0x2A10 + n) 2
/-- FEC (Table 11-8, R302). -/
abbrev fec (n : Nat) : Nat := obKey (0x2A10 + n) 3
/-- Port State (Table 11-8, R302). -/
abbrev linkPortState (n : Nat) : Nat := obKey (0x2A10 + n) 4
/-- Retrain Command (Table 11-8, R302). -/
abbrev retrainCommand (n : Nat) : Nat := obKey (0x2A10 + n) 5
/-- Retry Timeout (ns) (Table 11-8, R302). -/
abbrev retryTimeout (n : Nat) : Nat := obKey (0x2A10 + n) 6
/-- Host Address (Table 11-8, R302). -/
abbrev hostAddress (n : Nat) : Nat := obKey (0x2A10 + n) 7
/-- Host MAC (Table 11-8, R302). -/
abbrev hostMac (n : Nat) : Nat := obKey (0x2A10 + n) 8
/-- Port MAC (Table 11-8, R302). -/
abbrev portMac (n : Nat) : Nat := obKey (0x2A10 + n) 9
/-- Neighbour Address (Table 11-8, R302). -/
abbrev neighbourAddress (n : Nat) : Nat := obKey (0x2A10 + n) 10
/-- Link Asymmetry (ps) (Table 11-8, R302). -/
abbrev linkAsymmetry (n : Nat) : Nat := obKey (0x2A10 + n) 11
/-- Link Delay (ps) (Table 11-8, R302). -/
abbrev linkDelay (n : Nat) : Nat := obKey (0x2A10 + n) 12
/-- Neighbour Offset (ps) (Table 11-8, R302). -/
abbrev neighbourOffset (n : Nat) : Nat := obKey (0x2A10 + n) 13
/-- Deskew Correction (ps) (Table 11-8, R302). -/
abbrev deskewCorrection (n : Nat) : Nat := obKey (0x2A10 + n) 14
/-- Module Identifier (Table 11-8, R302). -/
abbrev moduleIdentifier (n : Nat) : Nat := obKey (0x2A10 + n) 15
/-- Coefficients Stored (Table 11-8, R302). -/
abbrev coefficientsStored (n : Nat) : Nat := obKey (0x2A10 + n) 16
/-- Port counters: flits sent, flits received, CRC failed, header check failed, rese (Table 11-8, R302). -/
abbrev linkCounter (n : Nat) (i : Nat) : Nat := obKey (0x2A20 + n) (1 + i)
/-- Queue Size (KiB) (Table 12-5, R324). -/
abbrev queueSize (n : Nat) : Nat := obKey (0x2B10 + n) 1
/-- Overflow Policy (Table 12-5, R324). -/
abbrev overflowPolicy (n : Nat) : Nat := obKey (0x2B10 + n) 2
/-- Result CRC Enable (Table 12-5, R324). -/
abbrev resultCrcEnable (n : Nat) : Nat := obKey (0x2B10 + n) 3
/-- Batch Size (bytes) (Table 12-5, R324). -/
abbrev batchSize (n : Nat) : Nat := obKey (0x2B10 + n) 4
/-- Tail Timeout (µs) (Table 12-5, R324). -/
abbrev tailTimeout (n : Nat) : Nat := obKey (0x2B10 + n) 5
/-- Reader (Table 12-5, R324). -/
abbrev reader (n : Nat) : Nat := obKey (0x2B10 + n) 6
/-- PDO Window (bytes) (Table 12-5, R324). -/
abbrev pdoWindow (n : Nat) : Nat := obKey (0x2B10 + n) 7
/-- Stall Notice Time (ms) (Table 12-5, R324). -/
abbrev stallNoticeTime (n : Nat) : Nat := obKey (0x2B10 + n) 8
/-- Fill (bytes) (Table 12-5, R324). -/
abbrev fill (n : Nat) : Nat := obKey (0x2B10 + n) 9
/-- Closed Bytes (Table 12-5, R324). -/
abbrev closedBytes (n : Nat) : Nat := obKey (0x2B10 + n) 10
/-- Records Posted (Table 12-5, R324). -/
abbrev recordsPosted (n : Nat) : Nat := obKey (0x2B10 + n) 11
/-- Records Discarded (Table 12-5, R324). -/
abbrev recordsDiscarded (n : Nat) : Nat := obKey (0x2B10 + n) 12
/-- Underruns (Table 12-5, R324). -/
abbrev underruns (n : Nat) : Nat := obKey (0x2B10 + n) 13
/-- Hold Time (µs) (Table 12-5, R324). -/
abbrev holdTime (n : Nat) : Nat := obKey (0x2B10 + n) 14
/-- Next Sequence (Table 12-5, R324). -/
abbrev nextSequence (n : Nat) : Nat := obKey (0x2B10 + n) 15
/-- Integrity counters: mesh corrected, mesh uncorrectable, DRAM corrected, DRAM unc (Table 12-5, R324). -/
abbrev integrityCounter (i : Nat) : Nat := obKey 0x2B20 (1 + i)
/-- Provocation Enable (Table 12-5, R324). -/
abbrev provocationEnable (n : Nat) : Nat := obKey (0x2B40 + n) 1
/-- Action (Table 12-5, R324). -/
abbrev action (n : Nat) : Nat := obKey (0x2B40 + n) 2
/-- Trigger (Table 12-5, R324). -/
abbrev trigger (n : Nat) : Nat := obKey (0x2B40 + n) 3
/-- Period (items) (Table 12-5, R324). -/
abbrev period (n : Nat) : Nat := obKey (0x2B40 + n) 4
/-- Count Remaining (Table 12-5, R324). -/
abbrev countRemaining (n : Nat) : Nat := obKey (0x2B40 + n) 5
/-- Probability Exponent (Table 12-5, R324). -/
abbrev probabilityExponent (n : Nat) : Nat := obKey (0x2B40 + n) 6
/-- Provocation Seed (Table 12-5, R324). -/
abbrev provocationSeed (n : Nat) : Nat := obKey (0x2B40 + n) 7
/-- Corrupt Mask (Table 12-5, R324). -/
abbrev corruptMask (n : Nat) : Nat := obKey (0x2B40 + n) 8
/-- Pattern Offset (bytes) (Table 12-5, R324). -/
abbrev patternOffset (n : Nat) : Nat := obKey (0x2B40 + n) 9
/-- Delay (items) (Table 12-5, R324). -/
abbrev delay (n : Nat) : Nat := obKey (0x2B40 + n) 10
/-- Layer (Table 12-5, R324). -/
abbrev layer (n : Nat) : Nat := obKey (0x2B40 + n) 11
/-- Class Mask (Table 12-5, R324). -/
abbrev classMask (n : Nat) : Nat := obKey (0x2B40 + n) 12
/-- Actions Taken (Table 12-5, R324). -/
abbrev actionsTaken (n : Nat) : Nat := obKey (0x2B40 + n) 13
/-- Device State (Table 13-6, R339). -/
abbrev deviceState : Nat := obKey 0x2000 1
/-- Device Command (Table 13-6, R339). -/
abbrev deviceCommand : Nat := obKey 0x2000 2
/-- Die Up (Table 13-6, R339). -/
abbrev dieUp : Nat := obKey 0x2000 3
/-- Last Transition Stamp (ns) (Table 13-6, R339). -/
abbrev lastTransitionStamp : Nat := obKey 0x2000 4
/-- Field Loss Action (Table 13-6, R339). -/
abbrev fieldLossAction : Nat := obKey 0x2000 5
/-- Side-band Node ID (Table 13-6, R339). -/
abbrev sidebandNodeId : Nat := obKey 0x2000 6
/-- Side-band Data Rate (kbit/s) (Table 13-6, R339). -/
abbrev sidebandDataRate : Nat := obKey 0x2000 7
/-- EtherCAT State (Table 13-6, R339). -/
abbrev ethercatState : Nat := obKey 0x2000 8
/-- Transition Pending (Table 13-6, R339). -/
abbrev transitionPending : Nat := obKey 0x2000 9
/-- Context Command 0–7 (Table 13-6, R339). -/
abbrev contextCommand (i : Nat) : Nat := obKey 0x2001 (1 + i)
/-- Ignored Count (Table 13-6, R339). -/
abbrev ignoredCount : Nat := obKey 0x2002 1
/-- Last Index (Table 13-6, R339). -/
abbrev lastIndex : Nat := obKey 0x2002 2
/-- Last Subindex (Table 13-6, R339). -/
abbrev lastSubindex : Nat := obKey 0x2002 3
/-- Last Port (Table 13-6, R339). -/
abbrev lastPort : Nat := obKey 0x2002 4
/-- Last Reason (Table 13-6, R339). -/
abbrev lastReason : Nat := obKey 0x2002 5
/-- Last Stamp (ns) (Table 13-6, R339). -/
abbrev lastStamp : Nat := obKey 0x2002 6
/-- Claim Holder (Table 13-6, R339). -/
abbrev claimHolder : Nat := obKey 0x2003 1
/-- Claim Request (Table 13-6, R339). -/
abbrev claimRequest : Nat := obKey 0x2003 2
/-- Main Silence (ms) (Table 13-6, R339). -/
abbrev mainSilence : Nat := obKey 0x2003 3
/-- Claim Changes (Table 13-6, R339). -/
abbrev claimChanges : Nat := obKey 0x2003 4
/-- Result Window 0–8 (Table 13-6, R339). -/
abbrev resultWindow (i : Nat) : Nat := obKey 0x2004 (1 + i)
/-- Device Type (Table 14-2, R347). -/
abbrev deviceType : Nat := obKey 0x1000 0
/-- Error Register (Table 14-2, R347). -/
abbrev errorRegister : Nat := obKey 0x1001 0
/-- Number of Errors (Table 14-2, R347). -/
abbrev numberOfErrors : Nat := obKey 0x1003 0
/-- Standard Error Field (Table 14-2, R347). -/
abbrev standardErrorField (i : Nat) : Nat := obKey 0x1003 (1 + i)
/-- Manufacturer Device Name (Table 14-2, R347). -/
abbrev manufacturerDeviceName : Nat := obKey 0x1008 0
/-- Manufacturer Hardware Version (Table 14-2, R347). -/
abbrev manufacturerHardwareVersion : Nat := obKey 0x1009 0
/-- Manufacturer Software Version (Table 14-2, R347). -/
abbrev manufacturerSoftwareVersion : Nat := obKey 0x100A 0
/-- Store Parameters (Table 14-2, R347). -/
abbrev storeParameters : Nat := obKey 0x1010 1
/-- Restore Default Parameters (Table 14-2, R347). -/
abbrev restoreDefaultParameters : Nat := obKey 0x1011 1
/-- COB-ID EMCY (Table 14-2, R347). -/
abbrev cobidEmcy : Nat := obKey 0x1014 0
/-- Producer Heartbeat Time (ms) (Table 14-2, R347). -/
abbrev producerHeartbeatTime : Nat := obKey 0x1017 0
/-- Vendor ID (Table 14-2, R347). -/
abbrev vendorId : Nat := obKey 0x1018 1
/-- Product Code (Table 14-2, R347). -/
abbrev productCode : Nat := obKey 0x1018 2
/-- Revision Number (Table 14-2, R347). -/
abbrev revisionNumber : Nat := obKey 0x1018 3
/-- Serial Number (Table 14-2, R347). -/
abbrev serialNumber : Nat := obKey 0x1018 4
/-- RxPDO Mapping 1 to 4, entries 1 to 32 (Table 14-2, R347). -/
abbrev rxPdoMapping (n : Nat) (i : Nat) : Nat := obKey (0x1600 + n) (1 + i)
/-- TxPDO Mapping 1 to 4, entries 1 to 32 (Table 14-2, R347). -/
abbrev txPdoMapping (n : Nat) (i : Nat) : Nat := obKey (0x1A00 + n) (1 + i)
/-- SyncManager Communication Type (Table 14-2, R347). -/
abbrev syncmanagerCommunicationType (i : Nat) : Nat := obKey 0x1C00 (1 + i)
/-- RxPDO Assign (Table 14-2, R347). -/
abbrev rxpdoAssign (i : Nat) : Nat := obKey 0x1C12 (1 + i)
/-- TxPDO Assign (Table 14-2, R347). -/
abbrev txpdoAssign (i : Nat) : Nat := obKey 0x1C13 (1 + i)
/-- Output Synchronization Type (Table 14-2, R347). -/
abbrev outputSynchronizationType : Nat := obKey 0x1C32 1
/-- Output Cycle Time (ns) (Table 14-2, R347). -/
abbrev outputCycleTime : Nat := obKey 0x1C32 2
/-- Minimum Cycle Time (ns) (Table 14-2, R347). -/
abbrev minimumCycleTime : Nat := obKey 0x1C32 5
/-- Input Synchronization Type (Table 14-2, R347). -/
abbrev inputSynchronizationType : Nat := obKey 0x1C33 1
/-- Input Cycle Time (ns) (Table 14-2, R347). -/
abbrev inputCycleTime : Nat := obKey 0x1C33 2
/-- Minimum Cycle Time (ns) (Table 14-2, R347). -/
abbrev inputMinimumCycleTime : Nat := obKey 0x1C33 5
/-- Tally Window Tile (µs) (Table 14-4, R353). -/
abbrev tallyWindowTile : Nat := obKey 0x2C00 1
/-- Tally Window Square (µs) (Table 14-4, R353). -/
abbrev tallyWindowSquare : Nat := obKey 0x2C00 2
/-- Tally Window Gate (µs) (Table 14-4, R353). -/
abbrev tallyWindowGate : Nat := obKey 0x2C00 3
/-- Tally Window Link (µs) (Table 14-4, R353). -/
abbrev tallyWindowLink : Nat := obKey 0x2C00 4
/-- Replay Slice (ms) (Table 14-4, R353). -/
abbrev replaySlice : Nat := obKey 0x2C00 5
/-- Recovery Enable (Table 14-4, R353). -/
abbrev recoveryEnable : Nat := obKey 0x2C00 6
/-- Recovery Count (Table 14-4, R353). -/
abbrev recoveryCount : Nat := obKey 0x2C00 7
/-- Last Recovery Cause (Table 14-4, R353). -/
abbrev lastRecoveryCause : Nat := obKey 0x2C00 8
/-- Last Recovery Duration (µs) (Table 14-4, R353). -/
abbrev lastRecoveryDuration : Nat := obKey 0x2C00 9
/-- Recovery Stage (Table 14-4, R353). -/
abbrev recoveryStage : Nat := obKey 0x2C00 10
/-- Hard Resets (Table 14-4, R353). -/
abbrev hardResets : Nat := obKey 0x2C00 11
/-- Module Power Cycles (Table 14-4, R353). -/
abbrev modulePowerCycles : Nat := obKey 0x2C00 12
/-- Status Log (Table 14-4, R353). -/
abbrev statusLog : Nat := obKey 0x2C01 1
/-- Status Log Newest (Table 14-4, R353). -/
abbrev statusLogNewest : Nat := obKey 0x2C01 2
/-- Faults Pending (Table 14-4, R353). -/
abbrev faultsPending : Nat := obKey 0x2C01 3
/-- Status Acknowledge (Table 14-4, R353). -/
abbrev statusAcknowledge : Nat := obKey 0x2C01 4
/-- Notice Count (Table 14-4, R353). -/
abbrev noticeCount : Nat := obKey 0x2C01 5
/-- Fault Count (Table 14-4, R353). -/
abbrev faultCount : Nat := obKey 0x2C01 6
/-- Tally Values (Table 14-4, R353). -/
abbrev tallyValues : Nat := obKey 0x2C02 1
/-- Last Hung Unit (Table 14-4, R353). -/
abbrev lastHungUnit : Nat := obKey 0x2C02 2
/-- Ledger Base (Table 14-4, R353). -/
abbrev ledgerBase : Nat := obKey 0x2C10 1
/-- Ledgers Stored (Table 14-4, R353). -/
abbrev ledgersStored : Nat := obKey 0x2C10 2
/-- Ledger Clear (Table 14-4, R353). -/
abbrev ledgerClear : Nat := obKey 0x2C10 3
/-- Ledger Stamp, ledger 0 (newest) to 3 (ns) (Table 14-4, R353). -/
abbrev ledgerStamp (n : Nat) : Nat := obKey (0x2C11 + n) 1
/-- Ledger Cause (Table 14-4, R353). -/
abbrev ledgerCause (n : Nat) : Nat := obKey (0x2C11 + n) 2
/-- Ledger Size (bytes) (Table 14-4, R353). -/
abbrev ledgerSize (n : Nat) : Nat := obKey (0x2C11 + n) 3
/-- Ledger (Table 14-4, R353). -/
abbrev ledger (n : Nat) : Nat := obKey (0x2C11 + n) 4
/-- Suspect Contexts (Table 14-4, R353). -/
abbrev suspectContexts : Nat := obKey 0x2C20 1
/-- Quarantined Contexts (Table 14-4, R353). -/
abbrev quarantinedContexts : Nat := obKey 0x2C20 2
/-- Secure Boot State (Table 14-5, R354). -/
abbrev secureBootState : Nat := obKey 0x2D00 1
/-- Firmware Security Version (Table 14-5, R354). -/
abbrev firmwareSecurityVersion : Nat := obKey 0x2D00 2
/-- Certified Configuration (Table 14-5, R354). -/
abbrev certifiedConfiguration : Nat := obKey 0x2D00 3
/-- Certified Command (Table 14-5, R354). -/
abbrev certifiedCommand : Nat := obKey 0x2D00 4
/-- Debug Lock (Table 14-5, R354). -/
abbrev debugLock : Nat := obKey 0x2D00 5
/-- TRNG Health (Table 14-5, R354). -/
abbrev trngHealth : Nat := obKey 0x2D00 6
/-- Session Challenge (Table 14-5, R354). -/
abbrev sessionChallenge : Nat := obKey 0x2D01 1
/-- Session Response (Table 14-5, R354). -/
abbrev sessionResponse : Nat := obKey 0x2D01 2
/-- Session Role (Table 14-5, R354). -/
abbrev sessionRole : Nat := obKey 0x2D01 3
/-- Session Close (Table 14-5, R354). -/
abbrev sessionClose : Nat := obKey 0x2D01 4
/-- Session Timeout (s) (Table 14-5, R354). -/
abbrev sessionTimeout : Nat := obKey 0x2D01 5
/-- Failed Responses (Table 14-5, R354). -/
abbrev failedResponses : Nat := obKey 0x2D01 6
/-- Role Key Owner, Integrator, Operator, Observer (Table 14-5, R354). -/
abbrev roleKey (i : Nat) : Nat := obKey 0x2D02 (1 + i)
/-- Access Rights Table (Table 14-5, R354). -/
abbrev accessRightsTable : Nat := obKey 0x2D03 0
/-- DRAM Firewall (Table 14-5, R354). -/
abbrev dramFirewall : Nat := obKey 0x2D04 0
/-- Port Filters (Table 14-5, R354). -/
abbrev portFilters : Nat := obKey 0x2D05 0
/-- Package Keys (Table 14-5, R354). -/
abbrev packageKeys : Nat := obKey 0x2D06 0
/-- Audit Log (Table 14-5, R354). -/
abbrev auditLog : Nat := obKey 0x2D07 1
/-- Audit Newest (Table 14-5, R354). -/
abbrev auditNewest : Nat := obKey 0x2D07 2
/-- Audit Wraps (Table 14-5, R354). -/
abbrev auditWraps : Nat := obKey 0x2D07 3
/-- Input Voltage (mV) (Table 14-6, R356). -/
abbrev inputVoltage : Nat := obKey 0x2E00 1
/-- Input Power (0.1 W) (Table 14-6, R356). -/
abbrev inputPower : Nat := obKey 0x2E00 2
/-- Junction Temperature (0.1 °C) (Table 14-6, R356). -/
abbrev junctionTemperature : Nat := obKey 0x2E00 3
/-- Plate Temperature (0.1 °C) (Table 14-6, R356). -/
abbrev plateTemperature : Nat := obKey 0x2E00 4
/-- Throttle Threshold (0.1 °C) (Table 14-6, R356). -/
abbrev throttleThreshold : Nat := obKey 0x2E00 5
/-- Throttle State (Table 14-6, R356). -/
abbrev throttleState : Nat := obKey 0x2E00 6
/-- Throttle Entries (Table 14-6, R356). -/
abbrev throttleEntries : Nat := obKey 0x2E00 7
/-- Thermal Shutdowns (Table 14-6, R356). -/
abbrev thermalShutdowns : Nat := obKey 0x2E00 8
/-- Input Energy (J) (Table 14-6, R356). -/
abbrev inputEnergy : Nat := obKey 0x2E00 9
/-- Time Source (Table 14-6, R356). -/
abbrev timeSource : Nat := obKey 0x2E10 1
/-- Time Source State (Table 14-6, R356). -/
abbrev timeSourceState : Nat := obKey 0x2E10 2
/-- Device Time (ns) (Table 14-6, R356). -/
abbrev deviceTime : Nat := obKey 0x2E10 3
/-- Source Offset (ns) (Table 14-6, R356). -/
abbrev sourceOffset : Nat := obKey 0x2E10 4
/-- Holdover Limit (ms) (Table 14-6, R356). -/
abbrev holdoverLimit : Nat := obKey 0x2E10 5
/-- SYNC Out Period (ns) (Table 14-6, R356). -/
abbrev syncOutPeriod : Nat := obKey 0x2E10 6
/-- SYNC Out Phase (ns) (Table 14-6, R356). -/
abbrev syncOutPhase : Nat := obKey 0x2E10 7
/-- SYNC In Edge (Table 14-6, R356). -/
abbrev syncInEdge : Nat := obKey 0x2E10 8
/-- SYNC In Period (ns) (Table 14-6, R356). -/
abbrev syncInPeriod : Nat := obKey 0x2E10 9
/-- Time Steps (Table 14-6, R356). -/
abbrev timeSteps : Nat := obKey 0x2E10 10
/-- Trigger Enable (Table 14-6, R356). -/
abbrev triggerEnable (n : Nat) : Nat := obKey (0x2E30 + n) 1
/-- Trigger Glitch Filter (cycles) (Table 14-6, R356). -/
abbrev triggerGlitchFilter (n : Nat) : Nat := obKey (0x2E30 + n) 2
/-- Trigger Route (Table 14-6, R356). -/
abbrev triggerRoute (n : Nat) : Nat := obKey (0x2E30 + n) 3
/-- Trigger Level (Table 14-6, R356). -/
abbrev triggerLevel (n : Nat) : Nat := obKey (0x2E30 + n) 4
/-- Trigger Edges (Table 14-6, R356). -/
abbrev triggerEdges (n : Nat) : Nat := obKey (0x2E30 + n) 5
/-- Package Command (Table 14-7, R357). -/
abbrev packageCommand : Nat := obKey 0x2F00 1
/-- Load Slot (Table 14-7, R357). -/
abbrev loadSlot : Nat := obKey 0x2F00 2
/-- Load Context (Table 14-7, R357). -/
abbrev loadContext : Nat := obKey 0x2F00 3
/-- Commit Target (Table 14-7, R357). -/
abbrev commitTarget : Nat := obKey 0x2F00 4
/-- Package Status (Table 14-7, R357). -/
abbrev packageStatus : Nat := obKey 0x2F00 5
/-- Package Status Detail (Table 14-7, R357). -/
abbrev packageStatusDetail : Nat := obKey 0x2F00 6
/-- Placement Used (Table 14-7, R357). -/
abbrev placementUsed : Nat := obKey 0x2F00 7
/-- Load Progress (%) (Table 14-7, R357). -/
abbrev loadProgress : Nat := obKey 0x2F00 8
/-- Autoload (Table 14-7, R357). -/
abbrev autoload : Nat := obKey 0x2F00 9
/-- Commit Pending (Table 14-7, R357). -/
abbrev commitPending : Nat := obKey 0x2F00 10
/-- Slot State (Table 14-7, R357). -/
abbrev slotState (n : Nat) : Nat := obKey (0x2F10 + n) 1
/-- Slot Name (Table 14-7, R357). -/
abbrev slotName (n : Nat) : Nat := obKey (0x2F10 + n) 2
/-- Package Version (Table 14-7, R357). -/
abbrev packageVersion (n : Nat) : Nat := obKey (0x2F10 + n) 3
/-- Slot Size (bytes) (Table 14-7, R357). -/
abbrev slotSize (n : Nat) : Nat := obKey (0x2F10 + n) 4
/-- Signer Key (Table 14-7, R357). -/
abbrev signerKey (n : Nat) : Nat := obKey (0x2F10 + n) 5
/-- Resource Header (Table 14-7, R357). -/
abbrev resourceHeader (n : Nat) : Nat := obKey (0x2F10 + n) 6
/-- Built-in Test (Table 14-8, R358). -/
abbrev builtinTest : Nat := obKey 0x5000 1
/-- Test Tiles (Table 14-8, R358). -/
abbrev testTiles : Nat := obKey 0x5000 2
/-- Test State (Table 14-8, R358). -/
abbrev testState : Nat := obKey 0x5000 3
/-- Test Result (Table 14-8, R358). -/
abbrev testResult : Nat := obKey 0x5000 4
/-- Test Duration (ms) (Table 14-8, R358). -/
abbrev testDuration : Nat := obKey 0x5000 5
/-- Debug Read Address (Table 14-8, R358). -/
abbrev debugReadAddress : Nat := obKey 0x5000 6
/-- Debug Read Data (Table 14-8, R358). -/
abbrev debugReadData : Nat := obKey 0x5000 7

end Ob

end Sys2Proof.Machine
end

