-- ==== Sys2Proof/Machine/Objects.lean ====
section
/-! DEFINITION. The object tables (R229, R339, R347 and the tables they name): type, access, role, default and range of each object, read from the
tables row by row. A default the tables do not give as a number is 0 here and is given by dfltNum (log entry 4). -/

namespace Sys2Proof.Machine

/-- The type of an object (R340). -/
inductive OType where
  | u (bits : Nat)
  | i (bits : Nat)
  | real
  | str
  | dom
  deriving DecidableEq, Repr

/-- The access an object allows (R340). -/
inductive OAccess where
  | ro
  | wo
  | rw
  deriving DecidableEq, Repr

/-- The range of an object (R340). `special`: checked by its own rule in Dictionary; `view`: an upload of variable length. -/
inductive ORange where
  | any
  | between (lo hi : Int)
  | two (a b c d : Int)
  | oneOf (vs : List Int)
  | mult (m lo hi : Int)
  | bits (mask : Nat)
  | realIn (lo hi : Rat)
  | special
  | dom (bytes : Nat)
  | domIn (lo hi : Nat)
  | domEntries (size max : Nat)
  | view
  deriving DecidableEq, Repr

/-- A row of an object table: `n` subindices from `sub` on. Roles: 0 none, 1 Observer, 2 Operator, 3 Integrator, 4 Owner (R342). -/
structure ObjRow where
  sub : Nat
  n : Nat
  ty : OType
  acc : OAccess
  role : Nat
  dflt : Int
  rng : ORange
  deriving DecidableEq, Repr

namespace Table

/-- Rows of 0x1000. -/
def t1000 : List ObjRow := [
  ⟨0, 1, .u 32, .ro, 0, 0, .any⟩]
/-- Rows of 0x1001. -/
def t1001 : List ObjRow := [
  ⟨0, 1, .u 8, .ro, 1, 0, .any⟩]
/-- Rows of 0x1003. -/
def t1003 : List ObjRow := [
  ⟨0, 1, .u 8, .rw, 2, 0, .between 0 0⟩,
  ⟨1, 16, .u 32, .ro, 1, 0, .any⟩]
/-- Rows of 0x1008. -/
def t1008 : List ObjRow := [
  ⟨0, 1, .str, .ro, 0, 0, .dom 16⟩]
/-- Rows of 0x1009. -/
def t1009 : List ObjRow := [
  ⟨0, 1, .str, .ro, 0, 0, .dom 8⟩]
/-- Rows of 0x100A. -/
def t100A : List ObjRow := [
  ⟨0, 1, .str, .ro, 0, 0, .dom 16⟩]
/-- Rows of 0x1010. -/
def t1010 : List ObjRow := [
  ⟨1, 1, .u 32, .rw, 3, 2, .between 0x65766173 0x65766173⟩]
/-- Rows of 0x1011. -/
def t1011 : List ObjRow := [
  ⟨1, 1, .u 32, .rw, 4, 1, .between 0x64616F6C 0x64616F6C⟩]
/-- Rows of 0x1014. -/
def t1014 : List ObjRow := [
  ⟨0, 1, .u 32, .ro, 1, 255, .any⟩]
/-- Rows of 0x1017. -/
def t1017 : List ObjRow := [
  ⟨0, 1, .u 16, .rw, 3, 1000, .between 0 65535⟩]
/-- Rows of 0x1018. -/
def t1018 : List ObjRow := [
  ⟨1, 1, .u 32, .ro, 0, 2940, .any⟩,
  ⟨2, 1, .u 32, .ro, 0, 6610945, .any⟩,
  ⟨3, 1, .u 32, .ro, 0, 0, .any⟩,
  ⟨4, 1, .u 32, .ro, 0, 0, .any⟩]
/-- Rows of 0x1600. -/
def t1600 : List ObjRow := [
  ⟨0, 1, .u 8, .rw, 3, 0, .between 0 32⟩,
  ⟨1, 32, .u 32, .rw, 3, 0, .special⟩]
/-- Rows of 0x1A00. -/
def t1A00 : List ObjRow := [
  ⟨0, 1, .u 8, .rw, 3, 0, .between 0 32⟩,
  ⟨1, 32, .u 32, .rw, 3, 0, .special⟩]
/-- Rows of 0x1C00. -/
def t1C00 : List ObjRow := [
  ⟨1, 4, .u 8, .ro, 1, 0, .any⟩]
/-- Rows of 0x1C12. -/
def t1C12 : List ObjRow := [
  ⟨0, 1, .u 8, .rw, 3, 1, .between 0 4⟩,
  ⟨1, 4, .u 16, .rw, 3, 0, .between 5632 5635⟩]
/-- Rows of 0x1C13. -/
def t1C13 : List ObjRow := [
  ⟨0, 1, .u 8, .rw, 3, 1, .between 0 4⟩,
  ⟨1, 4, .u 16, .rw, 3, 0, .between 6656 6659⟩]
/-- Rows of 0x1C32. -/
def t1C32 : List ObjRow := [
  ⟨1, 1, .u 16, .ro, 1, 2, .any⟩,
  ⟨2, 1, .u 32, .ro, 1, 0, .any⟩,
  ⟨5, 1, .u 32, .ro, 1, 31250, .any⟩]
/-- Rows of 0x1C33. -/
def t1C33 : List ObjRow := [
  ⟨1, 1, .u 16, .ro, 1, 2, .any⟩,
  ⟨2, 1, .u 32, .ro, 1, 0, .any⟩,
  ⟨5, 1, .u 32, .ro, 1, 31250, .any⟩]
/-- Rows of 0x2000. -/
def t2000 : List ObjRow := [
  ⟨1, 1, .u 8, .ro, 1, 1, .any⟩,
  ⟨2, 1, .u 8, .wo, 2, 0, .between 1 5⟩,
  ⟨3, 1, .u 8, .ro, 1, 0, .any⟩,
  ⟨4, 1, .u 64, .ro, 1, 0, .any⟩,
  ⟨5, 1, .u 8, .rw, 3, 0, .between 0 2⟩,
  ⟨6, 1, .u 8, .rw, 3, 127, .between 1 127⟩,
  ⟨7, 1, .u 16, .rw, 3, 2000, .oneOf [1000, 2000, 4000, 5000]⟩,
  ⟨8, 1, .u 8, .ro, 1, 1, .any⟩,
  ⟨9, 1, .u 8, .ro, 1, 0, .any⟩]
/-- Rows of 0x2001. -/
def t2001 : List ObjRow := [
  ⟨1, 8, .u 8, .wo, 2, 0, .between 1 5⟩]
/-- Rows of 0x2002. -/
def t2002 : List ObjRow := [
  ⟨1, 1, .u 32, .ro, 1, 0, .any⟩,
  ⟨2, 1, .u 16, .ro, 1, 0, .any⟩,
  ⟨3, 1, .u 8, .ro, 1, 0, .any⟩,
  ⟨4, 1, .u 8, .ro, 1, 0, .any⟩,
  ⟨5, 1, .u 8, .ro, 1, 0, .any⟩,
  ⟨6, 1, .u 64, .ro, 1, 0, .any⟩]
/-- Rows of 0x2003. -/
def t2003 : List ObjRow := [
  ⟨1, 1, .u 8, .ro, 1, 0, .any⟩,
  ⟨2, 1, .u 8, .wo, 2, 0, .between 1 2⟩,
  ⟨3, 1, .u 16, .ro, 1, 65535, .any⟩,
  ⟨4, 1, .u 32, .ro, 1, 0, .any⟩]
/-- Rows of 0x2004. -/
def t2004 : List ObjRow := [
  ⟨1, 9, .dom, .ro, 1, 0, .view⟩]
/-- Rows of 0x2100. -/
def t2100 : List ObjRow := [
  ⟨1, 1, .u 8, .rw, 3, 0, .between 0 1⟩,
  ⟨2, 1, .u 8, .ro, 1, 0, .any⟩,
  ⟨3, 1, .u 16, .rw, 3, 4500, .between 1000 4500⟩,
  ⟨4, 1, .u 8, .wo, 2, 0, .between 1 2⟩]
/-- Rows of 0x2101. -/
def t2101 : List ObjRow := [
  ⟨1, 1, .u 8, .rw, 3, 0, .between 0 5⟩,
  ⟨2, 1, .u 8, .rw, 3, 0, .between 0 3⟩,
  ⟨3, 1, .u 8, .rw, 3, 48, .two 0x10 0x17 0x30 0x37⟩,
  ⟨4, 1, .u 64, .rw, 3, 4294967296, .between 268435456 4294967296000⟩,
  ⟨5, 1, .u 8, .rw, 3, 1, .between 0 1⟩]
/-- Rows of 0x2102. -/
def t2102 : List ObjRow := [
  ⟨0, 1, .dom, .rw, 3, 0, .dom 128⟩]
/-- Rows of 0x2103. -/
def t2103 : List ObjRow := [
  ⟨1, 1, .i 32, .rw, 3, 0, .between (-1000000) 1000000⟩,
  ⟨2, 1, .i 32, .ro, 1, 0, .any⟩]
/-- Rows of 0x2104. -/
def t2104 : List ObjRow := [
  ⟨1, 1, .u 8, .rw, 3, 1, .between 0 1⟩,
  ⟨2, 1, .u 32, .rw, 3, 20000, .between 1000 10000000⟩,
  ⟨3, 1, .u 32, .rw, 3, 5000, .between 0 10000000⟩,
  ⟨4, 1, .u 16, .rw, 3, 10, .between 1 1000⟩,
  ⟨5, 1, .u 16, .ro, 1, 0, .any⟩,
  ⟨6, 1, .dom, .ro, 1, 0, .dom 4⟩]
/-- Rows of 0x2105. -/
def t2105 : List ObjRow := [
  ⟨1, 1, .u 16, .rw, 3, 0, .between 0 65535⟩,
  ⟨2, 1, .u 8, .rw, 3, 0, .between 0 1⟩]
/-- Rows of 0x2106. -/
def t2106 : List ObjRow := [
  ⟨1, 1, .u 8, .rw, 3, 0, .between 0 2⟩,
  ⟨2, 1, .u 8, .rw, 3, 4, .between 0 10⟩,
  ⟨3, 1, .u 16, .rw, 3, 2048, .between 1 4096⟩,
  ⟨4, 1, .u 16, .rw, 3, 2048, .between 1 4096⟩,
  ⟨5, 1, .u 16, .rw, 3, 50, .between 0 1000⟩,
  ⟨6, 1, .u 8, .ro, 1, 1, .any⟩]
/-- Rows of 0x2107. -/
def t2107 : List ObjRow := [
  ⟨1, 1, .u 8, .rw, 3, 0, .between 0 2⟩,
  ⟨2, 1, .u 16, .ro, 1, 256, .any⟩,
  ⟨3, 1, .u 32, .rw, 3, 1431655765, .any⟩,
  ⟨4, 1, .u 16, .rw, 3, 200, .between 10 3000⟩,
  ⟨5, 1, .u 16, .rw, 3, 0, .between 0 256⟩,
  ⟨6, 1, .u 16, .rw, 3, 256, .between 0 256⟩,
  ⟨7, 1, .u 8, .rw, 3, 0, .between 0 1⟩,
  ⟨8, 1, .u 16, .rw, 3, 256, .between 0 256⟩,
  ⟨9, 1, .u 32, .ro, 1, 0, .any⟩]
/-- Rows of 0x2108. -/
def t2108 : List ObjRow := [
  ⟨1, 14, .u 64, .ro, 1, 0, .any⟩]
/-- Rows of 0x2109. -/
def t2109 : List ObjRow := [
  ⟨1, 1, .u 8, .rw, 3, 0, .between 0 1⟩,
  ⟨2, 1, .dom, .wo, 3, 0, .domIn 1 64⟩,
  ⟨3, 1, .u 32, .ro, 1, 0, .any⟩,
  ⟨4, 1, .dom, .ro, 1, 0, .dom 32⟩,
  ⟨5, 1, .u 64, .ro, 1, 0, .any⟩]
/-- Rows of 0x210A. -/
def t210A : List ObjRow := [
  ⟨1, 1, .u 64, .ro, 1, 0, .any⟩,
  ⟨2, 1, .u 32, .ro, 1, 0, .any⟩]
/-- Rows of 0x2200. -/
def t2200 : List ObjRow := [
  ⟨1, 1, .u 8, .rw, 3, 0, .between 0 1⟩,
  ⟨2, 1, .u 8, .rw, 3, 1, .between 0 3⟩,
  ⟨3, 1, .u 8, .rw, 3, 0, .between 0 1⟩,
  ⟨4, 3, .u 16, .rw, 3, 1, .between 1 4096⟩,
  ⟨7, 1, .u 8, .rw, 3, 0, .between 0 1⟩,
  ⟨8, 1, .u 32, .rw, 3, 1000, .between 100 100000⟩,
  ⟨9, 1, .i 32, .rw, 3, 0, .between (-8388608) 8388607⟩,
  ⟨10, 1, .u 8, .rw, 3, 0, .between 0 1⟩,
  ⟨11, 1, .u 8, .rw, 2, 0, .between 0 1⟩,
  ⟨12, 1, .i 32, .ro, 1, 0, .any⟩,
  ⟨13, 1, .u 8, .rw, 3, 0, .between 0 1⟩,
  ⟨14, 1, .dom, .rw, 3, 0, .dom 192⟩,
  ⟨15, 1, .u 64, .ro, 1, 10687500, .any⟩,
  ⟨16, 1, .u 16, .ro, 1, 55, .any⟩,
  ⟨17, 1, .u 8, .ro, 1, 0, .any⟩,
  ⟨18, 1, .u 32, .ro, 1, 0, .any⟩,
  ⟨19, 1, .u 32, .ro, 1, 0, .any⟩,
  ⟨20, 1, .u 8, .ro, 1, 0, .any⟩,
  ⟨21, 1, .u 64, .ro, 1, 0, .any⟩]
/-- Rows of 0x2210. -/
def t2210 : List ObjRow := [
  ⟨1, 1, .u 8, .rw, 3, 0, .between 0 1⟩,
  ⟨2, 1, .u 16, .rw, 3, 12000, .between 100 24000⟩,
  ⟨3, 1, .u 8, .rw, 3, 0, .oneOf [0, 3]⟩,
  ⟨4, 1, .u 8, .rw, 3, 0, .between 0 2⟩,
  ⟨5, 1, .u 32, .rw, 3, 125000, .between 31250 10000000⟩,
  ⟨6, 1, .dom, .rw, 3, 0, .dom 72⟩,
  ⟨7, 1, .u 32, .rw, 3, 0, .between 0 1000000⟩,
  ⟨8, 1, .u 8, .ro, 1, 0, .any⟩,
  ⟨9, 1, .u 32, .ro, 1, 0, .any⟩,
  ⟨10, 1, .u 64, .ro, 1, 0, .any⟩]
/-- Rows of 0x2220. -/
def t2220 : List ObjRow := [
  ⟨1, 1, .u 8, .rw, 3, 0, .between 0 1⟩,
  ⟨2, 1, .u 8, .rw, 3, 0, .between 0 3⟩,
  ⟨3, 1, .u 8, .rw, 3, 4, .between 0 16⟩,
  ⟨4, 1, .u 8, .rw, 3, 0, .between 0 2⟩,
  ⟨5, 1, .u 8, .rw, 3, 0, .between 0 1⟩,
  ⟨6, 1, .u 32, .rw, 3, 0, .any⟩,
  ⟨7, 1, .u 8, .wo, 2, 0, .between 1 1⟩,
  ⟨8, 1, .u 32, .ro, 1, 0, .any⟩,
  ⟨9, 1, .u 32, .ro, 1, 0, .any⟩,
  ⟨10, 1, .u 8, .ro, 1, 0, .any⟩,
  ⟨11, 1, .u 32, .ro, 1, 0, .any⟩,
  ⟨12, 1, .u 32, .ro, 1, 0, .any⟩]
/-- Rows of 0x2230. -/
def t2230 : List ObjRow := [
  ⟨1, 14, .u 64, .ro, 1, 0, .any⟩]
/-- Rows of 0x2300. -/
def t2300 : List ObjRow := [
  ⟨1, 4, .u 8, .rw, 3, 5, .between 3 5⟩]
/-- Rows of 0x2301. -/
def t2301 : List ObjRow := [
  ⟨1, 4, .u 32, .rw, 3, 0, .bits 0x0FFF0FFF⟩]
/-- Rows of 0x2302. -/
def t2302 : List ObjRow := [
  ⟨1, 4, .dom, .rw, 3, 0, .dom 8192⟩]
/-- Rows of 0x2303. -/
def t2303 : List ObjRow := [
  ⟨0, 1, .dom, .rw, 3, 0, .dom 480⟩]
/-- Rows of 0x2304. -/
def t2304 : List ObjRow := [
  ⟨0, 1, .dom, .ro, 1, 0, .dom 240⟩]
/-- Rows of 0x2310. -/
def t2310 : List ObjRow := [
  ⟨1, 1, .u 8, .rw, 3, 0, .between 0 1⟩,
  ⟨2, 1, .u 8, .rw, 3, 0, .two 0 59 64 71⟩,
  ⟨3, 1, .u 8, .rw, 3, 0, .between 0 7⟩,
  ⟨4, 1, .u 8, .rw, 3, 0, .between 0 2⟩,
  ⟨5, 1, .u 32, .rw, 3, 1048575, .between 0 1048575⟩,
  ⟨6, 1, .u 32, .rw, 3, 0, .between 0 1048575⟩,
  ⟨7, 1, .u 32, .rw, 3, 8000, .between 8 16777216⟩,
  ⟨8, 1, .u 32, .rw, 3, 0, .two 0 0 8 16777216⟩,
  ⟨9, 1, .u 8, .rw, 3, 0, .between 0 8⟩,
  ⟨10, 1, .u 8, .rw, 3, 0, .between 0 1⟩]
/-- Rows of 0x2340. -/
def t2340 : List ObjRow := [
  ⟨1, 1, .u 8, .rw, 3, 0, .between 0 1⟩,
  ⟨2, 1, .u 8, .rw, 3, 0, .between 0 2⟩,
  ⟨3, 1, .u 8, .wo, 2, 0, .between 1 1⟩,
  ⟨4, 1, .u 8, .ro, 1, 0, .any⟩]
/-- Rows of 0x2350. -/
def t2350 : List ObjRow := [
  ⟨1, 1, .dom, .ro, 1, 0, .dom 16384⟩,
  ⟨2, 1, .u 32, .ro, 1, 0, .any⟩]
/-- Rows of 0x2400. -/
def t2400 : List ObjRow := [
  ⟨1, 1, .u 8, .ro, 1, 0, .any⟩,
  ⟨2, 1, .u 8, .ro, 1, 64, .any⟩]
/-- Rows of 0x2410. -/
def t2410 : List ObjRow := [
  ⟨1, 1, .u 8, .ro, 1, 0, .any⟩,
  ⟨2, 1, .u 8, .ro, 1, 0, .any⟩,
  ⟨3, 1, .u 8, .ro, 1, 0, .any⟩,
  ⟨4, 1, .u 64, .ro, 1, 0, .any⟩,
  ⟨5, 1, .u 32, .ro, 1, 0, .any⟩,
  ⟨6, 1, .u 16, .ro, 1, 0, .any⟩,
  ⟨7, 1, .u 8, .ro, 1, 0, .any⟩]
/-- Rows of 0x2500. -/
def t2500 : List ObjRow := [
  ⟨1, 1, .u 64, .ro, 1, 0, .any⟩,
  ⟨2, 1, .u 32, .ro, 1, 33554432, .any⟩,
  ⟨3, 1, .u 32, .ro, 1, 0, .any⟩]
/-- Rows of 0x2510. -/
def t2510 : List ObjRow := [
  ⟨1, 1, .u 32, .rw, 3, 1000, .mult 1000 1000 1000000⟩,
  ⟨2, 1, .u 32, .rw, 3, 4000, .between 0 1000000⟩,
  ⟨3, 1, .u 8, .ro, 1, 0, .any⟩,
  ⟨4, 1, .u 64, .ro, 1, 0, .any⟩,
  ⟨5, 1, .u 64, .ro, 1, 0, .any⟩,
  ⟨6, 1, .u 64, .ro, 1, 0, .any⟩,
  ⟨7, 1, .u 64, .ro, 1, 0, .any⟩,
  ⟨8, 1, .u 64, .ro, 1, 0, .any⟩,
  ⟨9, 1, .u 32, .ro, 1, 0, .any⟩,
  ⟨10, 1, .u 32, .ro, 1, 0, .any⟩,
  ⟨11, 1, .u 32, .ro, 1, 0, .any⟩,
  ⟨12, 1, .u 64, .rw, 3, 1, .between 1 18446744073709551615⟩,
  ⟨13, 1, .u 32, .ro, 1, 0, .any⟩,
  ⟨14, 1, .u 32, .ro, 1, 0, .any⟩]
/-- Rows of 0x2600. -/
def t2600 : List ObjRow := [
  ⟨1, 1, .u 16, .rw, 3, 480, .between 60 480⟩,
  ⟨2, 1, .u 16, .rw, 3, 550, .between 550 1350⟩,
  ⟨3, 1, .u 16, .rw, 3, 1200, .between 550 1350⟩,
  ⟨4, 1, .u 16, .rw, 3, 950, .between 550 950⟩,
  ⟨5, 1, .u 16, .rw, 3, 4, .between 0 1024⟩]
/-- Rows of 0x2610. -/
def t2610 : List ObjRow := [
  ⟨1, 1, .u 8, .rw, 3, 0, .between 0 1⟩,
  ⟨2, 1, .u 8, .rw, 3, 1, .between 0 1⟩,
  ⟨3, 1, .u 16, .rw, 3, 8, .between 1 4096⟩,
  ⟨4, 1, .u 8, .rw, 3, 0, .between 0 1⟩,
  ⟨5, 1, .u 16, .rw, 3, 64, .between 0 65535⟩,
  ⟨6, 1, .u 16, .rw, 3, 16, .between 0 1024⟩,
  ⟨7, 1, .u 8, .ro, 1, 0, .any⟩,
  ⟨8, 1, .u 8, .wo, 2, 0, .between 1 1⟩,
  ⟨9, 1, .dom, .rw, 3, 0, .dom 2048⟩,
  ⟨10, 1, .dom, .ro, 1, 0, .dom 1024⟩,
  ⟨11, 1, .dom, .ro, 1, 0, .dom 2048⟩,
  ⟨12, 1, .u 16, .ro, 1, 0, .any⟩,
  ⟨13, 1, .u 32, .ro, 1, 0, .any⟩,
  ⟨14, 1, .u 32, .ro, 1, 0, .any⟩,
  ⟨15, 1, .u 8, .ro, 1, 0, .any⟩]
/-- Rows of 0x2700. -/
def t2700 : List ObjRow := [
  ⟨1, 1, .u 8, .rw, 3, 0, .between 0 1⟩,
  ⟨2, 1, .dom, .rw, 3, 0, .dom 16⟩,
  ⟨3, 1, .dom, .rw, 3, 0, .dom 20⟩,
  ⟨4, 1, .dom, .rw, 3, 0, .dom 48⟩,
  ⟨5, 1, .dom, .rw, 3, 0, .dom 16⟩,
  ⟨6, 1, .u 32, .rw, 3, 134219776, .special⟩,
  ⟨7, 1, .u 8, .rw, 3, 0, .between 0 1⟩,
  ⟨8, 1, .u 16, .ro, 1, 0, .any⟩]
/-- Rows of 0x2710. -/
def t2710 : List ObjRow := [
  ⟨1, 1, .u 8, .rw, 3, 0, .between 0 1⟩,
  ⟨2, 1, .u 16, .rw, 3, 0, .special⟩,
  ⟨3, 1, .dom, .rw, 3, 0, .dom 16⟩,
  ⟨4, 1, .u 8, .rw, 3, 0, .between 0 2⟩,
  ⟨5, 1, .dom, .rw, 3, 0, .dom 36⟩,
  ⟨6, 1, .dom, .rw, 3, 0, .dom 12⟩,
  ⟨7, 1, .dom, .rw, 3, 0, .dom 12⟩,
  ⟨8, 1, .u 32, .rw, 3, 1000, .between 10 100000⟩,
  ⟨9, 1, .u 16, .rw, 3, 64, .between 1 4096⟩,
  ⟨10, 1, .u 8, .wo, 2, 0, .between 1 1⟩]
/-- Rows of 0x2711. -/
def t2711 : List ObjRow := [
  ⟨1, 1, .dom, .ro, 1, 0, .dom 64⟩,
  ⟨2, 1, .dom, .ro, 1, 0, .dom 64⟩]
/-- Rows of 0x2720. -/
def t2720 : List ObjRow := [
  ⟨1, 1, .u 32, .rw, 3, 255, .bits 0x3FFFFFF⟩,
  ⟨2, 1, .u 16, .rw, 3, 64, .between 1 256⟩,
  ⟨3, 1, .u 16, .ro, 1, 0, .any⟩,
  ⟨4, 1, .u 64, .ro, 1, 0, .any⟩,
  ⟨5, 1, .u 16, .ro, 1, 0, .any⟩,
  ⟨6, 1, .u 64, .ro, 1, 0, .any⟩,
  ⟨7, 1, .u 64, .ro, 1, 0, .any⟩,
  ⟨8, 1, .u 64, .ro, 1, 0, .any⟩,
  ⟨9, 1, .u 64, .ro, 1, 0, .any⟩,
  ⟨10, 1, .u 64, .ro, 1, 0, .any⟩,
  ⟨11, 1, .u 64, .ro, 1, 0, .any⟩,
  ⟨12, 1, .dom, .ro, 1, 0, .dom 208⟩,
  ⟨13, 1, .u 16, .ro, 1, 0, .any⟩,
  ⟨14, 1, .u 8, .rw, 3, 0, .any⟩]
/-- Rows of 0x2730. -/
def t2730 : List ObjRow := [
  ⟨1, 1, .u 32, .rw, 3, 10000, .between 2000 255000⟩,
  ⟨2, 1, .u 32, .rw, 3, 100000, .between 2000 255000⟩,
  ⟨3, 1, .u 8, .rw, 3, 0, .between 0 1⟩,
  ⟨4, 1, .u 32, .rw, 3, 50000, .between 2000 255000⟩,
  ⟨5, 1, .u 16, .rw, 3, 64, .between 0 65535⟩,
  ⟨6, 1, .u 32, .ro, 1, 50000, .any⟩,
  ⟨7, 1, .u 16, .ro, 1, 0, .any⟩]
/-- Rows of 0x2740. -/
def t2740 : List ObjRow := [
  ⟨1, 1, .u 8, .rw, 3, 0, .between 0 1⟩,
  ⟨2, 1, .u 16, .rw, 3, 65534, .any⟩,
  ⟨3, 1, .u 16, .rw, 3, 16, .between 1 65535⟩,
  ⟨4, 1, .u 64, .ro, 1, 0, .any⟩,
  ⟨5, 1, .u 64, .ro, 1, 0, .any⟩]
/-- Rows of 0x2800. -/
def t2800 : List ObjRow := [
  ⟨1, 1, .dom, .rw, 3, 0, .dom 12⟩,
  ⟨2, 1, .real, .rw, 3, 1101004800, .realIn 1 1000⟩,
  ⟨3, 1, .real, .rw, 3, 1120403456, .realIn 0 10000⟩,
  ⟨4, 1, .u 8, .rw, 3, 3, .between 1 32⟩,
  ⟨5, 1, .u 32, .rw, 3, 200, .between 1 1000000⟩,
  ⟨6, 1, .u 32, .rw, 3, 2000, .between 1 10000000⟩,
  ⟨7, 1, .real, .rw, 3, 953267991, .realIn (1 / 10000000000) 10000⟩,
  ⟨8, 1, .dom, .rw, 3, 0, .dom 32⟩,
  ⟨9, 1, .dom, .rw, 3, 0, .dom 32⟩,
  ⟨10, 1, .u 8, .rw, 3, 0, .between 0 1⟩,
  ⟨11, 1, .dom, .rw, 3, 0, .dom 12⟩,
  ⟨12, 1, .u 8, .rw, 3, 16, .between 0 64⟩]
/-- Rows of 0x2801. -/
def t2801 : List ObjRow := [
  ⟨1, 1, .u 16, .ro, 1, 0, .any⟩,
  ⟨2, 1, .u 16, .ro, 1, 0, .any⟩,
  ⟨3, 1, .u 64, .ro, 1, 0, .any⟩,
  ⟨4, 1, .u 64, .ro, 1, 0, .any⟩,
  ⟨5, 1, .u 64, .ro, 1, 0, .any⟩,
  ⟨6, 1, .u 64, .ro, 1, 0, .any⟩,
  ⟨7, 1, .u 64, .ro, 1, 0, .any⟩]
/-- Rows of 0x2802. -/
def t2802 : List ObjRow := [
  ⟨0, 1, .dom, .ro, 1, 0, .dom 786432⟩]
/-- Rows of 0x2810. -/
def t2810 : List ObjRow := [
  ⟨1, 1, .u 8, .ro, 1, 0, .any⟩,
  ⟨2, 1, .real, .rw, 3, 1082130432, .realIn 1 1000⟩,
  ⟨3, 1, .real, .rw, 3, 1082130432, .realIn 1 100⟩,
  ⟨4, 1, .u 32, .rw, 3, 65536, .between 1024 100000000⟩,
  ⟨5, 1, .real, .rw, 3, 1101004800, .realIn 1 1000⟩,
  ⟨6, 1, .u 16, .rw, 3, 16, .between 1 65535⟩,
  ⟨7, 1, .u 32, .rw, 3, 4096, .between 64 10000000⟩,
  ⟨8, 1, .u 32, .rw, 3, 100000, .between 0 100000000⟩,
  ⟨9, 1, .real, .rw, 3, 1082130432, .realIn 1 1000⟩,
  ⟨10, 1, .u 8, .ro, 1, 0, .any⟩,
  ⟨11, 1, .dom, .ro, 1, 0, .dom 48⟩,
  ⟨12, 1, .u 8, .wo, 2, 0, .between 1 1⟩]
/-- Rows of 0x2820. -/
def t2820 : List ObjRow := [
  ⟨1, 1, .u 8, .ro, 1, 0, .any⟩,
  ⟨2, 1, .u 8, .rw, 3, 0, .between 0 2⟩,
  ⟨3, 1, .real, .ro, 1, 1065353216, .any⟩,
  ⟨4, 1, .u 8, .wo, 2, 0, .between 1 1⟩,
  ⟨5, 1, .u 64, .ro, 1, 0, .any⟩,
  ⟨6, 1, .u 32, .ro, 1, 0, .any⟩]
/-- Rows of 0x2900. -/
def t2900 : List ObjRow := [
  ⟨1, 1, .u 16, .ro, 1, 0, .any⟩,
  ⟨2, 1, .u 8, .rw, 3, 255, .two 0 7 255 255⟩,
  ⟨3, 1, .u 16, .rw, 3, 30, .between 0 200⟩,
  ⟨4, 1, .u 8, .rw, 3, 8, .between 0 32⟩,
  ⟨5, 1, .u 16, .rw, 3, 256, .between 1 65535⟩,
  ⟨6, 1, .u 8, .rw, 2, 0, .between 0 1⟩,
  ⟨7, 1, .u 8, .wo, 3, 0, .between 1 1⟩,
  ⟨8, 1, .u 8, .wo, 2, 0, .between 1 1⟩,
  ⟨9, 1, .u 8, .rw, 3, 0, .between 0 15⟩,
  ⟨10, 1, .u 64, .ro, 1, 0, .any⟩,
  ⟨11, 1, .u 64, .ro, 1, 0, .any⟩,
  ⟨12, 1, .u 64, .ro, 1, 0, .any⟩]
/-- Rows of 0x2910. -/
def t2910 : List ObjRow := [
  ⟨1, 1, .u 8, .rw, 3, 0, .between 0 1⟩,
  ⟨2, 1, .u 16, .rw, 3, 100, .between 10 10000⟩,
  ⟨3, 1, .u 16, .rw, 3, 0, .between 0 65535⟩,
  ⟨4, 1, .u 16, .rw, 3, 4096, .between 0 65535⟩,
  ⟨5, 1, .u 8, .rw, 3, 0, .between 0 1⟩,
  ⟨6, 1, .dom, .rw, 3, 0, .dom 80⟩,
  ⟨7, 1, .u 64, .rw, 3, 17179869185000, .special⟩,
  ⟨8, 1, .u 16, .rw, 3, 10, .between 1 1000⟩,
  ⟨9, 1, .u 16, .ro, 1, 0, .any⟩,
  ⟨10, 1, .u 8, .rw, 3, 0, .between 0 1⟩,
  ⟨11, 1, .u 32, .rw, 3, 200000, .between 10000 1000000⟩,
  ⟨12, 1, .u 8, .rw, 3, 77, .between 1 255⟩,
  ⟨13, 1, .u 16, .rw, 3, 100, .between 10 10000⟩,
  ⟨14, 1, .i 32, .ro, 1, 0, .any⟩,
  ⟨15, 1, .i 32, .ro, 1, 0, .any⟩,
  ⟨16, 1, .u 64, .ro, 1, 0, .any⟩,
  ⟨17, 1, .u 8, .ro, 1, 0, .any⟩,
  ⟨18, 1, .u 32, .rw, 3, 10000, .between 100 1000000⟩]
/-- Rows of 0x2920. -/
def t2920 : List ObjRow := [
  ⟨1, 1, .u 8, .rw, 3, 1, .between 0 1⟩,
  ⟨2, 1, .i 32, .ro, 1, 0, .any⟩]
/-- Rows of 0x2930. -/
def t2930 : List ObjRow := [
  ⟨1, 1, .u 8, .rw, 3, 0, .between 0 1⟩,
  ⟨2, 1, .u 32, .rw, 3, 4096, .between 256 1048576⟩,
  ⟨3, 1, .dom, .rw, 3, 0, .dom 8⟩,
  ⟨4, 1, .dom, .rw, 3, 0, .dom 8⟩,
  ⟨5, 1, .dom, .ro, 1, 0, .dom 24⟩,
  ⟨6, 1, .u 8, .ro, 1, 0, .any⟩]
/-- Rows of 0x2940. -/
def t2940 : List ObjRow := [
  ⟨1, 1, .u 8, .rw, 3, 0, .between 0 1⟩,
  ⟨2, 1, .u 8, .rw, 3, 0, .between 0 15⟩,
  ⟨3, 1, .u 16, .rw, 3, 100, .between 1 65535⟩,
  ⟨4, 1, .u 32, .rw, 3, 4096, .between 256 1048576⟩,
  ⟨5, 1, .u 32, .rw, 3, 20000, .between 100 100000⟩,
  ⟨6, 1, .i 32, .ro, 1, 0, .any⟩,
  ⟨7, 1, .u 8, .ro, 1, 0, .any⟩]
/-- Rows of 0x2A00. -/
def t2A00 : List ObjRow := [
  ⟨1, 1, .u 32, .rw, 3, 0, .between 0 262143⟩,
  ⟨2, 1, .u 32, .rw, 3, 262143, .between 1 262143⟩,
  ⟨3, 1, .u 32, .rw, 3, 2000, .between 10 1000000⟩,
  ⟨4, 1, .u 8, .rw, 3, 255, .two 0 3 255 255⟩,
  ⟨5, 1, .u 32, .ro, 1, 262143, .any⟩,
  ⟨6, 1, .u 64, .ro, 1, 0, .any⟩,
  ⟨7, 1, .u 32, .ro, 1, 0, .any⟩]
/-- Rows of 0x2A01. -/
def t2A01 : List ObjRow := [
  ⟨0, 1, .dom, .rw, 3, 0, .dom 1024⟩]
/-- Rows of 0x2A02. -/
def t2A02 : List ObjRow := [
  ⟨0, 1, .dom, .rw, 3, 0, .dom 1024⟩]
/-- Rows of 0x2A10. -/
def t2A10 : List ObjRow := [
  ⟨1, 1, .u 8, .rw, 3, 0, .between 0 1⟩,
  ⟨2, 1, .u 8, .rw, 3, 0, .between 0 1⟩,
  ⟨3, 1, .u 8, .rw, 3, 0, .between 0 1⟩,
  ⟨4, 1, .u 8, .ro, 1, 0, .any⟩,
  ⟨5, 1, .u 8, .wo, 2, 0, .between 1 2⟩,
  ⟨6, 1, .u 32, .rw, 3, 25000, .between 2000 200000⟩,
  ⟨7, 1, .u 32, .rw, 3, 262143, .between 0 262143⟩,
  ⟨8, 1, .u 64, .rw, 3, 0, .bits 0xFFFFFFFFFFFF⟩,
  ⟨9, 1, .u 64, .ro, 1, 0, .any⟩,
  ⟨10, 1, .u 32, .ro, 1, 262143, .any⟩,
  ⟨11, 1, .i 32, .rw, 3, 0, .between (-1000000) 1000000⟩,
  ⟨12, 1, .u 32, .ro, 1, 0, .any⟩,
  ⟨13, 1, .i 64, .ro, 1, 0, .any⟩,
  ⟨14, 1, .i 32, .ro, 1, 0, .any⟩,
  ⟨15, 1, .dom, .ro, 1, 0, .dom 96⟩,
  ⟨16, 1, .u 8, .ro, 1, 0, .any⟩]
/-- Rows of 0x2A20. -/
def t2A20 : List ObjRow := [
  ⟨1, 12, .u 64, .ro, 1, 0, .any⟩]
/-- Rows of 0x2B10. -/
def t2B10 : List ObjRow := [
  ⟨1, 1, .u 32, .rw, 3, 16384, .special⟩,
  ⟨2, 1, .u 8, .rw, 3, 0, .special⟩,
  ⟨3, 1, .u 8, .rw, 3, 0, .between 0 1⟩,
  ⟨4, 1, .u 32, .rw, 3, 1024, .mult 64 64 65536⟩,
  ⟨5, 1, .u 16, .rw, 3, 50, .between 1 10000⟩,
  ⟨6, 1, .u 8, .rw, 3, 0, .between 0 1⟩,
  ⟨7, 1, .u 16, .rw, 3, 256, .mult 64 64 1024⟩,
  ⟨8, 1, .u 16, .rw, 3, 10, .between 1 10000⟩,
  ⟨9, 1, .u 32, .ro, 1, 0, .any⟩,
  ⟨10, 1, .u 32, .ro, 1, 0, .any⟩,
  ⟨11, 1, .u 64, .ro, 1, 0, .any⟩,
  ⟨12, 1, .u 64, .ro, 1, 0, .any⟩,
  ⟨13, 1, .u 64, .ro, 1, 0, .any⟩,
  ⟨14, 1, .u 64, .ro, 1, 0, .any⟩,
  ⟨15, 1, .u 16, .ro, 1, 0, .any⟩]
/-- Rows of 0x2B20. -/
def t2B20 : List ObjRow := [
  ⟨1, 9, .u 64, .ro, 1, 0, .any⟩]
/-- Rows of 0x2B40. -/
def t2B40 : List ObjRow := [
  ⟨1, 1, .u 8, .rw, 3, 0, .between 0 1⟩,
  ⟨2, 1, .u 8, .rw, 3, 0, .between 0 3⟩,
  ⟨3, 1, .u 8, .rw, 3, 0, .between 0 1⟩,
  ⟨4, 1, .u 32, .rw, 3, 1, .between 1 4294967295⟩,
  ⟨5, 1, .u 32, .rw, 3, 1, .between 0 4294967295⟩,
  ⟨6, 1, .u 8, .rw, 3, 8, .between 0 31⟩,
  ⟨7, 1, .u 64, .rw, 3, 1, .between 1 18446744073709551615⟩,
  ⟨8, 1, .u 64, .rw, 3, 1, .any⟩,
  ⟨9, 1, .u 16, .rw, 3, 0, .between 0 65535⟩,
  ⟨10, 1, .u 8, .rw, 3, 1, .between 1 15⟩,
  ⟨11, 1, .u 8, .rw, 3, 0, .between 0 1⟩,
  ⟨12, 1, .u 8, .rw, 3, 15, .bits 0x0F⟩,
  ⟨13, 1, .u 64, .ro, 1, 0, .any⟩]
/-- Rows of 0x2C00. -/
def t2C00 : List ObjRow := [
  ⟨1, 1, .u 32, .rw, 3, 5000, .between 100 1000000⟩,
  ⟨2, 1, .u 32, .rw, 3, 50, .between 10 10000⟩,
  ⟨3, 1, .u 32, .rw, 3, 1000, .between 10 100000⟩,
  ⟨4, 1, .u 32, .rw, 3, 2000, .between 100 1000000⟩,
  ⟨5, 1, .u 16, .rw, 3, 50, .between 1 1000⟩,
  ⟨6, 1, .u 8, .rw, 4, 1, .between 0 1⟩,
  ⟨7, 1, .u 32, .ro, 1, 0, .any⟩,
  ⟨8, 1, .u 16, .ro, 1, 0, .any⟩,
  ⟨9, 1, .u 32, .ro, 1, 0, .any⟩,
  ⟨10, 1, .u 8, .ro, 1, 0, .any⟩,
  ⟨11, 1, .u 32, .ro, 1, 0, .any⟩,
  ⟨12, 1, .u 32, .ro, 1, 0, .any⟩]
/-- Rows of 0x2C01. -/
def t2C01 : List ObjRow := [
  ⟨1, 1, .dom, .ro, 1, 0, .dom 4096⟩,
  ⟨2, 1, .u 8, .ro, 1, 0, .any⟩,
  ⟨3, 1, .u 16, .ro, 1, 0, .any⟩,
  ⟨4, 1, .u 8, .wo, 2, 0, .between 1 1⟩,
  ⟨5, 1, .u 64, .ro, 1, 0, .any⟩,
  ⟨6, 1, .u 64, .ro, 1, 0, .any⟩]
/-- Rows of 0x2C02. -/
def t2C02 : List ObjRow := [
  ⟨1, 1, .dom, .ro, 1, 0, .dom 560⟩,
  ⟨2, 1, .u 8, .ro, 1, 255, .any⟩]
/-- Rows of 0x2C10. -/
def t2C10 : List ObjRow := [
  ⟨1, 1, .u 64, .ro, 1, 0, .any⟩,
  ⟨2, 1, .u 8, .ro, 1, 0, .any⟩,
  ⟨3, 1, .u 8, .wo, 3, 0, .between 1 1⟩]
/-- Rows of 0x2C11. -/
def t2C11 : List ObjRow := [
  ⟨1, 1, .u 64, .ro, 1, 0, .any⟩,
  ⟨2, 1, .u 16, .ro, 1, 0, .any⟩,
  ⟨3, 1, .u 32, .ro, 1, 0, .any⟩,
  ⟨4, 1, .dom, .ro, 1, 0, .view⟩]
/-- Rows of 0x2C20. -/
def t2C20 : List ObjRow := [
  ⟨1, 1, .u 8, .ro, 1, 0, .any⟩,
  ⟨2, 1, .u 8, .ro, 1, 0, .any⟩]
/-- Rows of 0x2D00. -/
def t2D00 : List ObjRow := [
  ⟨1, 1, .u 8, .ro, 1, 0, .any⟩,
  ⟨2, 1, .u 32, .ro, 1, 0, .any⟩,
  ⟨3, 1, .u 8, .ro, 0, 0, .any⟩,
  ⟨4, 1, .u 8, .wo, 4, 0, .between 1 2⟩,
  ⟨5, 1, .u 8, .rw, 4, 1, .between 0 2⟩,
  ⟨6, 1, .u 8, .ro, 1, 0, .any⟩]
/-- Rows of 0x2D01. -/
def t2D01 : List ObjRow := [
  ⟨1, 1, .dom, .ro, 0, 0, .dom 32⟩,
  ⟨2, 1, .dom, .wo, 0, 0, .dom 40⟩,
  ⟨3, 1, .u 8, .ro, 0, 0, .any⟩,
  ⟨4, 1, .u 8, .wo, 0, 0, .between 1 1⟩,
  ⟨5, 1, .u 16, .rw, 4, 600, .two 0 0 10 65535⟩,
  ⟨6, 1, .u 32, .ro, 1, 0, .any⟩]
/-- Rows of 0x2D02. -/
def t2D02 : List ObjRow := [
  ⟨1, 4, .dom, .wo, 4, 0, .dom 32⟩]
/-- Rows of 0x2D03. -/
def t2D03 : List ObjRow := [
  ⟨0, 1, .dom, .rw, 4, 0, .domEntries 8 256⟩]
/-- Rows of 0x2D04. -/
def t2D04 : List ObjRow := [
  ⟨0, 1, .dom, .rw, 4, 0, .dom 1024⟩]
/-- Rows of 0x2D05. -/
def t2D05 : List ObjRow := [
  ⟨0, 1, .dom, .rw, 4, 0, .dom 256⟩]
/-- Rows of 0x2D06. -/
def t2D06 : List ObjRow := [
  ⟨0, 1, .dom, .rw, 4, 0, .dom 388⟩]
/-- Rows of 0x2D07. -/
def t2D07 : List ObjRow := [
  ⟨1, 1, .dom, .ro, 1, 0, .dom 131072⟩,
  ⟨2, 1, .u 16, .ro, 1, 0, .any⟩,
  ⟨3, 1, .u 32, .ro, 1, 0, .any⟩]
/-- Rows of 0x2E00. -/
def t2E00 : List ObjRow := [
  ⟨1, 1, .u 16, .ro, 1, 0, .any⟩,
  ⟨2, 1, .u 16, .ro, 1, 0, .any⟩,
  ⟨3, 1, .i 16, .ro, 1, 0, .any⟩,
  ⟨4, 1, .i 16, .ro, 1, 0, .any⟩,
  ⟨5, 1, .i 16, .rw, 3, 1000, .between 700 1000⟩,
  ⟨6, 1, .u 8, .ro, 1, 0, .any⟩,
  ⟨7, 1, .u 32, .ro, 1, 0, .any⟩,
  ⟨8, 1, .u 32, .ro, 1, 0, .any⟩,
  ⟨9, 1, .u 64, .ro, 1, 0, .any⟩]
/-- Rows of 0x2E10. -/
def t2E10 : List ObjRow := [
  ⟨1, 1, .u 8, .rw, 3, 0, .between 0 3⟩,
  ⟨2, 1, .u 8, .ro, 1, 0, .any⟩,
  ⟨3, 1, .u 64, .ro, 1, 0, .any⟩,
  ⟨4, 1, .i 32, .ro, 1, 0, .any⟩,
  ⟨5, 1, .u 16, .rw, 3, 1000, .between 10 60000⟩,
  ⟨6, 1, .u 32, .rw, 3, 0, .two 0 0 1000 1000000000⟩,
  ⟨7, 1, .u 32, .rw, 3, 0, .between 0 999999999⟩,
  ⟨8, 1, .u 8, .rw, 3, 0, .between 0 1⟩,
  ⟨9, 1, .u 32, .rw, 3, 1000000, .between 1000 1000000000⟩,
  ⟨10, 1, .u 32, .ro, 1, 0, .any⟩]
/-- Rows of 0x2E30. -/
def t2E30 : List ObjRow := [
  ⟨1, 1, .u 8, .rw, 3, 0, .between 0 1⟩,
  ⟨2, 1, .u 8, .rw, 3, 4, .between 0 16⟩,
  ⟨3, 1, .u 8, .rw, 3, 15, .bits 0x0F⟩,
  ⟨4, 1, .u 8, .ro, 1, 0, .any⟩,
  ⟨5, 1, .u 64, .ro, 1, 0, .any⟩]
/-- Rows of 0x2F00. -/
def t2F00 : List ObjRow := [
  ⟨1, 1, .u 8, .wo, 2, 0, .between 1 3⟩,
  ⟨2, 1, .u 8, .rw, 2, 0, .between 0 7⟩,
  ⟨3, 1, .u 8, .rw, 2, 0, .between 0 7⟩,
  ⟨4, 1, .u 8, .rw, 2, 255, .two 0 7 255 255⟩,
  ⟨5, 1, .u 16, .ro, 1, 0, .any⟩,
  ⟨6, 1, .dom, .ro, 1, 0, .dom 64⟩,
  ⟨7, 1, .u 8, .ro, 1, 255, .any⟩,
  ⟨8, 1, .u 8, .ro, 1, 0, .any⟩,
  ⟨9, 1, .dom, .rw, 3, 0, .dom 16⟩,
  ⟨10, 1, .u 8, .ro, 1, 0, .any⟩]
/-- Rows of 0x2F10. -/
def t2F10 : List ObjRow := [
  ⟨1, 1, .u 8, .ro, 1, 0, .any⟩,
  ⟨2, 1, .str, .ro, 1, 0, .dom 32⟩,
  ⟨3, 1, .u 32, .ro, 1, 0, .any⟩,
  ⟨4, 1, .u 32, .ro, 1, 0, .any⟩,
  ⟨5, 1, .u 8, .ro, 1, 255, .any⟩,
  ⟨6, 1, .dom, .ro, 1, 0, .dom 256⟩]
/-- Rows of 0x3000. -/
def t3000 : List ObjRow := [
  ⟨1, 1, .u 8, .ro, 1, 1, .any⟩,
  ⟨2, 1, .u 8, .ro, 1, 255, .any⟩,
  ⟨3, 1, .u 16, .ro, 1, 1200, .any⟩,
  ⟨4, 1, .u 64, .ro, 1, 0, .any⟩,
  ⟨5, 1, .u 64, .ro, 1, 0, .any⟩,
  ⟨6, 1, .u 32, .ro, 1, 0, .any⟩,
  ⟨7, 1, .u 32, .ro, 1, 0, .any⟩,
  ⟨8, 1, .u 64, .rw, 3, 1, .between 1 18446744073709551615⟩,
  ⟨9, 1, .u 32, .ro, 1, 0, .any⟩,
  ⟨10, 1, .u 32, .ro, 1, 0, .any⟩,
  ⟨11, 1, .u 8, .ro, 1, 0, .any⟩,
  ⟨16, 1, .u 8, .rw, 3, 0, .between 0 1⟩,
  ⟨17, 1, .u 16, .rw, 3, 1200, .between 550 1350⟩,
  ⟨18, 1, .u 16, .rw, 3, 750, .between 550 950⟩,
  ⟨19, 1, .u 16, .ro, 1, 750, .any⟩,
  ⟨20, 1, .u 8, .ro, 1, 0, .any⟩,
  ⟨21, 1, .u 16, .ro, 1, 0, .any⟩,
  ⟨22, 1, .u 16, .ro, 1, 0, .any⟩,
  ⟨23, 1, .u 64, .ro, 1, 0, .any⟩,
  ⟨24, 1, .u 32, .ro, 1, 0, .any⟩,
  ⟨25, 1, .u 16, .ro, 1, 0, .any⟩,
  ⟨32, 1, .u 16, .ro, 1, 0, .any⟩,
  ⟨33, 1, .u 16, .ro, 1, 0, .any⟩,
  ⟨34, 1, .u 8, .ro, 1, 0, .any⟩,
  ⟨35, 1, .u 64, .ro, 1, 0, .any⟩,
  ⟨36, 1, .u 64, .ro, 1, 0, .any⟩,
  ⟨37, 1, .u 64, .ro, 1, 0, .any⟩,
  ⟨38, 1, .u 64, .ro, 1, 0, .any⟩,
  ⟨39, 1, .u 64, .ro, 1, 0, .any⟩,
  ⟨40, 1, .u 16, .ro, 1, 0, .any⟩,
  ⟨41, 1, .u 16, .ro, 1, 0, .any⟩]
/-- Rows of 0x5000. -/
def t5000 : List ObjRow := [
  ⟨1, 1, .u 8, .wo, 3, 0, .between 1 3⟩,
  ⟨2, 1, .u 64, .rw, 3, 18446744073709551615, .any⟩,
  ⟨3, 1, .u 8, .ro, 1, 0, .any⟩,
  ⟨4, 1, .dom, .ro, 1, 0, .dom 512⟩,
  ⟨5, 1, .u 32, .ro, 1, 0, .any⟩,
  ⟨6, 1, .u 64, .rw, 4, 0, .special⟩,
  ⟨7, 1, .dom, .ro, 4, 0, .dom 64⟩]

end Table

/-- The tables of 0x1000 to 0x1FFF, by first index, number of copies and their distance. -/
def objs10 : List (Nat × Nat × Nat × List ObjRow) := [
  (0x1000, 1, 0x1, Table.t1000),
  (0x1001, 1, 0x1, Table.t1001),
  (0x1003, 1, 0x1, Table.t1003),
  (0x1008, 1, 0x1, Table.t1008),
  (0x1009, 1, 0x1, Table.t1009),
  (0x100A, 1, 0x1, Table.t100A),
  (0x1010, 1, 0x1, Table.t1010),
  (0x1011, 1, 0x1, Table.t1011),
  (0x1014, 1, 0x1, Table.t1014),
  (0x1017, 1, 0x1, Table.t1017),
  (0x1018, 1, 0x1, Table.t1018),
  (0x1600, 4, 0x1, Table.t1600),
  (0x1A00, 4, 0x1, Table.t1A00),
  (0x1C00, 1, 0x1, Table.t1C00),
  (0x1C12, 1, 0x1, Table.t1C12),
  (0x1C13, 1, 0x1, Table.t1C13),
  (0x1C32, 1, 0x1, Table.t1C32),
  (0x1C33, 1, 0x1, Table.t1C33)]

/-- The tables of 0x2000 to 0x20FF, by first index, number of copies and their distance. -/
def objs20 : List (Nat × Nat × Nat × List ObjRow) := [
  (0x2000, 1, 0x1, Table.t2000),
  (0x2001, 1, 0x1, Table.t2001),
  (0x2002, 1, 0x1, Table.t2002),
  (0x2003, 1, 0x1, Table.t2003),
  (0x2004, 1, 0x1, Table.t2004)]

/-- The tables of 0x2100 to 0x21FF, by first index, number of copies and their distance. -/
def objs21 : List (Nat × Nat × Nat × List ObjRow) := [
  (0x2100, 4, 0x10, Table.t2100),
  (0x2101, 4, 0x10, Table.t2101),
  (0x2102, 4, 0x10, Table.t2102),
  (0x2103, 4, 0x10, Table.t2103),
  (0x2104, 4, 0x10, Table.t2104),
  (0x2105, 4, 0x10, Table.t2105),
  (0x2106, 4, 0x10, Table.t2106),
  (0x2107, 4, 0x10, Table.t2107),
  (0x2108, 4, 0x10, Table.t2108),
  (0x2109, 4, 0x10, Table.t2109),
  (0x210A, 4, 0x10, Table.t210A)]

/-- The tables of 0x2200 to 0x23FF, by first index, number of copies and their distance. -/
def objs22 : List (Nat × Nat × Nat × List ObjRow) := [
  (0x2200, 8, 0x1, Table.t2200),
  (0x2210, 2, 0x1, Table.t2210),
  (0x2220, 4, 0x1, Table.t2220),
  (0x2230, 1, 0x1, Table.t2230),
  (0x2300, 1, 0x1, Table.t2300),
  (0x2301, 1, 0x1, Table.t2301),
  (0x2302, 1, 0x1, Table.t2302),
  (0x2303, 1, 0x1, Table.t2303),
  (0x2304, 1, 0x1, Table.t2304),
  (0x2310, 32, 0x1, Table.t2310),
  (0x2340, 8, 0x1, Table.t2340),
  (0x2350, 1, 0x1, Table.t2350)]

/-- The tables of 0x2400 to 0x26FF, by first index, number of copies and their distance. -/
def objs24 : List (Nat × Nat × Nat × List ObjRow) := [
  (0x2400, 1, 0x1, Table.t2400),
  (0x2410, 8, 0x1, Table.t2410),
  (0x2500, 1, 0x1, Table.t2500),
  (0x2510, 8, 0x1, Table.t2510),
  (0x2600, 1, 0x1, Table.t2600),
  (0x2610, 8, 0x1, Table.t2610)]

/-- The tables of 0x2700 to 0x28FF, by first index, number of copies and their distance. -/
def objs27 : List (Nat × Nat × Nat × List ObjRow) := [
  (0x2700, 16, 0x1, Table.t2700),
  (0x2710, 1, 0x1, Table.t2710),
  (0x2711, 1, 0x1, Table.t2711),
  (0x2720, 1, 0x1, Table.t2720),
  (0x2730, 1, 0x1, Table.t2730),
  (0x2740, 4, 0x1, Table.t2740),
  (0x2800, 1, 0x1, Table.t2800),
  (0x2801, 1, 0x1, Table.t2801),
  (0x2802, 1, 0x1, Table.t2802),
  (0x2810, 1, 0x1, Table.t2810),
  (0x2820, 24, 0x1, Table.t2820)]

/-- The tables of 0x2900 to 0x2BFF, by first index, number of copies and their distance. -/
def objs29 : List (Nat × Nat × Nat × List ObjRow) := [
  (0x2900, 1, 0x1, Table.t2900),
  (0x2910, 4, 0x1, Table.t2910),
  (0x2920, 8, 0x1, Table.t2920),
  (0x2930, 16, 0x1, Table.t2930),
  (0x2940, 1, 0x1, Table.t2940),
  (0x2A00, 1, 0x1, Table.t2A00),
  (0x2A01, 1, 0x1, Table.t2A01),
  (0x2A02, 1, 0x1, Table.t2A02),
  (0x2A10, 4, 0x1, Table.t2A10),
  (0x2A20, 4, 0x1, Table.t2A20),
  (0x2B10, 9, 0x1, Table.t2B10),
  (0x2B20, 1, 0x1, Table.t2B20),
  (0x2B40, 8, 0x1, Table.t2B40)]

/-- The tables of 0x2C00 to 0x2FFF, by first index, number of copies and their distance. -/
def objs2C : List (Nat × Nat × Nat × List ObjRow) := [
  (0x2C00, 1, 0x1, Table.t2C00),
  (0x2C01, 1, 0x1, Table.t2C01),
  (0x2C02, 1, 0x1, Table.t2C02),
  (0x2C10, 1, 0x1, Table.t2C10),
  (0x2C11, 4, 0x1, Table.t2C11),
  (0x2C20, 1, 0x1, Table.t2C20),
  (0x2D00, 1, 0x1, Table.t2D00),
  (0x2D01, 1, 0x1, Table.t2D01),
  (0x2D02, 1, 0x1, Table.t2D02),
  (0x2D03, 1, 0x1, Table.t2D03),
  (0x2D04, 1, 0x1, Table.t2D04),
  (0x2D05, 1, 0x1, Table.t2D05),
  (0x2D06, 1, 0x1, Table.t2D06),
  (0x2D07, 1, 0x1, Table.t2D07),
  (0x2E00, 1, 0x1, Table.t2E00),
  (0x2E10, 1, 0x1, Table.t2E10),
  (0x2E30, 4, 0x1, Table.t2E30),
  (0x2F00, 1, 0x1, Table.t2F00),
  (0x2F10, 8, 0x1, Table.t2F10)]

/-- The tables of 0x3000 and above, by first index, number of copies and their distance. -/
def objs30 : List (Nat × Nat × Nat × List ObjRow) := [
  (0x3000, 64, 0x40, Table.t3000),
  (0x5000, 1, 0x1, Table.t5000)]

/-- The rows of an index within a part of the dictionary. -/
def rowsIn : List (Nat × Nat × Nat × List ObjRow) → Nat → List ObjRow
  | [], _ => []
  | (b, n, st, rows) :: rest, idx =>
    if b ≤ idx ∧ (idx - b) % st = 0 ∧ (idx - b) / st < n then rows else rowsIn rest idx

/-- The rows of an index; none where no table lists it. -/
def rowsOf (idx : Nat) : List ObjRow :=
  if idx < 0x2000 then rowsIn objs10 idx
  else if idx < 0x2100 then rowsIn objs20 idx
  else if idx < 0x2200 then rowsIn objs21 idx
  else if idx < 0x2400 then rowsIn objs22 idx
  else if idx < 0x2700 then rowsIn objs24 idx
  else if idx < 0x2900 then rowsIn objs27 idx
  else if idx < 0x2C00 then rowsIn objs29 idx
  else if idx < 0x3000 then rowsIn objs2C idx
  else rowsIn objs30 idx

/-- The row that lists a subindex. -/
def rowIn : List ObjRow → Nat → Option ObjRow
  | [], _ => none
  | r :: rs, sub => if r.sub ≤ sub ∧ sub < r.sub + r.n then some r else rowIn rs sub

/-- The row of an object, by key. -/
def objRow (k : Nat) : Option ObjRow := rowIn (rowsOf (k / 256)) (k % 256)

end Sys2Proof.Machine
end

