-- ==== Sys2Proof/Machine/CalState.lean ====
section
/-! DEFINITION. The state of the calibration loops (R253 to R273) beside their objects. -/

namespace Sys2Proof.Machine

/-- A loop commit that waits for its epoch (R256): loop number (0 to 3 the time offset of a port, 16 to 31 the extrinsics of
a frame, 32 the encoder scale), the value of a time offset, the bytes of the others, whether 0x0804 was raised for it. -/
structure LoopCommit where
  loop : Nat
  value : Int
  data : List Byte
  noted : Bool
  deriving DecidableEq, Repr

/-- A calibration task of the runtime (R258): its loop's number, the cycles it still takes on each tile, the estimate and its peak of a
time offset, the correction of an extrinsic, the ρ of the scale. -/
structure CalTask where
  loop : Nat
  cycles : Nat
  estimate : Rat
  peak : Nat
  rotation : List Rat
  translation : List Rat
  deriving DecidableEq, Repr

/-- The loops: commits staged, ports whose offset slews (R265), the slot of the last epoch change (R256), residual records written
(R260), residuals gathered by frame (R266), sums and count of the scale loop (R267), reference values (R271), loops stopped, the next
entry of the rate rings (R264), residual records written and not yet read (R260), when each port's offset window began (R264), the
tasks that wait and the cycles spent in the present millisecond (R258). -/
structure Cal where
  staged : List LoopCommit
  slewing : List Nat
  lastEpoch : Option Nat
  written : Nat
  residuals : SMap Nat
  scaleTop : Rat
  scaleSq : Rat
  scaleCount : Nat
  offsetRef : SMap Int
  scaleRef : Rat
  stopped : List Nat
  rateNext : SMap Nat
  unread : Nat
  offsetFrom : SMap Nat
  tasks : List CalTask
  spent : Nat
  deriving DecidableEq, Repr

/-- The loops at power-up; the reference of the scale is the default of Encoder Scale (R271). -/
def Cal.init : Cal :=
  { staged := [], slewing := [], lastEpoch := none, written := 0, residuals := [], scaleTop := 0, scaleSq := 0,
    scaleCount := 0, offsetRef := [], scaleRef := 8796093 / 8796093022208, stopped := [], rateNext := [], unread := 0, offsetFrom := [], tasks := [], spent := 0 }

end Sys2Proof.Machine
end

