-- ==== Sys2Proof/Machine/GateState.lean ====
section
/-! DEFINITION. The state of the Gate: sensor ports (R31 to R60), the Kerb path (R61 to R69), the analog channels and
the motion inputs (R73 to R95). What the dictionary shows of them is held in the objects. -/

namespace Sys2Proof.Machine

/-- A word of the delivery lane with its kind tag (R38): 0 event, 1 marker, 2 surface patch, 3 frame line. `recNum` numbers
the replay record the word came from (R57), and `stamp` is the device time of the item it is part of (R40). -/
structure LaneWord where
  kind : Nat
  word : BitVec 64
  recNum : Nat
  stamp : Nat
  deriving DecidableEq, Repr

/-- What an event offers to the event-level feed when the Market gets it (R215): nothing, its feed word, or a position outside the
range of Table 8-2. -/
inductive FeedOffer where
  | none
  | word (w : BitVec 64)
  | outOfRange
  deriving DecidableEq, Repr

/-- An item a packet holds as pending until its CRC check (R53). A drop carries the number of its counter in 0x2108 and
the reason bit of Table 2-5, if it has one. -/
inductive PendItem where
  | start (cold : Bool) (stamp : Nat)
  | event (word : BitVec 64) (stamp : Nat) (feed : FeedOffer)
  | trigger (word : BitVec 64) (stamp : Nat)
  | drop (counter : Nat) (reason : Nat)
  | line (words : List (BitVec 64))
  deriving DecidableEq, Repr

/-- The port's timing before a packet: what a packet withdrawn under R53 leaves (R35). -/
structure PortTiming where
  running : Nat
  sensorTime : Nat
  sensorRaw : Nat
  lastStamp : Option Nat
  deriving DecidableEq, Repr

/-- The packet a port is receiving (R32, R53), with the port's timing before it. -/
structure Packet where
  vc : Nat
  dataType : Nat
  arrival : Nat
  frame : Bool
  timeSet : Bool
  noted : Bool
  payload : List Byte
  items : List PendItem
  stored : Nat
  surface : SMap Nat
  anchored : Bool
  lastStamp : Option Nat
  before : PortTiming
  deriving DecidableEq, Repr

/-- A packet just opened by its header. -/
def Packet.opened (vc dataType arrival : Nat) (frame : Bool) (before : PortTiming) : Packet :=
  { vc := vc, dataType := dataType, arrival := arrival, frame := frame, timeSet := false, noted := false, payload := [],
    items := [], stored := 0, surface := [], anchored := false, lastStamp := none, before := before }

/-- An entry of the hot-pixel table (R46). -/
structure HotEntry where
  x : Nat
  y : Nat
  count : Nat
  err : Nat
  deriving DecidableEq, Repr

/-- A listed hot pixel and its windows below the release threshold in a row (R46). -/
structure HotPixel where
  x : Nat
  y : Nat
  below : Nat
  deriving DecidableEq, Repr

/-- A record of the replay ring (R59): its number, arrival stamp, offset in the ring and bytes held with the header. -/
structure RingRec where
  num : Nat
  stamp : Nat
  off : Nat
  len : Nat
  deriving DecidableEq, Repr

/-- A transfer of a port's I3C queue (R34). -/
structure I3cTransfer where
  biasLoop : Bool
  bytes : List Byte
  deriving DecidableEq, Repr

/-- A de-rotation set (R214): slot, calibration epoch (R255), H0 and H1, row by row. -/
structure DerotSet where
  slot : Nat
  epoch : Nat
  h0 : List Rat
  h1 : List Rat
  deriving DecidableEq, Repr

/-- A sensor port (R31 to R60). `coldUntil` is when the Cold Time begun at the latest START has passed (R51); `hotFrom`, `learnFrom`
and `biasFrom` are when the present window of each learning loop began (R46, R261, R262). -/
structure SensorPort where
  running : Nat
  sensorTime : Nat
  sensorRaw : Nat
  anchor : Option (Nat × Nat)
  lastStamp : Option Nat
  lastEpoch : Option Nat
  packet : Option Packet
  queue : List LaneWord
  backlog : List LaneWord
  gap : Nat
  gapReasons : Nat
  capSlot : Nat
  capCount : Nat
  window : Nat
  rMin : Option Int
  rPrev : Option Int
  hot : List HotEntry
  hotList : List HotPixel
  hotWindow : Nat
  hotFrom : Nat
  coldRunning : Bool
  coldUntil : Nat
  accUniform : Nat
  accPriority : List Nat
  learn : List Nat
  learnFrom : Nat
  biasFrom : Nat
  biasCount : Nat
  rateCount : Nat
  ring : List RingRec
  ringNext : Nat
  ringOff : Nat
  i3c : List I3cTransfer
  i3cAddressed : Bool
  derot : List DerotSet
  frameStart : Nat
  committedArrival : Option Nat
  deriving DecidableEq, Repr

/-- A sensor port at power-up (Table 15-2). -/
def SensorPort.init : SensorPort :=
  { running := 0, sensorTime := 0, sensorRaw := 0, anchor := none, lastStamp := none,
    lastEpoch := none, packet := none, queue := [], backlog := [], gap := 0, gapReasons := 0,
    capSlot := 0, capCount := 0, window := 0, rMin := none, rPrev := none, hot := [], hotList := [],
    hotWindow := 10, hotFrom := 0, coldRunning := false, coldUntil := 0, accUniform := 0, accPriority := [0, 0, 0, 0],
    learn := [0, 0, 0, 0, 0, 0, 0, 0, 0, 0, 0, 0, 0, 0, 0, 0], learnFrom := 0, biasFrom := 0, biasCount := 0, rateCount := 0,
    ring := [], ringNext := 0, ringOff := 0, i3c := [], i3cAddressed := false,
    derot := [], frameStart := 0, committedArrival := none }

/-- The Gate outside its ports: aggregate capacity of the slot (R24), the delivery round-robin (R60), the surface
write-combining cache by entry address (R52), the event-level feed queue and its count of the slot (R215), the sampled
ego-motion and lag registers with their stamps (R12), the number of the last replay record. -/
structure Gate where
  ports : SMap SensorPort
  capSlot : Nat
  capTotal : Nat
  rr : Nat
  cache : SMap Nat
  feed : List (BitVec 64)
  feedSlot : Nat
  feedCount : Nat
  egoStamp : Nat
  lagStamp : Nat
  lags : SMap Nat
  deriving DecidableEq, Repr

/-- The Gate at power-up. -/
def Gate.init : Gate :=
  { ports := [], capSlot := 0, capTotal := 0, rr := 0, cache := [], feed := [], feedSlot := 0, feedCount := 0,
    egoStamp := 0, lagStamp := 0, lags := [] }

/-- Port `p` of the Gate. -/
def Gate.port (g : Gate) (p : Nat) : SensorPort := g.ports.get SensorPort.init p

/-! ## The Kerb path -/

/-- What runs of a Kerb rule (R63, R64). `inhibited` and `suppressed` are of the present activity; `pulseEnd` and `inhibitEnd`
are when the latest pulse and the latest Inhibit run out, in quarters of a nanosecond (an INTAKE cycle is 5 of them). -/
structure KerbRule where
  active : Bool
  pulse : Bool
  latch : Bool
  inhibit : Bool
  inhibited : Bool
  suppressed : Bool
  pulseEnd : Nat
  inhibitEnd : Nat
  deriving DecidableEq, Repr

/-- A rule that has not fired. -/
def KerbRule.init : KerbRule := ⟨false, false, false, false, false, false, 0, 0⟩

/-- Where an edge comes from (Table 2-16). -/
inductive EdgeSource where
  | rule (n : Nat)
  | tile (t : Nat)
  | remote (addr : Nat)
  deriving DecidableEq, Repr

/-- The kind of an edge (Table 2-16). -/
inductive EdgeKind where
  | rise
  | fall
  | pulse
  deriving DecidableEq, Repr

/-- An entry of the edge record (Table 2-16). `open_` names the port whose packet fired it while that packet awaits its
CRC check (R68). -/
structure Edge where
  stamp : Nat
  source : EdgeSource
  out : Nat
  kind : EdgeKind
  suppressed : Bool
  inhibited : Bool
  crcFailed : Bool
  open_ : Option Nat
  deriving DecidableEq, Repr

/-- A level or a pulse of a tile or of another module on an output (R17, R293). -/
structure KerbPost where
  source : EdgeSource
  out : Nat
  deriving DecidableEq, Repr

/-- A pulse of a tile or of another module, and the device time at which its width runs out (R17, R293). -/
structure KerbPulse where
  post : KerbPost
  until_ : Nat
  deriving DecidableEq, Repr

/-- The Kerb path: counters (R62), rules (R63), levels and pulses of tiles and modules (R17, R293), the edge record
(R69). `offDrivers`: the K drivers are off (R440). -/
structure Kerb where
  counters : SMap Nat
  rules : SMap KerbRule
  levels : List KerbPost
  pulses : List KerbPulse
  edges : List Edge
  offDrivers : Bool
  deriving DecidableEq, Repr

/-- The Kerb path at power-up: counters 0, no rule active, drivers off. -/
def Kerb.init : Kerb :=
  { counters := [], rules := [], levels := [], pulses := [], edges := [], offDrivers := true }

/-! ## Analog channels and motion inputs -/

/-- An analog channel (R73 to R86, R269): the last quantiser codes, what the decimating filter holds of modulator samples, of CIC and of
half-band outputs, newest first, in LSB (R74), the output periods since the last offset measurement, the DC estimate with 32
fraction bits and the one held at the last disable, settling samples left, boxcar histories, the last two delivered
samples, the offset measurement, the entries of the slots not yet written, the latest samples with their stamps for the
Square, newest first (R221). -/
structure AnalogChan where
  quant : List Nat
  mods : List Rat
  cic : List Rat
  half : List Rat
  periods : Nat
  dc : Int
  dcHeld : Option Int
  settleLeft : Nat
  box : List (List Int)
  y1 : Int
  y2 : Int
  measSum : Int
  measCount : Nat
  corr : Option Int
  entries : List (Nat × BitVec 64)
  recent : List (Nat × Int)
  stoppedAt : Option Nat
  discontinuous : Bool
  deriving DecidableEq, Repr

/-- A channel at power-up. -/
def AnalogChan.init : AnalogChan :=
  { quant := [0, 0, 0, 0], mods := [], cic := [], half := [], periods := 0, dc := 0, dcHeld := none, settleLeft := 0, box := [[], [], []], y1 := 0,
    y2 := 0, measSum := 0, measCount := 0, corr := none, entries := [], recent := [],
    stoppedAt := none, discontinuous := false }

/-- An inertial port (R87 to R89): the trigger instant of a read in progress, whether an edge was missed since it began, whether that
read itself follows a missed one, the entries with the instants their reads completed, the latest samples with their stamps for the
Square, newest first (R211), the instant it went SILENT, and the latest DRDY edge or the enabling from which silence counts (R89). -/
structure InertialPort where
  reading : Option Nat
  missed : Bool
  preceded : Bool
  entries : List (Nat × List Byte)
  recent : List (Nat × List Int)
  silentAt : Option Nat
  lastDrdy : Nat
  stoppedAt : Option Nat
  discontinuous : Bool
  deriving DecidableEq, Repr

/-- An inertial port at power-up. -/
def InertialPort.init : InertialPort :=
  { reading := none, missed := false, preceded := false, entries := [], recent := [], silentAt := none, lastDrdy := 0,
    stoppedAt := none, discontinuous := false }

/-- An encoder (R90 to R92): accepted levels, a preset load waiting for the boundary, the edges of the slots not yet
written, the position at the start of the slot and of the slot before, Index Latch at the end of the slot before, and the
positions of past slots for the Square (R92). -/
structure Encoder where
  a : Bool
  b : Bool
  loadPending : Bool
  edges : List (Nat × BitVec 16)
  posStart : Nat
  posPrev : Nat
  latchPrev : Nat
  hist : SMap Nat
  stoppedAt : Option Nat
  discontinuous : Bool
  deriving DecidableEq, Repr

/-- An encoder at power-up. -/
def Encoder.init : Encoder :=
  { a := false, b := false, loadPending := false, edges := [], posStart := 0, posPrev := 0, latchPrev := 0, hist := [], stoppedAt := none,
    discontinuous := false }

/-- A sample ring (R93, R94): where the next block goes, the block written and not yet complete, the newest slot whose
block is complete, and the offset its head holds. -/
structure SampleRing where
  next : Nat
  open_ : Option (Nat × Nat)
  newestSlot : Option Nat
  newest : Nat
  deriving DecidableEq, Repr

/-- A ring at power-up: the first block follows the 64-byte head. -/
def SampleRing.init : SampleRing := { next := 64, open_ := none, newestSlot := none, newest := 0 }

/-- Channels, inertial ports, encoders, the 14 sample rings (0 to 7 analog, 8 and 9 inertial, 10 to 13 encoders) and the filtered
levels at the pins of T0 to T3 (R356; those not listed are low). -/
structure Inputs where
  chans : SMap AnalogChan
  inertial : SMap InertialPort
  encoders : SMap Encoder
  rings : SMap SampleRing
  pins : SMap Bool
  deriving DecidableEq, Repr

/-- The inputs at power-up. -/
def Inputs.init : Inputs := { chans := [], inertial := [], encoders := [], rings := [], pins := [] }

/-- What a reset leaves of the inputs: the levels at their pins, and nothing else. -/
def Inputs.survive (i : Inputs) : Inputs :=
  { Inputs.init with encoders := i.encoders.mapVal (fun _ c => { Encoder.init with a := c.a, b := c.b }), pins := i.pins }

end Sys2Proof.Machine
end

