-- ==== Sys2Proof/Machine/HealthState.lean ====
section
/-! DEFINITION. The state of the status log (R349, R353), of control and the two masters (R326 to R338), and of power
and time (R364 to R378). What the dictionary shows of them is held in the objects. -/

namespace Sys2Proof.Machine

/-- An entry of the status log (Table 14-3). -/
structure LogEntry where
  stamp : Nat
  code : Nat
  fault : Bool
  unit_ : Nat
  count : Nat
  deriving DecidableEq, Repr

/-- The status log, newest entry first (R353), the last faults (R349), the EMCY message sent last, and the instants of
notices that are raised at most once per second, by code. -/
structure Health where
  log : List LogEntry
  stdErrors : List Nat
  emcy : Option (Nat × Nat)
  lastNotice : SMap Nat
  deriving DecidableEq, Repr

/-- An empty log. -/
def Health.init : Health := { log := [], stdErrors := [], emcy := none, lastNotice := [] }

/-- A device transition in progress (R327): the command (Table 13-1, or 6 for the return to STANDBY of R328), the state
it left, and whether its instant has come. -/
structure Transition where
  cmd : Nat
  origin : Nat
  effective : Bool
  deriving DecidableEq, Repr

/-- A write kept for the ledger (Table 16-3). -/
structure WriteEntry where
  stamp : Nat
  port : Nat
  key : Nat
  data : List Byte
  deriving DecidableEq, Repr

/-- Control and the masters: the transition in progress (R327), the last valid frames of each side (R332), the SYNC0 cycle (R335), the
RxPDO received and not yet applied, the previous RxPDO values by entry (R336), the latched TxPDO, the loss of the field latched and
whether OP was left (R337), the node ID and rate in force (R338), the history of writes, heartbeats sent, the Result Window sizes
counted at the transition to SAFEOP (R350), the AL status code of the last refusal (R335), the FoE error of the last package write, 0
where it was not refused (R430). -/
structure Control where
  transition : Option Transition
  ecatLast : Option Nat
  canLast : Option Nat
  sync0 : Nat
  rxFrame : Option (List Byte)
  rxPrev : SMap Nat
  txLatch : List Byte
  fieldLost : Bool
  leftOp : Bool
  nodeId : Nat
  canRate : Nat
  history : List WriteEntry
  heartbeats : Nat
  windows : List Nat
  alStatus : Nat
  foeError : Nat
  deriving DecidableEq, Repr

/-- Control at power-up. -/
def Control.init : Control :=
  { transition := none, ecatLast := none, canLast := none, sync0 := 0, rxFrame := none, rxPrev := [], txLatch := [],
    fieldLost := false, leftOp := false, nodeId := 127, canRate := 2000, history := [], heartbeats := 0, windows := [], alStatus := 0, foeError := 0 }

/-- Power and temperature (R364 to R378, R435): the die rails and the Lodge supply, whether the input stands outside its range, rails
removed by the hold-up level, instants of restarts after regulator failures, whether the die is to stay off, the instant of a thermal
shutdown, the clock cap in MHz, supply taps that are off, with the instants they switched off; the instant up to which Input Energy is
counted, and the energy beyond its last whole joule, in 10⁻¹⁰ J. -/
structure Power where
  lodge : Bool
  rails : Bool
  outside : Bool
  holdUp : Bool
  regFails : List Nat
  regHeld : Bool
  shutdownAt : Option Nat
  cap : Nat
  tapsOff : SMap Nat
  meteredAt : Nat
  energyRest : Nat
  deriving DecidableEq, Repr

/-- Power at the moment the input becomes valid: rails off. -/
def Power.init : Power :=
  { lodge := false, rails := false, outside := false, holdUp := false, regFails := [], regHeld := false,
    shutdownAt := none, cap := 1350, tapsOff := [], meteredAt := 0, energyRest := 0 }

/-- The time discipline (R370 to R374): samples in a row within 20 ns, the trim in ppb, the start of the holdover,
whether the source has been acquired before, the level of the SYNC output. -/
structure Discipline where
  inRow : Nat
  trim : Int
  holdoverAt : Option Nat
  stepped : Bool
  syncHigh : Bool
  syncUntil : Nat
  deriving DecidableEq, Repr

/-- The discipline at power-up. -/
def Discipline.init : Discipline := { inRow := 0, trim := 0, holdoverAt := none, stepped := false, syncHigh := false, syncUntil := 0 }

end Sys2Proof.Machine
end

