-- ==== Sys2Proof/Machine/LinkState.lean ====
section
/-! DEFINITION. The state of the Chaivo link (R277 to R300): ports, street map copies, outstanding requests. Counters and
settings are objects. -/

namespace Sys2Proof.Machine

/-- A flit without its trailer (R281). -/
structure Flit where
  header : BitVec 192
  payload : List Byte
  deriving DecidableEq, Repr

/-- A flit sent and not yet acknowledged (R284): its sequence number, the trailer it left with, how often it was resent, when
it was last sent. -/
structure SentFlit where
  seq : Nat
  flit : Flit
  trailer : BitVec 64
  resent : Nat
  sentAt : Nat
  deriving DecidableEq, Repr

/-- Where a flit goes (R289): to this module, out of a port, nowhere; or not decided yet, for a flit that may have to be
discarded after a NAK. -/
inductive FlitRoute where
  | undecided
  | here
  | out (p : Nat)
  | drop
  deriving DecidableEq, Repr

/-- The flit a port is receiving: its header, its route, and whether it is forwarded cut-through (R283). -/
structure RxFlit where
  header : BitVec 192
  route : FlitRoute
  cut : Bool
  deriving DecidableEq, Repr

/-- A flit that waits at a port, and the input it came by: 0 to 3 the port that received it, in whose buffer it lies, 4 this module
(R285). -/
structure QueuedFlit where
  input : Nat
  flit : Flit
  deriving DecidableEq, Repr

/-- A link port. `skip`: data blocks are discarded up to the next control block (R283); `discarding`: a NAK is out, and flits are
discarded until the next number comes, `nakDue`: that NAK has not left yet (R284); `owed` are credits to return, `credits` those held,
by class; `queue` the flits that wait to be sent, with `waited` the flits each class has waited and `turn` the input each class served
last (R285); `stomp` the stomped copy sent last, with its trailer (R283); `full`: the next training is a full one; `locked` and
`heard`: block lock and FEC alignment, and a HELLO, reached since training began; `sum`, `count`, `mIn` and `offset` belong to time
transfer (R297), `distance` is the one received (R298); `learned` is the MAC address of R299, `frame` the frame sent last in host
mode, without its FCS; `block` the control block sent last (Table 11-4); `cageOff`: when the cage's supply last went off (R443);
`due`: in TRAINING the time of the next stall notice (R278), in DOWN that of the next retry (R279). -/
structure LinkPort where
  rx : Option RxFlit
  skip : Bool
  expected : Nat
  discarding : Bool
  nakDue : Bool
  unacked : Bool
  owed : List Nat
  nextSeq : Nat
  retry : List SentFlit
  credits : List Nat
  queue : List QueuedFlit
  waited : List Nat
  turn : List Nat
  stomp : Option (Flit × BitVec 64)
  full : Bool
  locked : Bool
  heard : Bool
  sum : Int
  count : Nat
  mIn : Option Int
  offset : Option Int
  distance : Nat
  learned : Nat
  frame : List Byte
  block : Option (BitVec 56)
  cageOff : Option Nat
  due : Nat
  deriving DecidableEq, Repr

/-- A port at power-up. -/
def LinkPort.init : LinkPort :=
  { rx := none, skip := false, expected := 0, discarding := false, nakDue := false, unacked := false, owed := [0, 0, 0, 0], nextSeq := 0,
    retry := [], credits := [0, 0, 0, 0], queue := [], waited := [0, 0, 0, 0], turn := [4, 4, 4, 4], stomp := none, full := true, locked := false, heard := false,
    sum := 0, count := 0, mIn := none, offset := none, distance := 0x3FFFF, learned := 0, frame := [], block := none, cageOff := none, due := 0 }

/-- A request of a tile to another module (R292): its tag, the tile and the transaction it belongs to, its bytes' place in
the transaction, when it was sent, and its answer once it has come (error, data). -/
structure LinkRequest where
  tag : Nat
  tile : Nat
  num : Nat
  off : Nat
  len : Nat
  sentAt : Nat
  answer : Option (Bool × List Byte)
  deriving DecidableEq, Repr

/-- The Chaivo link. `region` and `local_` are the active map copies, none at the default (R288); `swap`: written maps wait
for the flit boundary; `mirror` is the Lodge's flash mirror, `mirrorDue`: the active copy is newer; `quarantine` the tags not to
be reused yet, each with the time from which it may be (R292). -/
structure Link where
  ports : SMap LinkPort
  region : Option (List Byte)
  local_ : Option (List Byte)
  swap : Bool
  mirror : Option (List Byte × List Byte)
  mirrorDue : Bool
  requests : List LinkRequest
  quarantine : List (Nat × Nat)
  deriving DecidableEq, Repr

/-- The link at power-up. -/
def Link.init : Link :=
  { ports := [], region := none, local_ := none, swap := false, mirror := none, mirrorDue := false, requests := [],
    quarantine := [] }

end Sys2Proof.Machine
end

