-- ==== Sys2Proof/Machine/MarketState.lean ====
section
/-! DEFINITION. The state of the Market: tiles (R96 to R119), their neuron units (R176 to R201), contexts (R125 to
R128, R157 to R171, R186 to R191) and what is on its way between tiles. -/

namespace Sys2Proof.Machine

/-- A descriptor as an address generator holds it, with its window extension (Tables 4-5 and 5-2). -/
structure Desc where
  base : Nat
  space : Nat
  module : Nat
  format : Nat
  window : Bool
  padding : Bool
  circular : Bool
  faultOnError : Bool
  waitFirst : Bool
  postDone : Bool
  padValue : Nat
  counts : List Nat
  strides : List Int
  xLo : Int
  xHi : Int
  yLo : Int
  yHi : Int
  axisX : Nat
  axisY : Nat
  waitId : Nat
  waitTarget : Nat
  postId : Nat
  circLen : Nat
  xOrg : Int
  yOrg : Int
  sx : Int
  sy : Int
  dx : Int
  dy : Int
  groups : Nat
  groupStride : Int
  deriving DecidableEq, Repr

/-- An address generator (R106, R140): its descriptor, whether it runs, waits or has completed without having posted,
its place (group, taps, output position), the rows left in its pass, its error bit, the bytes transactions have brought by address,
what it has accepted and not yet written by transactions, and its window register: the input rows its line buffer holds, oldest
first, at most 16 (R142). -/
structure AddrGen where
  desc : Option Desc
  running : Bool
  waiting : Bool
  toPost : Bool
  group : Nat
  idx : List Nat
  passLeft : Nat
  error : Bool
  fetched : SMap Byte
  out : List (Nat × List Byte)
  lines : List Int
  deriving DecidableEq, Repr

/-- A generator without a descriptor. -/
def AddrGen.init : AddrGen := ⟨none, false, false, false, 0, [0, 0, 0, 0], 0, false, [], [], []⟩

/-- An accumulator bank (R105, R117): format of the last clear, sticky saturation flag, rows of 64 32-bit values. -/
structure AccBank where
  float : Bool
  sat : Bool
  rows : SMap (List Nat)
  deriving DecidableEq, Repr

/-- A bank at power-up. -/
def AccBank.init : AccBank := ⟨false, false, []⟩

/-- A hardware loop of slot 1 (R104): first and last bundle, iterations left. -/
structure HwLoop where
  first : Nat
  last : Nat
  left : Nat
  deriving DecidableEq, Repr

/-- An outstanding transaction of a tile (R109); `seq` orders it among what the Market has sent (R124). -/
structure Transaction where
  num : Nat
  seq : Nat
  issuer : Issuer
  acc : Access
  deriving DecidableEq, Repr

/-- A resident neuron (Tables 7-1 and 7-2). -/
structure Neuron where
  state : BitVec 64
  slots : SMap Nat
  control : BitVec 64
  deriving DecidableEq, Repr

/-- An entry of the far list (R193). -/
structure FarInput where
  step : Nat
  neuron : Nat
  key : Nat
  kind0 : Bool
  weight : BitVec 16
  deriving DecidableEq, Repr

/-- An entry of the ordered list (R195). -/
structure OrderedInput where
  slot : Nat
  neuron : Nat
  key : Nat
  weight : BitVec 16
  deriving DecidableEq, Repr

/-- A route list being read (R197, R184). An entry of delay d reaches step `step` + d − 1; `source` is bits [40:27] of
Table 7-6; `fetched`: its line was counted before. -/
structure RouteWalk where
  step : Nat
  neuron : Nat
  source : Nat
  next : Nat
  left : Nat
  fetched : Bool
  deriving DecidableEq, Repr

/-- A line of the route cache (R198): route index divided by 8. -/
structure CacheLine where
  line : Nat
  pinned : Bool
  entries : List (BitVec 64)
  deriving DecidableEq, Repr

/-- The neuron unit of a tile. `pending` holds a neuron at key 8,192·slot + neuron; `released` is the latest released step, `dynDone`
the latest whose dynamics have begun, `done` the step the program has issued DONE for; `cache` is keyed 4·set + way, `plru` by set;
`misses` are the lines being read, `pinBack` those that were pinned. -/
structure NeuronUnit where
  neurons : SMap Neuron
  programs : List NeuronProgram
  params : List (List (BitVec 16))
  pending : SMap Bool
  far : List FarInput
  ordered : List OrderedInput
  orderedCap : Nat
  released : Option Nat
  dynDone : Option Nat
  done : Option Nat
  walks : List RouteWalk
  injSeq : SMap Nat
  gen : BitVec 64
  spikeBase : Nat
  cache : SMap CacheLine
  plru : SMap Nat
  misses : List Nat
  pinBack : List Nat
  orderedBase : Nat
  deriving DecidableEq, Repr

/-- A neuron unit without neurons. -/
def NeuronUnit.init : NeuronUnit :=
  { neurons := [], programs := [], params := [], pending := [], far := [], ordered := [], orderedCap := 0,
    released := none, dynDone := none, done := none, walks := [], injSeq := [], gen := 1, spikeBase := 0,
    cache := [], plru := [], misses := [], pinBack := [], orderedBase := 0 }

/-- Why a bundle holds (R113, R109, R98, R309). -/
inductive Hold where
  | none
  | wait (id target : Nat)
  | transactions
  | submitCredit
  | resultCredit
  | generator (n : Nat)
  | kerbRate
  deriving DecidableEq, Repr

/-- A tile. Tile State, clock, voltage and counters are objects. `ring…`: the delivery ring (R98): its size in entries,
its write index and the entries not released. `periods` counts loop periods within the allowance in a row (R170) and `cut` the MHz its
clock is below the highest for the power cap; `wake`: a post or
a step interrupt has come to the sleeping tile (R129); `skips` are the bundles, first and last, of layers that are not executed
(R138). -/
structure Tile where
  code : SMap Bundle
  skips : List (Nat × Nat)
  pc : Nat
  loops : List HwLoop
  g : SMap Word
  v : SMap (List Nat)
  acc : SMap AccBank
  weights : List (List Byte × Nat)
  inUse : Nat
  ags : SMap AddrGen
  sync : SMap Nat
  gen : BitVec 64
  ringBase : Nat
  ringSize : Nat
  ringNext : Nat
  ringHeld : Nat
  trans : List Transaction
  nextTrans : Nat
  hold : Hold
  asleep : Bool
  pausing : Bool
  lastKerb : Option Nat
  unit_ : NeuronUnit
  periods : Nat
  cut : Nat
  wake : Bool
  deriving DecidableEq, Repr

/-- A tile of no context: asleep, everything 0. -/
def Tile.init : Tile :=
  { code := [], skips := [], pc := 0, loops := [], g := [], v := [], acc := [], weights := [([], 0), ([], 0)], inUse := 0, ags := [],
    sync := [], gen := 1, ringBase := 0, ringSize := 0, ringNext := 0, ringHeld := 0, trans := [], nextTrans := 0,
    hold := .none, asleep := true, pausing := false, lastKerb := none,
    unit_ := NeuronUnit.init, periods := 0, cut := 0, wake := false }

/-- A post on its way (R114): it takes effect once the writes it follows are acknowledged. -/
structure Post where
  tile : Nat
  target : Nat
  count : Nat
  after : List Nat
  deriving DecidableEq, Repr

/-- A spike message on its way (Table 7-6), with the step it is for. `source` is bits [40:27]; `after` is the
step whose dynamics its destination must have finished (R185); `seq` orders it among what the Market
has sent (R124). -/
structure SpikeMsg where
  seq : Nat
  tile : Nat
  neuron : Nat
  step : Nat
  fromTile : Nat
  source : Nat
  weight : BitVec 16
  after : Option Nat
  deriving DecidableEq, Repr

/-- A model context. Its state, lag, arithmetic mode and counters are objects. `theta` and `thetaNext` are the two θ
copies by layer number (R157); `exactNow`: the evaluation in progress is computed exactly, `exactNext`: the one after it (R158);
`lowAudits` counts audits below half the target and `lastAudit` holds the evaluation of the last (R171); `lateStep` is the latest step
notice 0x0401 was raised for (R192); `current` is the step last
complete or skipped and `opened` the step open now (R188); `boundLost` holds from a guard event to the next WATERMARK
(Table 12-2); `watermarked`: the context has issued one since its start. -/
structure Context where
  origin : Nat
  w : Nat
  h : Nat
  pkg : Option Package
  slot : Nat
  placement : Nat
  dramBase : Nat
  dramBytes : Nat
  subs : List Subscription
  logical : Option Nat
  theta : SMap Nat
  thetaNext : SMap Nat
  lowAudits : SMap Nat
  lastAudit : SMap Nat
  exactNow : Bool
  exactNext : Bool
  startLeft : Nat
  guards : List Nat
  evals : Nat
  opened : Option Nat
  openedAt : Nat
  current : Option Nat
  doneTiles : List Nat
  pausing : Bool
  rewriting : Bool
  needRewrite : Bool
  staged : Option Package
  swapAccepted : Bool
  swapping : Bool
  boundLost : Bool
  watermarked : Bool
  lateStep : Option Nat
  deriving DecidableEq, Repr

/-- An EMPTY context. -/
def Context.init : Context :=
  { origin := 0, w := 0, h := 0, pkg := none, slot := 0, placement := 0, dramBase := 0, dramBytes := 0, subs := [],
    logical := none, theta := [], thetaNext := [], lowAudits := [], lastAudit := [], exactNow := true, exactNext := false, startLeft := 0, guards := [],
    evals := 0, opened := none, openedAt := 0, current := none, doneTiles := [], pausing := false,
    rewriting := false, needRewrite := false, staged := none, swapAccepted := false, swapping := false,
    boundLost := false, watermarked := false, lateStep := none }

/-- A measurement record on its way to the Square (R217): its context, or none for one the Gate makes, and its bytes. -/
structure Submission where
  ctx : Nat
  bytes : List Byte
  deriving DecidableEq, Repr

/-- The Market, with the measurement records it has submitted and that are not yet filed; `nextSeq` numbers what its tiles send. -/
structure Market where
  tiles : SMap Tile
  ctxs : SMap Context
  posts : List Post
  spikes : List SpikeMsg
  submissions : List Submission
  nextSeq : Nat
  deriving DecidableEq, Repr

/-- The Market at power-up. -/
def Market.init : Market := { tiles := [], ctxs := [], posts := [], spikes := [], submissions := [], nextSeq := 0 }

/-- Tile `t`. -/
def Market.tile (m : Market) (t : Nat) : Tile := m.tiles.get Tile.init t

/-- Context `n`. -/
def Market.ctx (m : Market) (n : Nat) : Context := m.ctxs.get Context.init n

end Sys2Proof.Machine
end

