-- ==== Sys2Proof/Machine/QueueState.lean ====
section
/-! DEFINITION. The state of the result queues (R309 to R313), of the provocation units (R321, R322) and of the flash
mirrors the Exchange keeps. What the dictionary shows of them is held in the objects. -/

namespace Sys2Proof.Machine

/-- A result post on its way to a result queue (R309): kind of Table 12-2, stamp, header bits [18:16], payload. -/
structure ResultPost where
  kind : Nat
  stamp : Nat
  flags : Nat
  payload : List Byte
  deriving DecidableEq, Repr

/-- A batch (R311): its records, padded, oldest first; when its first record entered; the Batch Size and the Tail Timeout
it keeps. -/
structure Batch where
  records : List (List Byte)
  openedAt : Nat
  limit : Nat
  tail : Nat
  deriving DecidableEq, Repr

/-- A result queue (R309 to R313): posts on their way, next sequence number, open batch, closed batches oldest first with
the bytes read of the oldest, the previous response, whether records were discarded since, when it became full and
whether the stall notice was raised, the instant of the last notice 0x0A01, the Reader in force (R314). -/
structure ResultQueue where
  posts : List ResultPost
  seq : Nat
  open_ : Option Batch
  closed : List Batch
  readOff : Nat
  prev : List Byte
  discarded : Bool
  fullAt : Option Nat
  stallNoted : Bool
  dropAt : Option Nat
  reader : Nat
  deriving DecidableEq, Repr

/-- An empty result queue. -/
def ResultQueue.init : ResultQueue :=
  { posts := [], seq := 0, open_ := none, closed := [], readOff := 0, prev := [], discarded := false, fullAt := none,
    stallNoted := false, dropAt := none, reader := 0 }

/-- A held item of a provocation unit, the items still to pass before it is released, whether a swap holds it, and since when. -/
structure HeldItem where
  item : ProvItem
  left : Nat
  swap : Bool
  since : Nat
  deriving DecidableEq, Repr

/-- A provocation unit (R321, R322): items since enable, generator, held items, and the items its last command let
through. -/
structure ProvUnit where
  ordinal : Nat
  gen : BitVec 64
  held : List HeldItem
  released : List ProvItem
  deriving DecidableEq, Repr

/-- A unit that holds nothing. -/
def ProvUnit.init : ProvUnit := { ordinal := 0, gen := 1, held := [], released := [] }

/-- The queues and provocation units of the Exchange. -/
structure Queues where
  results : SMap ResultQueue
  prov : SMap ProvUnit
  deriving DecidableEq, Repr

/-- Queues at power-up. -/
def Queues.init : Queues := { results := [], prov := [] }

end Sys2Proof.Machine
end

