-- ==== Sys2Proof/Machine/SquareState.lean ====
section
/-! DEFINITION. The state of the Square: projection sets (R205, R206), ego-motion (R210 to R214), the Arcade (R216 to
R228), tracks, disputes, sensors and the device step (R231 to R250). Counters and settings are objects. -/

namespace Sys2Proof.Machine

/-- A projection set (R205): fx, fy, cx, cy; k1, k2, k3, p1, p2; the extrinsic E row by row; the plane n, h; the image
size; whether the format is fixed. -/
structure ProjSet where
  intr : List Rat
  dist : List Rat
  ext : List Rat
  plane : List Rat
  width : Nat
  height : Nat
  fixed : Bool
  deriving DecidableEq, Repr

/-- A measurement as filed (Table 8-4, R222). `kind` 5 is event level. `rows` lists the measured rows of Table 9-1 with
value and variance, rows numbered px, py, vx, vy, length, width, θ, ω from 0; `vec` is the point or velocity in three
dimensions, `normal` the plane normal for R234; `pix` holds u, v and their variances; `half` the image half-extent. -/
structure Meas where
  stamp : Nat
  stream : Nat
  seq : Nat
  kind : Nat
  frame : Nat
  sensor : Nat
  cls : Nat
  conf : Nat
  hint : Nat
  slot : Nat
  epoch : Nat
  rows : List (Nat × Rat × Rat)
  vec : List Rat
  normal : List Rat
  pix : List Rat
  half : Rat
  deriving DecidableEq, Repr

/-- A slot of the Arcade from its opening to its fusion (R222, R223). `delivered`: an awaited context or feed stream had
delivered when it closed (Table 9-2); `analog`: the aligned values taken at its close (R221); `cq`, `cw`: the causal attitude
and rate in use when it opened (R219). -/
structure OpenSlot where
  k : Nat
  epoch : Nat
  first : Bool
  deadline : Nat
  meas : List Meas
  closed : Bool
  byDeadline : Bool
  delivered : Bool
  analog : List Byte
  cq : List Rat
  cw : List Rat
  deriving DecidableEq, Repr

/-- An ego-motion record (Table 8-1). -/
structure EgoRec where
  slot : Nat
  line : Int
  speed : Rat
  q : List Rat
  w : List Rat
  disp : List Rat
  flags : Nat
  epoch : Nat
  deriving DecidableEq, Repr

/-- Ego-motion (R211): attitude, velocity, displacement, line position, the line positions of past slots, the speed, rate
and acceleration held from the latest sample, the latest settled slot, the settled records not yet fused, the causal
record, the sources whose absence has been noticed, whether it runs, a Reference Reset waiting for the boundary. -/
structure Ego where
  q : List Rat
  v : List Rat
  p : List Rat
  sLine : Int
  lines : SMap Int
  speed : Rat
  w : List Rat
  a : List Rat
  settled : Option Nat
  records : SMap EgoRec
  last : Option EgoRec
  causal : Option EgoRec
  noted : List Nat
  resetPending : Bool
  deriving DecidableEq, Repr

/-- Identity attitude, zero displacement, zero line position (R210). -/
def Ego.init : Ego :=
  { q := [1, 0, 0, 0], v := [0, 0, 0], p := [0, 0, 0], sLine := 0, lines := [], speed := 0, w := [0, 0, 0], a := [0, 0, 0],
    settled := none, records := [], last := none, causal := none, noted := [], resetPending := false }

/-- An open dispute (R243, R244): its sensors, hypotheses and weights, the slot it opened in. -/
structure Dispute where
  a : Nat
  b : Nat
  xa : List Rat
  ca : List Rat
  xb : List Rat
  cb : List Rat
  wa : Rat
  wb : Rat
  opened : Nat
  deriving DecidableEq, Repr

/-- A track as its last change left it, from where it is predicted (R233): the slot, the line position there, state, covariance,
dispute. -/
structure TrackBase where
  k : Nat
  sAt : Int
  x : List Rat
  cov : List Rat
  dispute : Option Dispute
  deriving DecidableEq, Repr

/-- A track (R232): state and covariance as of slot `at_` with the line position there, and as of its last change; hits, last update
(as a slot and as a count of the slots outside D4 and D5, R241), birth, last object-level label, last sensor, dispute, the slots in
which sensors at D0 updated it (R266), its image half-extents by frame (R219), the flags of Table 9-4 of the present slot and whether
it has a record there. -/
structure Track where
  x : List Rat
  cov : List Rat
  at_ : Nat
  sAt : Int
  base : TrackBase
  confirmed : Bool
  hits : Nat
  last : Nat
  lastEff : Nat
  born : Nat
  cls : Nat
  conf : Nat
  sensor : Nat
  dispute : Option Dispute
  updatedBy : SMap Nat
  half : SMap Rat
  flags : Nat
  changed : Bool
  deriving DecidableEq, Repr

/-- A slot of the history (R227): its entry and the track entries. `frozen`: it was fused in D5. -/
structure HistSlot where
  k : Nat
  sLine : Int
  f3 : Rat
  epoch : Nat
  frozen : Bool
  entries : SMap (List Rat × List Rat)
  deriving DecidableEq, Repr

/-- A track's anchor (R227). -/
structure Anchor where
  k : Nat
  sLine : Int
  x : List Rat
  cov : List Rat
  deriving DecidableEq, Repr

/-- A sensor (R231, R245): its step, its innovation history, the slots h_s has stayed below NIS Limit / 2. -/
structure SensorStep where
  step : Nat
  h : Rat
  below : Nat
  deriving DecidableEq, Repr

/-- A sensor at D0 with h_s = 1. -/
def SensorStep.init : SensorStep := ⟨0, 1, 0⟩

/-- The conditions of the device step (Table 9-2) and the counts of slots that lead to them; `missing` by ego source, encoders 0 to 3
and inertial ports 4 and 5. -/
structure DevStep where
  missing : SMap Nat
  allMissing : Nat
  present : Nat
  coast : Nat
  deliver : Nat
  inD4 : Nat
  clear : Nat
  d3 : Bool
  d4 : Bool
  d5 : Bool
  deriving DecidableEq, Repr

/-- No condition holds. -/
def DevStep.init : DevStep := ⟨[], 0, 0, 0, 0, 0, 0, false, false, false⟩

/-- A window of a followed track in a port's image (R219). -/
structure FeedWindow where
  track : Nat
  u : Rat
  v : Rat
  half : Rat
  deriving DecidableEq, Repr

/-- Moments of the feed words in a window (R219), over half pixels. -/
structure Moments where
  n : Nat
  sx : Int
  sy : Int
  sxx : Int
  syy : Int
  sxy : Int
  deriving DecidableEq, Repr

/-- No event yet. -/
def Moments.init : Moments := ⟨0, 0, 0, 0, 0, 0⟩

/-- A fusion in progress: its slot, the snapshot it will issue, what the history takes. -/
structure Fused where
  k : Nat
  snapshot : List Byte
  entry : HistSlot
  deriving DecidableEq, Repr

/-- What the wait-limit loop counts over its period (R173): measurements, those late, the latest stream completion, whether
a slot closed by its deadline. -/
structure WaitLoop where
  total : Nat
  late : Nat
  latest : Int
  deadline : Bool
  deriving DecidableEq, Repr

/-- The Square. `open_` holds slots from opening to fusion in order; `held` the early records; `late` the late queue; `ids` the slot
in which an ID's track was deleted (R242); `carried` deletion records for later snapshots (R250); `cells` the windows by 4,096·port +
64·row + column; `moments` by (slot, track, port); `noise` the process noise and D3 factor of the last fusion and `mode` its step
where 4 or 5; `eff` counts the slots fused outside D4 and D5; `restores` holds Sensor Restore (24: Degradation Reset) with the slot it
arrived in; `marks` the watermarks of streams 8 to 25 (R216); `prevEgo` Encoder Scale and Gyro Bias of the previous epoch (R225);
`doomed` the tracks whose entry cannot be read, deleted at the end of the next fusion, `spoiled` and `spoiledAnchors` the slots of the
history and the anchors that cannot (R319); `detail` the copy of Track Detail of the latest slot boundary (R250). -/
structure Square where
  open_ : List OpenSlot
  top : Option Nat
  held : List (Nat × List Byte)
  late : List Meas
  filed : Nat
  fusing : Option Fused
  hist : List HistSlot
  anchors : SMap Anchor
  tracks : SMap Track
  ids : SMap Nat
  carried : List (List Byte)
  refresh : Nat
  followed : SMap Nat
  cells : SMap (List FeedWindow)
  moments : SMap Moments
  declared : SMap Nat
  ego : Ego
  sensors : SMap SensorStep
  dev : DevStep
  prevSets : List ProjSet
  prevEpoch : Option Nat
  slotEpoch : Nat
  firstRun : Bool
  noise : List Rat
  mode : Nat
  eff : Nat
  wait : WaitLoop
  restores : List (Nat × Nat)
  marks : SMap Nat
  prevEgo : List Rat × List Rat
  doomed : List Nat
  spoiled : List Nat
  spoiledAnchors : List Nat
  detail : SMap (List Byte)
  deriving DecidableEq, Repr

/-- The Square at power-up. -/
def Square.init : Square :=
  { open_ := [], top := none, held := [], late := [], filed := 0, fusing := none, hist := [], anchors := [], tracks := [],
    ids := [], carried := [], refresh := 0, followed := [], cells := [], moments := [], declared := [], ego := Ego.init,
    sensors := [], dev := DevStep.init, prevSets := [], prevEpoch := none, slotEpoch := 0, firstRun := false,
    noise := [0, 0, 0, 1], mode := 0, eff := 0, wait := ⟨0, 0, 0, false⟩, restores := [], marks := [], prevEgo := ([], []), doomed := [], spoiled := [], spoiledAnchors := [], detail := [] }

end Sys2Proof.Machine
end

