-- ==== Sys2Proof/Machine/SystemState.lean ====
section
/-! DEFINITION. The state of security (R399 to R418), of the flash memory (R344, R274), of the package loader (R419 to
R430) and of the recovery sequencer (R379 to R398), beside their objects. -/

namespace Sys2Proof.Machine

/-- A session of a master port (R408, R409): its role, the challenge it holds with its stamp, consecutive failures with the
stamp of the last one, and the instant of its last request. -/
structure Session where
  role : Nat
  challenge : Option (Nat × List Byte)
  failures : Nat
  failedAt : Nat
  lastRequest : Nat
  deriving DecidableEq, Repr

/-- No session. -/
def Session.init : Session := { role := 0, challenge := none, failures := 0, failedAt := 0, lastRequest := 0 }

/-- An entry of the audit log (Table 17-5). -/
structure AuditEntry where
  stamp : Nat
  kind : Nat
  port : Nat
  role : Nat
  index : Nat
  sub : Nat
  detail : List Byte
  deriving DecidableEq, Repr

/-- Which firmware image runs (R400). -/
inductive Running where
  | none
  | primary
  | fallback
  deriving DecidableEq, Repr

/-- Security: the two sessions; the audit log, newest entry first, and how many entries were written; the firmware image
slots, which one runs, whether the fallback slot holds an image to become primary, and the fused minimum version (R400, R401);
draws taken from the generator of R404. -/
structure Security where
  mailbox : Session
  canFd : Session
  audit : List AuditEntry
  audited : Nat
  primary : Option Firmware
  fallback : Option Firmware
  running : Running
  stored : Bool
  fusedMin : Nat
  draws : Nat
  deriving DecidableEq, Repr

/-- Security of a module fresh from the factory: the image that runs verifies (log entry 4). -/
def Security.init : Security :=
  { mailbox := Session.init, canFd := Session.init, audit := [], audited := 0, primary := some ⟨true, 0, 0⟩,
    fallback := some ⟨true, 0, 0⟩, running := .none, stored := false, fusedMin := 0, draws := 0 }

/-- What flash holds across a power cycle (R344, R274, R402, R416): the mirror of persistent objects, host-written values of
objects that loops write, the last write that the mirror lacks, the calibration image, the mark of R351, and the audit log's mirror. -/
structure Flash where
  nums : SMap Int
  doms : SMap (List Byte)
  hostNums : SMap Int
  hostDoms : SMap (List Byte)
  due : Option Nat
  calNums : SMap Int
  calDoms : SMap (List Byte)
  restore : Bool
  audit : List AuditEntry
  audited : Nat
  wraps : Nat
  deriving DecidableEq, Repr

/-- Flash with nothing mirrored. -/
def Flash.init : Flash :=
  { nums := [], doms := [], hostNums := [], hostDoms := [], due := none, calNums := [], calDoms := [], restore := false,
    audit := [], audited := 0, wraps := 0 }

/-- A built-in test that runs (R358): its kind and its tiles. -/
structure TestJob where
  kind : Nat
  tiles : List Nat
  deriving DecidableEq, Repr

/-- The packages (R421, R427, R430): the packages in the flash slots with the keys that verified them, slots being written, the load
in progress (slot, context), the full commit that waits for its boundary (context, target, R429), targets still to be unloaded with
their instants, port and role that asked for the load, the version each context last ran (R407), contexts that Autoload has still to
load and those it starts, the built-in test. -/
structure Loader where
  slots : SMap Package
  keys : SMap (List Byte)
  writing : List Nat
  load : Option (Nat × Nat)
  asked : Nat × Nat
  commit : Option (Nat × Nat)
  unloading : List (Nat × Nat)
  versions : SMap Nat
  autoload : List Nat
  starts : List Nat
  readyDue : Bool
  test : Option TestJob
  deriving DecidableEq, Repr

/-- The loader at power-up. -/
def Loader.init : Loader :=
  { slots := [], keys := [], writing := [], load := none, asked := (0, 0), commit := none, unloading := [], versions := [], autoload := [], starts := [], readyDue := false, test := none }

/-- Where the recovery sequencer stands (R383 to R397); `cycle`: every module rail is off. -/
inductive Phase where
  | none
  | fencing
  | ledger
  | reset
  | released
  | retraining
  | replaying
  | returning
  | cycle
  deriving DecidableEq, Repr

/-- A suspect in replay (R394, R395): its context, when it began, the ends of the range, the Replay Slice in ms it began with. -/
structure Replay where
  ctx : Nat
  started : Nat
  first : Nat
  last : Nat
  slice : Nat
  deriving DecidableEq, Repr

/-- A ledger in flash (R387). -/
structure FlashLedger where
  stamp : Nat
  cause : Nat
  bytes : List Byte
  deriving DecidableEq, Repr

/-- The sequencer and the tallies (R379, R380): tallies, those of the previous sample and stall times by unit, and the windows of the units
that stall (R352); the phase; of
the latest expiry its units, stamp, fence-done stamp, cause, the device state, context states, logical times and tallies then;
whether it ends in HALTED and whether its fence was incomplete; units not captured; suspects still to be replayed and the one
in replay; the instant of the last return to service; whether a ledger in DRAM awaits its
flash copy; the ledgers in flash; whether the supervisor's latch is set (R398); whether a reset lost the DRAM (R397);
`restart`: the reset is that of a RESTART; `since`: when the present phase began. -/
structure Recov where
  tally : SMap Nat
  prev : SMap Nat
  stall : SMap Nat
  windows : SMap Nat
  phase : Phase
  restart : Bool
  expired : List Nat
  expiryAt : Nat
  fenceAt : Nat
  cause : Nat
  prior : Nat
  ctxStates : List Nat
  logicals : List Nat
  tallies : List Nat
  halts : Bool
  incomplete : Bool
  missing : List Nat
  suspects : List Nat
  replay : Option Replay
  returned : Option Nat
  dramLedger : Bool
  ledgers : List FlashLedger
  latch : Bool
  lost : Bool
  since : Nat
  deriving DecidableEq, Repr

/-- The sequencer at power-up. -/
def Recov.init : Recov :=
  { tally := [], prev := [], stall := [], windows := [], phase := .none, restart := false, expired := [], expiryAt := 0, fenceAt := 0, cause := 0,
    prior := 0, ctxStates := [], logicals := [], tallies := [], halts := false, incomplete := false, missing := [],
    suspects := [], replay := none, returned := none, dramLedger := false, ledgers := [], latch := false, lost := false, since := 0 }

end Sys2Proof.Machine
end

