-- ==== Sys2Proof/Machine/State.lean ====
section
/-! DEFINITION. The state of the device as plain data, the reasons a command can stop, and the state at power-up. -/

namespace Sys2Proof.Machine

/-- Why the block stops with a fault: the spec gives every command an effect, so no command raises one. -/
inductive Fault where
  /-- Raised by no command: the spec reports every fault of the device in its status log (R353). Safe. -/
  | none
  deriving DecidableEq, Repr

/-- Why a command has no meaning. -/
inductive Refusal where
  /-- Raised by a command that is not modelled, under its mnemonic. Safe. -/
  | notModelled (mnemonic : String)
  deriving DecidableEq, Repr

/-- The device. `objs` and `doms` hold the objects of the dictionary by key, each at its default where none is listed
(R340); `heldNum` and `heldDom` hold the values still in force of objects whose write waits for a slot boundary (R333);
`mem` is the memory of the device address map (R108). -/
structure State where
  time : Nat
  lastBoundary : Nat
  freeCount : Nat
  pending : List Instr
  mem : List Host.Cell
  objs : SMap Int
  doms : SMap (List Byte)
  heldNum : SMap Int
  heldDom : SMap (List Byte)
  health : Health
  ctrl : Control
  power : Power
  disc : Discipline
  gate : Gate
  kerb : Kerb
  inputs : Inputs
  market : Market
  queues : Queues
  square : Square
  cal : Cal
  link : Link
  sec : Security
  flash : Flash
  loader : Loader
  recov : Recov
  deriving DecidableEq, Repr

/-- The device at the moment its input power becomes valid: device time 0 (R364), Device State BOOT (R326), everything
at the default its table states. -/
def State.reset : State :=
  { time := 0, lastBoundary := 0, freeCount := 0, pending := [], mem := [], objs := [], doms := [], heldNum := [],
    heldDom := [], health := Health.init, ctrl := Control.init, power := Power.init, disc := Discipline.init,
    gate := Gate.init, kerb := Kerb.init, inputs := Inputs.init, market := Market.init, queues := Queues.init,
    square := Square.init, cal := Cal.init, link := Link.init, sec := Security.init,
    flash := Flash.init, loader := Loader.init, recov := Recov.init }

end Sys2Proof.Machine
end

