-- ==== Sys2Proof/Machine/Ops.lean ====
section
/-! DEFINITION. The named operations over the state: device time, the objects of the dictionary, memory, free values. -/

namespace Sys2Proof.Machine

/-! ## Device time -/

/-- The state at the instant `t` of a command; device time never runs back (log entry 13). The local copies of R22 and the Lodge's shadow
count are this one count, with no difference from the master (log entry 85). -/
def State.advance (s : State) (t : Nat) : State := { s with time := max s.time t }

/-- The slot of a device time (R5). -/
def slotOf (t : Nat) : Nat := t / 1000

/-- The first slot boundary strictly later than `t` (R5). -/
def nextBoundary (t : Nat) : Nat := (t / 1000 + 1) * 1000

/-! ## Objects -/

/-- Base addresses that the tables call "set at boot", laid out in the order of Table 1-5 (log entry 3). -/
def bootBase (k : Nat) : Int :=
  if k = Ob.routeTableBase then 0x00000000
  else if k = Ob.ledgerBase then 0x23000000
  else if k = Ob.residualRingBase then 0x23800000
  else if k / 256 = 0x2230 then 0x24000000 + 0x40000 * ((k % 256 : Nat) - 1)
  else if k % 256 = 16 then 0x24800000 + 0x10000 * ((k / 256 - 0x2910 : Nat) : Int)
  else 0

/-- Base of the replay ring of a port (R59; log entry 3). -/
def replayBase (p : Nat) : Nat := 0x10000000 + 0xC00000 * p

/-- Bytes of a replay ring (R25). -/
def replaySize : Nat := 0xC00000

/-- Base of the time surface of a port (R25, R49; log entry 3). -/
def surfaceBase (p : Nat) : Nat := 0x13000000 + 0x4000000 * p

/-- Base of the DRAM that packages use (Table 1-5; log entry 3). -/
def modelBase : Nat := 0x47800000

/-- The end of DRAM (Table 4-6). -/
def dramEnd : Nat := 0x1C0000000

/-- The default of a numeric object: the Default column, the set-at-boot addresses, factory values (log entry 4), queue 8
of Table 12-5, the mappings of Table 14-2. -/
def dfltNum (k : Nat) : Int :=
  let idx := k / 256
  let sub := k % 256
  if idx = 0x2B18 ∧ sub = 1 then 65536
  else if idx = 0x2B18 ∧ sub = 2 then 1
  else if idx = 0x2900 ∧ sub = 10 ∨ idx = 0x2500 ∧ sub = 1 ∨ idx = 0x2C10 ∧ sub = 1 ∨ idx = 0x2230
      ∨ 0x2910 ≤ idx ∧ idx < 0x2914 ∧ sub = 16 then bootBase k
  else if idx = 0x1018 ∧ sub = 3 then Config.factory 6
  else if idx = 0x1018 ∧ sub = 4 then Config.factory 1
  else if 0x2A10 ≤ idx ∧ idx < 0x2A14 ∧ sub = 9 then (Config.factory (2 + (idx - 0x2A10)) % 2 ^ 48 : Nat)
  else if idx = 0x1600 ∧ sub = 1 then 0x20000208
  else if idx = 0x1600 ∧ sub = 0 then 1
  else if idx = 0x1A00 ∧ sub = 0 then 4
  else if idx = 0x1A00 ∧ sub = 1 then 0x20000108
  else if idx = 0x1A00 ∧ sub = 2 then 0x20030108
  else if idx = 0x1A00 ∧ sub = 3 then 0x20020120
  else if idx = 0x1A00 ∧ sub = 4 then 0x27200440
  else if idx = 0x1C00 ∧ 1 ≤ sub ∧ sub ≤ 4 then (sub : Nat)
  else if idx = 0x1C12 ∧ sub = 1 then 0x1600
  else if idx = 0x1C13 ∧ sub = 1 then 0x1A00
  else match objRow k with
    | some r => r.dflt
    | none => 0

/-- The value of a numeric object. -/
def State.num (s : State) (k : Nat) : Int :=
  match s.objs.find? k with
  | some v => v
  | none => dfltNum k

/-- The value of an unsigned object. -/
def State.nat (s : State) (k : Nat) : Nat := (s.num k).toNat

/-- Whether an object reads 1. -/
def State.on (s : State) (k : Nat) : Bool := s.num k = 1

/-- An object given a value. -/
def State.setNum (s : State) (k : Nat) (v : Int) : State := { s with objs := s.objs.set k v }

/-- An unsigned object given a value. -/
def State.setNat (s : State) (k v : Nat) : State := s.setNum k (v : Nat)

/-- A counter of `w` bits raised by `n`, modulo 2^w (log entry 17). -/
def State.count (s : State) (w k n : Nat) : State := s.setNat k ((s.nat k + n) % 2 ^ w)

/-- Several objects given values. -/
def State.setAll (s : State) (l : List (Nat × Int)) : State := l.foldl (fun s e => s.setNum e.1 e.2) s

/-- The bytes of a REAL32 list given by its encodings. -/
def realBytes (l : List Nat) : List Byte := l.flatMap (leBytes 4)

/-- The defaults of DOMAIN objects that are not all zero (Default columns of Tables 8-6, 9-6, 10-4, 11-8, 14-5, 14-7;
log entry 5 for keys). -/
def dfltDomList (k : Nat) : List Byte :=
  let idx := k / 256
  let sub := k % 256
  if 0x2700 ≤ idx ∧ idx < 0x2710 then
    if sub = 2 then realBytes [0x447A0000, 0x447A0000, 0x44800000, 0x44800000]
    else if sub = 4 then realBytes [0x3F800000, 0, 0, 0, 0, 0x3F800000, 0, 0, 0, 0, 0x3F800000, 0]
    else if sub = 5 then realBytes [0, 0, 0x3F800000, 0]
    else []
  else if idx = 0x2710 then
    if sub = 3 then realBytes [0x358637BD, 0x358637BD, 0x358637BD, 0x358637BD]
    else if sub = 5 then realBytes [0x3F800000, 0, 0, 0, 0x3F800000, 0, 0, 0, 0x3F800000]
    else if sub = 7 then realBytes [0, 0, 0x411CE80A]
    else []
  else if idx = 0x2800 then
    if sub = 1 then realBytes [0x3F800000, 0x38D1B717, 0x41200000]
    else if sub = 8 then
      realBytes [0x358637BD, 0x358637BD, 0x3F800000, 0x3F800000, 0x358637BD, 0x358637BD, 0x3C23D70A, 0x3F800000]
    else if sub = 11 then realBytes [0x3F800000, 0, 0]
    else []
  else if 0x2930 ≤ idx ∧ idx < 0x2940 then
    if sub = 3 then realBytes [0x3A83126F, 0x3A83126F]
    else if sub = 4 then realBytes [0x3C23D70A, 0x3C23D70A]
    else []
  else if idx = 0x2F00 ∧ sub = 9 then (List.replicate 8 [(0xFF : Byte), 0]).flatten
  else if idx = 0x2D04 then leBytes 8 0 ++ leBytes 8 dramEnd ++ leBytes 2 0x1FFF ++ leBytes 2 0x0FFF ++ [1]
  else []

/-- A byte of a DOMAIN that holds its default. The street maps read 0x003F in every entry, port filters are open. -/
def dfltDomByte (k i : Nat) : Byte :=
  if k = Ob.streetRegionMap ∨ k = Ob.localMap then (if i % 2 = 0 then 0x3F else 0)
  else if 0x2D0201 ≤ k ∧ k ≤ 0x2D0204 ∧ i < 32 then BitVec.ofNat 8 (Config.factoryKey (k % 256) i)
  else if k = Ob.packageKeys ∧ i < 97 then BitVec.ofNat 8 (Config.factoryKey 0 i)
  else (dfltDomList k).getD i 0

/-- A byte of a DOMAIN object. -/
def State.domByte (s : State) (k i : Nat) : Byte :=
  match s.doms.find? k with
  | some bs => bs.getD i 0
  | none => dfltDomByte k i

/-- Bytes `[off, off + n)` of a DOMAIN object. -/
def State.domBytes (s : State) (k off n : Nat) : List Byte := (List.range n).map (fun i => s.domByte k (off + i))

/-- The little-endian number in bytes `[off, off + n)` of a DOMAIN object. -/
def State.domNat (s : State) (k off n : Nat) : Nat := ofLeBytes (s.domBytes k off n)

/-- A DOMAIN object given its bytes. -/
def State.setDom (s : State) (k : Nat) (bs : List Byte) : State := { s with doms := s.doms.set k bs }

/-- The value in force of an object whose write waits for a slot boundary (R333). -/
def State.forceNum (s : State) (k : Nat) : Int :=
  match s.heldNum.find? k with
  | some v => v
  | none => s.num k

/-- The unsigned value in force. -/
def State.forceNat (s : State) (k : Nat) : Nat := (s.forceNum k).toNat

/-- A byte in force of a DOMAIN whose write waits for a slot boundary. -/
def State.forceByte (s : State) (k i : Nat) : Byte :=
  match s.heldDom.find? k with
  | some bs => bs.getD i 0
  | none => s.domByte k i

/-- The little-endian number in force in bytes `[off, off + n)` of such a DOMAIN. -/
def State.forceDomNat (s : State) (k off n : Nat) : Nat :=
  ofLeBytes ((List.range n).map (fun i => s.forceByte k (off + i)))

/-- A write that a read returns at once and that takes effect at the next slot boundary (R333). -/
def State.deferNum (s : State) (k : Nat) (v : Int) : State :=
  { s with heldNum := if (s.heldNum.find? k).isSome then s.heldNum else s.heldNum.set k (s.num k),
           objs := s.objs.set k v }

/-- Such a write of a DOMAIN of `n` bytes. -/
def State.deferDom (s : State) (k n : Nat) (bs : List Byte) : State :=
  { s with heldDom := if (s.heldDom.find? k).isSome then s.heldDom else s.heldDom.set k (s.domBytes k 0 n),
           doms := s.doms.set k bs }

/-! ## Free values -/

/-- A fresh free value (log entry 2). -/
def State.free (s : State) : Nat := Config.freeValue s.freeCount

/-- The state after `n` free values were taken. -/
def State.drew (s : State) (n : Nat) : State := { s with freeCount := s.freeCount + n }

/-! ## Memory -/

namespace Memory

/-- The byte at an address; memory that nothing has written reads 0 (log entry 1). -/
def read : List Host.Cell → Nat → Byte
  | [], _ => 0
  | (a, b) :: m, x => if a = x then b else if x < a then 0 else read m x

/-- Memory with a byte written; the canonical form is kept. -/
def write : List Host.Cell → Nat → Byte → List Host.Cell
  | [], x, v => if v = 0 then [] else [(x, v)]
  | (a, b) :: m, x, v =>
    if a = x then (if v = 0 then m else (a, v) :: m)
    else if x < a then (if v = 0 then (a, b) :: m else (x, v) :: (a, b) :: m)
    else (a, b) :: write m x v

/-- Memory with bytes written from an address on. -/
def writeBytes : List Host.Cell → Nat → List Byte → List Host.Cell
  | m, _, [] => m
  | m, x, v :: vs => writeBytes (write m x v) (x + 1) vs

/-- Bytes `[x, x + n)`. -/
def readBytes (m : List Host.Cell) (x n : Nat) : List Byte := (List.range n).map (fun i => read m (x + i))

/-- The little-endian number in bytes `[x, x + n)` (R8). -/
def readNat (m : List Host.Cell) (x n : Nat) : Nat := ofLeBytes (readBytes m x n)

/-- Memory whose bytes from `lo` up to `hi` have been changed by `f`, which keeps 0 at 0. -/
def mapRange (m : List Host.Cell) (lo hi : Nat) (f : Nat → Byte → Byte) : List Host.Cell :=
  m.filterMap (fun c =>
    if lo ≤ c.1 ∧ c.1 < hi then (if f c.1 c.2 = 0 then none else some (c.1, f c.1 c.2)) else some c)

/-- Addresses strictly rising from `lo` on and no byte equal to what an unlisted address reads as. -/
def wfFrom : Nat → List Host.Cell → Bool
  | _, [] => true
  | lo, (a, b) :: m => decide (lo ≤ a) && decide (b ≠ 0) && wfFrom (a + 1) m

/-- The canonical form of memory. -/
def wf (m : List Host.Cell) : Bool := wfFrom 0 m

/-- Bytes written from an offset on into a ring of `size` bytes at `base`. -/
def writeRing : List Host.Cell → Nat → Nat → Nat → List Byte → List Host.Cell
  | m, _, _, _, [] => m
  | m, base, size, off, v :: vs => writeRing (write m (base + off % size) v) base size (off + 1) vs

/-- The cells that hold the bytes of a list laid out from `x` on. -/
def cells : Nat → List Byte → List Host.Cell
  | _, [] => []
  | x, v :: vs => if v = 0 then cells (x + 1) vs else (x, v) :: cells (x + 1) vs

/-- Memory with bytes written from `x` on, in one pass. -/
def splice (m : List Host.Cell) (x : Nat) (bs : List Byte) : List Host.Cell :=
  m.filter (fun c => decide (c.1 < x)) ++ cells x bs ++ m.filter (fun c => decide (x + bs.length ≤ c.1))

/-- `n` bytes from `x` on of cells none of which lies below `x`. -/
def fill : Nat → Nat → List Host.Cell → List Byte
  | 0, _, _ => []
  | n + 1, x, m => match m with
    | [] => 0 :: fill n (x + 1) []
    | (a, b) :: rest => if a = x then b :: fill n (x + 1) rest else 0 :: fill n (x + 1) ((a, b) :: rest)

/-- Bytes `[x, x + n)`, read in one pass. -/
def slice (m : List Host.Cell) (x n : Nat) : List Byte := fill n x (m.filter (fun c => decide (x ≤ c.1)))

end Memory

/-- The state with bytes stored. -/
def State.store (s : State) (a : Nat) (bs : List Byte) : State := { s with mem := Memory.writeBytes s.mem a bs }

/-- What a device address names (Table 4-6). -/
inductive Target where
  | dram
  | scratch (tile : Nat)
  | reserved
  deriving DecidableEq, Repr

/-- The target of a device address (Table 4-6, R108). -/
def targetOf (a : Nat) : Target :=
  if a < 0x1C0000000 then .dram
  else if a < 0x100000000000 then .reserved
  else if a < 0x100004000000 then .scratch ((a - 0x100000000000) / 0x100000)
  else .reserved

/-- The device address of a scratchpad byte of a tile; local addresses use bits [19:0] (R108). -/
def scratchAddr (t a : Nat) : Nat := 0x100000000000 + 0x100000 * t + a % 0x100000

/-! ## Device state -/

/-- Device State (Table 0-5, R326): 1 BOOT, 2 STANDBY, 3 READY, 4 RUN, 5 FENCED, 6 RECOVERING, 7 HALTED. -/
def State.dev (s : State) : Nat := s.nat Ob.deviceState

/-- Whether the die is up (R338). -/
def State.dieUp (s : State) : Bool := s.on Ob.dieUp

/-- Whether the subsystems stand fenced (R382, R383): FENCED, or HALTED with the die down. -/
def State.fenced (s : State) : Bool := s.dev = 5 || (s.dev = 7 && !s.dieUp)

/-- Whether outputs may drive: in RUN, and no leaving transition has taken effect (R65, R327). -/
def State.driving (s : State) : Bool :=
  s.dev = 4 && (match s.ctrl.transition with
    | some tr => !tr.effective
    | none => true)

/-- Whether the Kerb path evaluates its rules: STANDBY, READY or RUN (R65). -/
def State.evaluating (s : State) : Bool := s.dev = 2 || s.dev = 3 || s.dev = 4

/-- A port of the Gate changed. -/
def State.modPort (s : State) (p : Nat) (f : SensorPort → SensorPort) : State :=
  { s with gate := { s.gate with ports := s.gate.ports.upd SensorPort.init p f } }

/-- A port of the Gate. -/
def State.port (s : State) (p : Nat) : SensorPort := s.gate.port p

/-- A tile changed. -/
def State.modTile (s : State) (t : Nat) (f : Tile → Tile) : State :=
  { s with market := { s.market with tiles := s.market.tiles.upd Tile.init t f } }

/-- A tile. -/
def State.tile (s : State) (t : Nat) : Tile := s.market.tile t

/-- A context changed. -/
def State.modCtx (s : State) (n : Nat) (f : Context → Context) : State :=
  { s with market := { s.market with ctxs := s.market.ctxs.upd Context.init n f } }

/-- A context. -/
def State.ctx (s : State) (n : Nat) : Context := s.market.ctx n

/-- Context State (Table 4-8): 0 EMPTY, 1 LOADED, 2 RUNNING, 3 PAUSED, 4 QUARANTINED. -/
def State.ctxState (s : State) (n : Nat) : Nat := s.nat (Ob.contextState n)

/-- `n` progress events of a unit of Table 16-1: tiles are units 0 to 63, the Square 64, the Gate 65, link ports 66 to 69 (R379). -/
def State.progress (s : State) (u : Nat) (n : Nat := 1) : State :=
  { s with recov := { s.recov with tally := s.recov.tally.upd 0 u (fun k => (k + n) % 2 ^ 64) } }

/-- The watermark of a stream of the Arcade raised; one below the current one is ignored (R216). -/
def State.raiseWatermark (s : State) (i w : Nat) : State :=
  { s with square := { s.square with marks := s.square.marks.upd 0 i (max w) } }

/-- A command's next state. -/
abbrev ok (s : State) : Host.Outcome State Fault Refusal := .next s

end Sys2Proof.Machine
end

