-- ==== Sys2Proof/Machine/Flags.lean ====
section
/-! DEFINITION. Notices and faults (R6, R353, R349), the Error Register (R348) and other conditions the dictionary shows. -/

namespace Sys2Proof.Machine

/-- The codes whose kind is fault (Tables 2-15, 4-11, 6-5, 7-10, 9-7, 10-5, 11-9, 12-6, 14-10 to 14-12). -/
def faultCodes : List Nat :=
  [0x0104, 0x0302, 0x0304, 0x0305, 0x0307, 0x0308, 0x0404, 0x0504, 0x0704, 0x0705, 0x0806, 0x0902, 0x0903, 0x0A08]
    ++ [0x0B01, 0x0B02, 0x0B03, 0x0B04, 0x0B05, 0x0B06, 0x0B08, 0x0C01, 0x0C06, 0x0D01, 0x0D02, 0x0D04, 0x0D06, 0x0D08]

/-- Whether a code is a fault. -/
def isFault (code : Nat) : Bool := faultCodes.contains code

/-- The newest entry with a code and unit counted once more, when its first occurrence lies less than 1 s before `t`
(R353); nothing where there is no such entry. -/
def mergeLog (t code unit_ : Nat) : List LogEntry → Option (List LogEntry)
  | [] => none
  | e :: es =>
    if e.code = code ∧ e.unit_ = unit_ then
      if t < e.stamp + 1000000000 then some ({ e with count := satNat (2 ^ 32 - 1) (e.count + 1) } :: es) else none
    else (mergeLog t code unit_ es).map (e :: ·)

/-- The log after an occurrence (R353). -/
def logAfter (t code unit_ : Nat) (log : List LogEntry) : List LogEntry :=
  match mergeLog t code unit_ log with
  | some l => l
  | none => (⟨t, code, isFault code, unit_, 1⟩ :: log).take 256

/-- The number of the newest entry of the ring after an occurrence; the first entry of an empty ring is entry 0
(log entry 18). -/
def newestAfter (t code unit_ : Nat) (log : List LogEntry) (newest : Nat) : Nat :=
  match mergeLog t code unit_ log with
  | some _ => newest
  | none => if log = [] then 0 else (newest + 1) % 256

/-- Input Voltage outside 18 V to 32 V (R348, R367). -/
def outsideInput (mv : Int) : Bool := decide (mv < 18000) || decide (32000 < mv)

/-- Error Register (R348). -/
def errorRegister (s : State) : Nat :=
  let lost := (List.range 4).any (fun p => s.nat (Ob.portState p) = 3)
  let down := (List.range 4).any (fun p => s.on (Ob.linkPortEnable p) && decide (s.nat (Ob.linkPortState p) = 3))
  bnat (decide (0 < s.nat Ob.faultsPending)) + 4 * bnat (outsideInput (s.num Ob.inputVoltage))
    + 8 * bnat (s.on Ob.throttleState) + 16 * bnat (lost || down) + 128 * bnat (decide (1 ≤ s.nat Ob.deviceStep))

/-- A notice or fault raised: logged under R353 and counted; a fault also enters the Standard Error Field and is sent as
an EMCY message (R349). -/
def State.raise (s : State) (code unit_ : Nat) : State :=
  let log' := logAfter s.time code unit_ s.health.log
  let s1 := s.setNat Ob.statusLogNewest (newestAfter s.time code unit_ s.health.log (s.nat Ob.statusLogNewest))
  if isFault code then
    let s2 := (s1.count 64 Ob.faultCount 1).setNat Ob.faultsPending (satNat 65535 (s.nat Ob.faultsPending + 1))
    { s2 with health := { s.health with log := log', stdErrors := ((code * 65536 + 0xFF00) :: s.health.stdErrors).take 16, emcy := some (errorRegister s2, code) } }
  else
    { s1.count 64 Ob.noticeCount 1 with health := { s.health with log := log' } }

/-- A code raised when a condition holds. -/
def State.raiseIf (s : State) (c : Bool) (code unit_ : Nat) : State := if c then s.raise code unit_ else s

/-- A notice raised at most once per second (codes 0x0A04 and 0x0A06 of Table 12-6). -/
def State.raiseSlow (s : State) (code unit_ : Nat) : State :=
  match s.health.lastNotice.find? code with
  | some t => if s.time < t + 1000000000 then s else
      { s.raise code unit_ with health := { (s.raise code unit_).health with lastNotice := s.health.lastNotice.set code s.time } }
  | none => { s.raise code unit_ with health := { (s.raise code unit_).health with lastNotice := s.health.lastNotice.set code s.time } }

/-- No unit: the unit field of codes that name none (Table 14-3). -/
def noUnit : Nat := 0xFF

end Sys2Proof.Machine
end

