-- ==== Sys2Proof/Machine/Kerb.lean ====
section
/-! DEFINITION. The Kerb path (R61 to R69): counters, rules, outputs, the edge record. -/

namespace Sys2Proof.Machine

/-! ## The edge record -/

/-- An edge placed by its stamp, behind those of the same stamp (R23, R69). -/
def insertEdge (e : Edge) : List Edge → List Edge
  | [] => [e]
  | f :: fs => if e.stamp < f.stamp then e :: f :: fs else f :: insertEdge e fs

/-- An edge recorded; a full ring loses its oldest entry, counted and reported (R69). -/
def State.recordEdge (s : State) (e : Edge) : State :=
  if s.kerb.edges.length < 1024 then { s with kerb := { s.kerb with edges := insertEdge e s.kerb.edges } }
  else
    let s1 := { s with kerb := { s.kerb with edges := insertEdge e (s.kerb.edges.drop 1) } }
    (s1.count 32 Ob.overwrittenCount 1).raise 0x0202 noUnit

/-- The bytes of an entry (Table 2-16). -/
def edgeBytes (e : Edge) : List Byte :=
  let kind := match e.source with
    | .rule _ => 0
    | .tile _ => 1
    | .remote _ => 2
  let number := match e.source with
    | .rule n => n
    | .tile t => t
    | .remote a => a
  let ek := match e.kind with
    | .rise => 0
    | .fall => 1
    | .pulse => 2
  leBytes 16 (put 64 64 e.stamp + put 62 2 kind + put 44 18 number + put 41 3 e.out + put 39 2 ek
    + put 38 1 (bnat e.suppressed) + put 37 1 (bnat e.inhibited) + put 36 1 (bnat e.crcFailed))

/-! ## Rules -/

/-- Rule `n`. -/
def State.rule (s : State) (n : Nat) : KerbRule := s.kerb.rules.get KerbRule.init n

/-- Rule `n` changed. -/
def State.setRule (s : State) (n : Nat) (r : KerbRule) : State :=
  { s with kerb := { s.kerb with rules := s.kerb.rules.set n r } }

/-- Whether a firing of now is suppressed: outside RUN nothing drives (R65, R330). -/
def State.suppressing (s : State) : Bool := !s.driving

/-- A rule whose drive ends at `from4`, in quarters of a nanosecond: its Inhibit of `cycles` INTAKE cycles starts (R64). -/
def KerbRule.beginInhibit (r : KerbRule) (from4 cycles : Nat) : KerbRule :=
  if cycles = 0 then r else { r with inhibit := true, inhibitEnd := from4 + 5 * cycles }

/-- Rule `n` becomes active (R64, R69). `open_` names the port whose packet fires it before its CRC check. -/
def State.fireRule (s : State) (n stamp : Nat) (open_ : Option Nat) : State :=
  let r := s.rule n
  let mode := s.nat (Ob.ruleMode n)
  let drives := s.driving && !r.inhibit
  let r' : KerbRule :=
    { r with active := true, inhibited := r.inhibit, suppressed := s.suppressing,
             pulse := r.pulse || (drives && decide (mode = 1)),
             pulseEnd := if drives && decide (mode = 1) then 4 * s.time + 5 * s.nat (Ob.pulseWidth n) else r.pulseEnd,
             latch := r.latch || (drives && decide (mode = 2)) }
  (s.setRule n r').recordEdge
    { stamp := stamp, source := .rule n, out := s.nat (Ob.ruleOutput n), kind := if mode = 1 then .pulse else .rise,
      suppressed := s.suppressing, inhibited := r.inhibit, crcFailed := false, open_ := open_ }

/-- Rule `n` becomes inactive (R64, R69). A LEVEL release that ends a drive starts Inhibit. A release is recorded with the flags
of its firing, and with the suppressed flag where it falls outside RUN (R65). -/
def State.releaseRule (s : State) (n stamp : Nat) : State :=
  let r := s.rule n
  let level := decide (s.nat (Ob.ruleMode n) = 0)
  let r0 : KerbRule := { r with active := false, inhibited := false, suppressed := false }
  let r' := if level && s.driving && !r.inhibited then r0.beginInhibit (4 * s.time) (s.nat (Ob.inhibit n)) else r0
  let s1 := s.setRule n r'
  if level || r.inhibited || r.suppressed then
    s1.recordEdge
      { stamp := stamp, source := .rule n, out := s.nat (Ob.ruleOutput n), kind := .fall,
        suppressed := r.suppressed || s.suppressing, inhibited := r.inhibited, crcFailed := false, open_ := none }
  else s1

/-- Whether the Arm field lets rule `n` act (R64). -/
def State.armed (s : State) (n : Nat) : Bool :=
  let a := s.nat (Ob.arm n)
  if a = 0 then true
  else if a ≤ 4 then s.on (Ob.triggerLevel (a - 1))
  else !s.on (Ob.triggerLevel (a - 5))

/-- Whether the source of rule `n` calls for activity: `up` from inactive, otherwise whether it stays active (R63, R86). -/
def State.ruleHolds (s : State) (n : Nat) (up : Bool) : Bool :=
  let src := s.nat (Ob.ruleSource n)
  let onL := s.nat (Ob.onLevel n)
  let offL := s.nat (Ob.offLevel n)
  if src < 64 then
    let v := s.kerb.counters.get 0 src
    if up then decide (onL ≤ v) else decide (offL ≤ v)
  else
    let code : Int := s.num (Ob.coarseCode (src - 64))
    let c : Int := (onL % 8 : Nat)
    let h : Int := offL
    if onL / 8 % 2 = 0 then (if up then decide (c ≤ code) else decide (c - h ≤ code))
    else (if up then decide (code ≤ c) else decide (code ≤ c + h))

/-- Rule `n` evaluated at a moment of stamp `stamp` (R63). A rule that verifies fires only at a CRC check that passes
(`verified`, R68); an analog rule never verifies. -/
def State.evalRule (s : State) (n stamp : Nat) (open_ : Option Nat) (verified : Bool) : State :=
  if !(s.on (Ob.ruleEnable n) && s.evaluating) then s
  else if !s.armed n then (if (s.rule n).active then s.releaseRule n stamp else s)
  else if (s.rule n).active then (if s.ruleHolds n false then s else s.releaseRule n stamp)
  else
    let verify := s.on (Ob.verify n) && decide (s.nat (Ob.ruleSource n) < 64)
    if s.ruleHolds n true && (!verify || verified) then s.fireRule n stamp open_ else s

/-- The rules of a list evaluated in turn. -/
def State.evalRules (s : State) (ns : List Nat) (stamp : Nat) (open_ : Option Nat) (verified : Bool) : State :=
  ns.foldl (fun s n => s.evalRule n stamp open_ verified) s

/-- The 32 rules. -/
def ruleNumbers : List Nat := List.range 32

/-- The rules whose source passes a test. -/
def State.rulesOf (s : State) (f : Nat → Bool) : List Nat := ruleNumbers.filter (fun n => f (s.nat (Ob.ruleSource n)))

/-! ## Regions and counters -/

/-- The region ID of a pixel of port `p`, by the configuration in force (R61). -/
def State.regionOf (s : State) (p x y : Nat) : Nat :=
  let sh := s.forceNat (Ob.regionCellShift p)
  let org := s.forceNat (Ob.regionOrigin p)
  let ox := field org 0 12
  let oy := field org 16 12
  if x < ox ∨ y < oy then 0
  else
    let cx := (x - ox) / 2 ^ sh
    let cy := (y - oy) / 2 ^ sh
    if 127 < cx ∨ 127 < cy then 0
    else
      let b := (s.forceByte (Ob.regionMap p) (64 * cy + cx / 2)).toNat
      if cx % 2 = 0 then b % 16 else b / 16

/-- Weight of a counter for a polarity, in force (R62). -/
def State.counterWeight (s : State) (c pol : Nat) : Nat :=
  (s.forceByte Ob.counterSet (8 * c + (if pol = 1 then 0 else 1))).toNat

/-- Decay shift of a counter, in force; 0 marks an unused counter (R62). -/
def State.counterShift (s : State) (c : Nat) : Nat := (s.forceByte Ob.counterSet (8 * c + 2)).toNat

/-- A counter given a value. -/
def State.setCounter (s : State) (c v : Nat) : State :=
  { s with kerb := { s.kerb with counters := s.kerb.counters.set c v } }

/-- An event of a port at the Kerb path: its region's counter grows and the counter's rules are evaluated (R62, R63). -/
def State.kerbEvent (s : State) (p x y pol stamp : Nat) : State :=
  let g := s.regionOf p x y
  if g = 0 ∨ ¬ s.evaluating then s
  else
    let c := 15 * p + (g - 1)
    let v := s.kerb.counters.get 0 c
    let v' := satNat 1048575 (v + s.counterWeight c pol)
    if v' = v then s
    else
      let s1 := s.setCounter c v'
      s1.evalRules (s1.rulesOf (· == c)) stamp (some p) false

/-- The CRC check of a port's packet: its edges are closed, flagged where it failed; where it passed, verifying rules of
the port's counters are evaluated (R68). -/
def State.kerbCrc (s : State) (p stamp : Nat) (passed : Bool) : State :=
  let hit := s.kerb.edges.any (fun e => e.open_ == some p)
  let mark := fun (e : Edge) => if e.open_ = some p then { e with open_ := none, crcFailed := !passed } else e
  let s1 := { s with kerb := { s.kerb with edges := s.kerb.edges.map mark } }
  if passed then
    let ns := (s1.rulesOf (fun c => decide (15 * p ≤ c ∧ c < 15 * p + 15))).filter (fun n => s1.on (Ob.verify n))
    s1.evalRules ns stamp none true
  else s1.raiseIf hit 0x0201 p

/-! ## Posts and outputs -/

/-- A level or pulse post of a tile or another module (R17, R293): `pulse` for a width above 0, else `level`, recorded when it
changes the level of its source (R69). Outside RUN it drives nothing and is recorded with the suppressed flag (R65, R330); a
level posted there ends on entry into RUN. `width` is in 100 ns; a pulse of a source that still runs on the output ends no earlier
for a later one (R17). -/
def State.kerbPost (s : State) (src : EdgeSource) (k stamp width : Nat) (level : Bool) : State :=
  let post : KerbPost := ⟨src, k⟩
  let entry := fun (kind : EdgeKind) =>
    ({ stamp := stamp, source := src, out := k, kind := kind, suppressed := s.suppressing, inhibited := false,
       crcFailed := false, open_ := none } : Edge)
  let kind : EdgeKind := if level then .rise else .fall
  if !s.evaluating then s
  else if 0 < width then
    if !s.driving then s.recordEdge (entry .pulse)
    else
      let old := (s.kerb.pulses.filter (fun q => q.post == post)).map (·.until_)
      let p : KerbPulse := ⟨post, old.foldl max (s.time + 100 * width)⟩
      { s with kerb := { s.kerb with pulses := p :: s.kerb.pulses.filter (fun q => q.post != post) } }.recordEdge (entry .pulse)
  else if s.kerb.levels.contains post = level then s
  else
    let ls := if level then post :: s.kerb.levels else s.kerb.levels.filter (· != post)
    { s with kerb := { s.kerb with levels := ls } }.recordEdge (entry kind)

/-- The logical drive of output `k` before Output Polarity (R17, R64); 0 while the output is held at its Safe Level. -/
def State.outputDrive (s : State) (k : Nat) : Bool :=
  s.driving &&
    (ruleNumbers.any (fun n =>
        decide (s.nat (Ob.ruleOutput n) = k) &&
          (((s.rule n).active && !(s.rule n).inhibited && decide (s.nat (Ob.ruleMode n) = 0))
            || (s.rule n).pulse || (s.rule n).latch))
      || s.kerb.levels.any (fun l => l.out == k) || s.kerb.pulses.any (fun l => l.post.out == k))

/-- The level of output `k` at its connector (R65, R440); none while the driver is off. -/
def State.outputLevel (s : State) (k : Nat) : Option Bool :=
  if s.kerb.offDrivers then none
  else if s.driving then some (s.outputDrive k != s.on (Ob.outputPolarity k))
  else if s.nat (Ob.safeLevel k) = 2 then none
  else some (s.on (Ob.safeLevel k))

/-- Every pulse, latch and posted level ends as the device leaves RUN (R65); a pulse that ends so starts its rule's
Inhibit. -/
def State.endDrives (s : State) : State :=
  let f := fun (n : Nat) (r : KerbRule) =>
    let r0 := { r with pulse := false, latch := false }
    if r.pulse then r0.beginInhibit (4 * s.time) (s.nat (Ob.inhibit n)) else r0
  { s with kerb := { s.kerb with rules := s.kerb.rules.mapVal f, levels := [], pulses := [] } }

/-- The levels of one tile end (R17: the tile's context leaves RUNNING). -/
def State.endTileLevels (s : State) (inPart : Nat → Bool) : State :=
  let keep := fun (l : KerbPost) => match l.source with
    | .tile t => !inPart t
    | _ => true
  { s with kerb := { s.kerb with levels := s.kerb.levels.filter keep } }

/-- Rules of the ports whose staged configuration swaps in at a boundary are evaluated there (R62). -/
def State.kerbSwap (s : State) (changed : List Nat) (stamp : Nat) : State :=
  let portOf := fun (k : Nat) => if k = Ob.counterSet then List.range 4
    else if k / 256 = 0x2300 ∨ k / 256 = 0x2301 ∨ k / 256 = 0x2302 then [k % 256 - 1] else []
  let ports := changed.flatMap portOf
  if ports = [] then s
  else s.evalRules (s.rulesOf (fun c => decide (c < 60) && ports.contains (c / 15))) stamp none false

/-! ## Commands -/

/-- KERB_DECAY_TICK: a counter in use loses its value shifted right by its decay shift, and its rules are evaluated
(R62, R63); counters hold outside STANDBY, READY and RUN (R65). -/
def execKerbDecayTick (t : Nat) (c : Fin 60) (s0 : State) : Host.Outcome State Fault Refusal :=
  let s := s0.advance t
  if !s.evaluating ∨ s.counterShift c = 0 then ok s
  else
    let v := s.kerb.counters.get 0 c
    let s1 := s.setCounter c (v - v / 2 ^ s.counterShift c)
    ok (s1.evalRules (s1.rulesOf (· == c.val)) s.time none false)

/-- The coarse code of the last four quantiser outputs, newest first (R85). -/
def coarseOf (q : List Nat) : Nat := satNat 7 ((sumNat (q.take 4) + 2) / 4)

/-- Whether the present output period of a channel measures its offset: one period in every 64, at QUIET or STILL in normal mode
(R269; the 64th after the chain's start, log entry 84). -/
def State.measuringOffset (s : State) (n : Nat) : Bool :=
  s.on (Ob.offsetCalEnable n) && decide (2 ≤ s.nat (Ob.preset n)) && decide (s.nat (Ob.filterMode n) = 0)
    && decide ((s.inputs.chans.get AnalogChan.init n).periods % 64 = 63)

/-- COARSE_CODE: a quantiser output gives the channel's coarse code (R85), and the channel's rules are evaluated (R63, R86); while the
offset is measured the code holds (R269). -/
def execCoarseCode (t : Nat) (n : Fin 8) (q : BitVec 3) (s0 : State) : Host.Outcome State Fault Refusal :=
  let s := s0.advance t
  let ch := s.inputs.chans.get AnalogChan.init n
  if !(s.on (Ob.channelEnable n) && s.evaluating) ∨ s.measuringOffset n then ok s
  else
    let quant := (q.toNat :: ch.quant).take 4
    let code := coarseOf quant
    let s1 := { s with inputs := { s.inputs with chans := s.inputs.chans.set n { ch with quant := quant } } }
    let s2 := s1.setNat (Ob.coarseCode n) code
    ok (s2.evalRules (s2.rulesOf (· == 64 + n.val)) s.time none false)

/-- The pulses of a post that have run out taken away (R17). -/
def State.dropPulses (s : State) (post : KerbPost) : State :=
  { s with kerb := { s.kerb with pulses := s.kerb.pulses.filter (fun q => q.post != post || decide (s.time < q.until_)) } }

/-- KERB_PULSE_END: a pulse whose width has passed runs out; a rule's pulse that ends starts its Inhibit (R17, R64). -/
def execKerbPulseEnd (t : Nat) (src : PulseSource) (s0 : State) : Host.Outcome State Fault Refusal :=
  let s := s0.advance t
  match src with
  | .rule n =>
    let r := s.rule n
    if r.pulse ∧ r.pulseEnd ≤ 4 * s.time then
      ok (s.setRule n (KerbRule.beginInhibit { r with pulse := false } r.pulseEnd (s.nat (Ob.inhibit n))))
    else ok s
  | .tile tl k => ok (s.dropPulses ⟨.tile tl, k⟩)
  | .remote a k => ok (s.dropPulses ⟨.remote a.toNat, k⟩)

/-- KERB_INHIBIT_END: the Inhibit of a rule has passed; an inhibited activity stays so as long as it lasts (R64). -/
def execKerbInhibitEnd (t : Nat) (n : Fin 32) (s0 : State) : Host.Outcome State Fault Refusal :=
  let s := s0.advance t
  if (s.rule n).inhibitEnd ≤ 4 * s.time then ok (s.setRule n { s.rule n with inhibit := false }) else ok s

/-- The effect of a Latch Clear of output `k`: the latches of rules aimed at it end, each recorded as a fall, and Inhibit
starts (R64, R69). -/
def State.applyLatchClear (s : State) (k : Nat) : State :=
  let ns := ruleNumbers.filter (fun n => decide (s.nat (Ob.ruleOutput n) = k) && (s.rule n).latch)
  ns.foldl (fun s n =>
    (s.setRule n (KerbRule.beginInhibit { s.rule n with latch := false } (4 * s.time) (s.nat (Ob.inhibit n)))).recordEdge
      { stamp := s.time, source := .rule n, out := k, kind := .fall, suppressed := false, inhibited := false,
        crcFailed := false, open_ := none }) s

/-- The effect of a Rule Enable write (R63): an enabled rule starts inactive and is evaluated at once. A rule disabled while
active is released as by disarming: a pulse in progress runs out and a latch stays set (log entry 19). -/
def State.applyRuleEnable (s : State) (n v : Nat) : State :=
  if v = 1 then
    if s.on (Ob.ruleEnable n) then s.evalRule n s.time none false
    else
      ((s.setNat (Ob.ruleEnable n) 1).setRule n
        { s.rule n with active := false, inhibited := false, suppressed := false }).evalRule n s.time none false
  else (if (s.rule n).active then s.releaseRule n s.time else s).setNat (Ob.ruleEnable n) 0

/-- Whether the fields of a rule agree when it is enabled (R63). -/
def State.ruleFieldsOk (s : State) (n : Nat) : Bool :=
  if s.nat (Ob.ruleSource n) < 64 then
    decide (1 ≤ s.nat (Ob.onLevel n) ∧ s.nat (Ob.onLevel n) ≤ 1048575 ∧ s.nat (Ob.offLevel n) ≤ s.nat (Ob.onLevel n))
  else decide (s.nat (Ob.onLevel n) < 16 ∧ s.nat (Ob.offLevel n) ≤ 7)

/-- Whether a Counter Set is in range: each entry all zero or with a decay shift of 1 to 15, weights of at most 15 and
reserved bytes zero (R62). -/
def counterSetOk (bs : List Byte) : Bool :=
  (List.range 60).all (fun c =>
    let b := fun i => (bs.getD (8 * c + i) 0).toNat
    decide (leAt bs (8 * c) 8 = 0) ||
      decide (b 0 ≤ 15 ∧ b 1 ≤ 15 ∧ 1 ≤ b 2 ∧ b 2 ≤ 15 ∧ b 3 = 0 ∧ b 6 = 0 ∧ b 7 = 0))

end Sys2Proof.Machine
end

