-- ==== Sys2Proof/Machine/Numeric.lean ====
section
/-! DEFINITION. Real arithmetic of the Gate's de-rotation and of the Square: exact rationals, and REAL32 results that are
exact where REAL32 holds them and free otherwise (R208; log entry 8). -/

namespace Sys2Proof.Machine

/-- Whether a rational is a REAL32 value. -/
def inReal32 (x : Rat) : Bool := decide (real32 (real32Bits x) = x)

/-- A REAL32 result: the exact one where REAL32 holds it, else some REAL32 value. -/
def r32 (x : Rat) : Rat :=
  if inReal32 x then x else if inReal32 (Config.real32Near x) then Config.real32Near x else real32 (real32Bits x)

/-- Element `i` of a vector. -/
def vat (v : List Rat) (i : Nat) : Rat := v.getD i 0

/-- Element `(i, j)` of a matrix of `n` columns held row by row. -/
def mat (m : List Rat) (n i j : Nat) : Rat := m.getD (n * i + j) 0

/-- A sum of rationals. -/
def sumRat (l : List Rat) : Rat := l.foldl (· + ·) 0

/-- A matrix of `r` rows and `c` columns given by its elements. -/
def mkMat (r c : Nat) (f : Nat → Nat → Rat) : List Rat :=
  (List.range r).flatMap (fun i => (List.range c).map (fun j => f i j))

/-- The product of an `r × k` and a `k × c` matrix. -/
def matMul (r k c : Nat) (a b : List Rat) : List Rat :=
  mkMat r c (fun i j => sumRat ((List.range k).map (fun l => mat a k i l * mat b c l j)))

/-- The transpose of an `r × c` matrix. -/
def transpose (r c : Nat) (a : List Rat) : List Rat := mkMat c r (fun i j => mat a c j i)

/-- The sum of two vectors or matrices of one shape. -/
def vAdd (a b : List Rat) : List Rat := (List.range a.length).map (fun i => vat a i + vat b i)

/-- Their difference. -/
def vSub (a b : List Rat) : List Rat := (List.range a.length).map (fun i => vat a i - vat b i)

/-- A vector scaled. -/
def vScale (k : Rat) (a : List Rat) : List Rat := a.map (k * ·)

/-- The inner product. -/
def dot (a b : List Rat) : Rat := sumRat ((List.range a.length).map (fun i => vat a i * vat b i))

/-- The cross product. -/
def cross (a b : List Rat) : List Rat :=
  [vat a 1 * vat b 2 - vat a 2 * vat b 1, vat a 2 * vat b 0 - vat a 0 * vat b 2, vat a 0 * vat b 1 - vat a 1 * vat b 0]

/-- The identity matrix. -/
def idMat (n : Nat) : List Rat := mkMat n n (fun i j => if i = j then 1 else 0)

/-- The magnitude of a rational. -/
def absRat (x : Rat) : Rat := if x < 0 then -x else x

/-! ## exp2, log2, reciprocal, reciprocal square root within 2^−20 (R120)

Rational series give each function to better than 2^−50 of itself; a result is any FP32 value within 2^−20 of it. -/

/-- The sum of f 0 to f (n − 1). -/
def sumTo (f : Nat → Rat) : Nat → Rat
  | 0 => 0
  | n + 1 => sumTo f n + f n

/-- artanh z to 40 terms. -/
def artanhReal (z : Rat) : Rat := sumTo (fun k => z ^ (2 * k + 1) / ((2 * k + 1 : Nat) : Rat)) 40

/-- ln 2. -/
def ln2 : Rat := 2 * artanhReal (1 / 3)

/-- n!. -/
def factorial : Nat → Nat
  | 0 => 1
  | n + 1 => (n + 1) * factorial n

/-- 2 to the power x: the whole part exactly, the rest by the exponential series to 24 terms. -/
def exp2Real (x : Rat) : Rat :=
  let y := (x - (floorRat x : Rat)) * ln2
  pow2 (floorRat x) * sumTo (fun k => y ^ k / (factorial k : Rat)) 24

/-- The base-2 logarithm of a positive number. -/
def log2Real (x : Rat) : Rat :=
  let e := floorLog2 x
  let m := x / pow2 e
  (e : Rat) + 2 * artanhReal ((m - 1) / (m + 1)) / ln2

/-- The square root of a natural number rounded down, from bit `k` down, starting at `acc`. -/
def sqrtFrom (n : Nat) : Nat → Nat → Nat
  | 0, acc => acc
  | k + 1, acc => sqrtFrom n k (if (acc + 2 ^ k) ^ 2 ≤ n then acc + 2 ^ k else acc)

/-- The reciprocal square root of a positive number, to 60 bits. -/
def rsqrtReal (x : Rat) : Rat :=
  let h := floorLog2 x / 2
  (sqrtFrom (floorRat (pow2 (120 + 2 * h) / x)).toNat 62 0 : Nat) / pow2 (60 + h)

/-- Whether `y` lies within a relative error of 2^−20 of `a` (R120). -/
def within20 (a y : Rat) : Bool := decide (absRat (y - a) * (2 ^ 20 : Nat) ≤ absRat a)

/-- The value of special function `op` (0 exp2, 1 log2, 2 reciprocal, 3 reciprocal square root) where it has one that FP32 can
hold to that error. -/
def specialValue (op : Nat) (x : Rat) : Option Rat :=
  let v : Option Rat := match op with
    | 0 => if -126 ≤ x ∧ x < 128 then some (exp2Real x) else none
    | 1 => if 0 < x then some (log2Real x) else none
    | 2 => if x = 0 then none else some (1 / x)
    | _ => if 0 < x then some (rsqrtReal x) else none
  v.filter (fun a => decide (a = 0) || decide (pow2 (-126) ≤ absRat a ∧ absRat a ≤ (2 ^ 24 - 1 : Nat) * pow2 104))

/-- A special function of an FP32 encoding (R120, Table 6-2): any value within 2^−20 of the exact one; where R120 states no value,
any at all (log entry 7). -/
def specialResult (op bits : Nat) : Nat :=
  let free := Config.specialFunction op bits % 2 ^ 32
  match fp32.decode bits with
  | .fin _ x => match specialValue op x with
    | some a => match fp32.decode free with
      | .fin _ y => if within20 a y then free else fp32.encode .nearest true (.fin false a)
      | _ => fp32.encode .nearest true (.fin false a)
    | none => free
  | _ => free

/-- REAL32 encodings of a list of rationals, as bytes. -/
def realsOut (l : List Rat) : List Byte := l.flatMap (fun x => leBytes 4 (real32Bits x))

/-- `n` REAL32 values of a byte list, from byte `off` on. -/
def realsAt (bs : List Byte) (off n : Nat) : List Rat := (List.range n).map (fun i => real32 (leAt bs (off + 4 * i) 4))

end Sys2Proof.Machine
end

