-- ==== Sys2Proof/Machine/Gate.lean ====
section
/-! DEFINITION. Event intake (R31 to R60): packets, event words, restamping, hot pixels, the refractory filter, surfaces,
the governor, the replay ring, the intake queues. -/

namespace Sys2Proof.Machine

/-! ## Counters of a port (R70), by position in 0x2108 -/

/-- A counter of port `p` raised by `n`. -/
def State.portCount (s : State) (p i n : Nat) : State := s.count 64 (Ob.portCounter p i) n

/-- GAP reason bits (Table 2-5). -/
def gapCapacity : Nat := 16
/-- Governor. -/
def gapGovernor : Nat := 8
/-- Queue full. -/
def gapQueue : Nat := 4
/-- Lossless overflow. -/
def gapLossless : Nat := 2
/-- Parity. -/
def gapParity : Nat := 1

/-- A drop of `n` items counted in its own counter, and noted for the GAP marker before the port's next delivered event (R58).
Hot-pixel, refractory and stamp-fault drops have no reason bit in Table 2-5 (log entry 83). -/
def State.dropItems (s : State) (p counter reason n : Nat) : State :=
  (s.portCount p counter n).modPort p (fun q => { q with gap := q.gap + n, gapReasons := Nat.lor q.gapReasons reason })

/-! ## The replay ring (R59) -/

/-- The header of a replay record (Table 2-8). -/
def ringHeader (stamp p : Nat) (crc : Bool) (vc dataType kind len : Nat) : List Byte :=
  leBytes 16 (put 64 64 stamp + put 62 2 p + put 61 1 (bnat crc) + put 59 2 vc + put 53 6 dataType + put 48 5 kind + put 0 32 len)

/-- The bytes the records of a ring hold. -/
def ringFill (l : List RingRec) : Nat := sumNat (l.map (·.len))

/-- The records dropped, oldest first, until `n` more bytes fit. -/
def ringEvict : List RingRec → Nat → List RingRec
  | [], _ => []
  | r :: rs, n => if replaySize < ringFill (r :: rs) + n then ringEvict rs n else r :: rs

/-- Whether a lane word is the marker of a code of Table 2-5: 1 EPOCH, 2 GAP, 3 TRIGGER, 4 START. -/
def isMarker (w : LaneWord) (code : Nat) : Bool := w.kind == 1 && field w.word.toNat 60 4 == code

/-- The items among lane words: events, TRIGGER markers and frame lines, each line one record (log entry 83). -/
def itemsIn (ws : List LaneWord) : Nat :=
  (ws.filter (fun w => w.kind == 0 || isMarker w 3)).length
    + ((ws.filter (fun w => w.kind == 3)).map (·.recNum)).eraseDups.length

/-- The drops that the GAP markers among lane words report, and their reasons. -/
def gapsIn (ws : List LaneWord) : Nat × Nat :=
  (ws.filter (fun w => isMarker w 2)).foldl (fun a w =>
    (a.1 + field w.word.toNat 0 32, Nat.lor a.2 (field w.word.toNat 32 5))) (0, 0)

/-- The GAP marker that stands before an item of stamp `st`, with its EPOCH (R40, R58). -/
def gapWords (p reasons n recNum st : Nat) : List LaneWord :=
  [⟨1, gapMarker p reasons n, recNum, st⟩, ⟨1, epochMarker p st, recNum, st⟩]

/-- What the words of a port keep of those dropped before them: the last START marker (R40, log entry 83). -/
def keptStart (p firstKept st : Nat) (dropped : List LaneWord) : List LaneWord :=
  match (dropped.filter (fun w => isMarker w 4)).getLast? with
  | some w => [{ w with recNum := firstKept }, ⟨1, epochMarker p st, firstKept, st⟩]
  | none => []

/-- LOSSLESS overflow (R57): undelivered words whose record is gone are dropped and counted, a GAP that carries on the count of
those dropped with them stands before the next delivered event, and the port goes LOST with fault 0x0104 on its entry into that state. -/
def State.losslessOverflow (s : State) (p firstKept : Nat) : State :=
  let q := s.port p
  let dropped := q.backlog.filter (fun w => decide (w.recNum < firstKept))
  let kept := q.backlog.filter (fun w => decide (firstKept ≤ w.recNum))
  let n := itemsIn dropped
  let told := gapsIn dropped
  let reasons := Nat.lor told.2 (if n = 0 then 0 else gapLossless)
  let s1 := s.modPort p (fun q => match kept.find? (fun w => w.kind == 0) with
    | some e => { q with backlog := keptStart p firstKept e.stamp dropped
        ++ (if n + told.1 = 0 then [] else gapWords p reasons (n + told.1) firstKept e.stamp) ++ kept }
    | none => { q with backlog := keptStart p firstKept (q.lastEpoch.getD 0 * 2 ^ 37) dropped ++ kept,
                       gap := q.gap + n + told.1, gapReasons := Nat.lor q.gapReasons reasons })
  if n = 0 then s1
  else
    let s2 := s1.portCount p 12 n
    if s.nat (Ob.portState p) = 3 then s2 else (s2.setNat (Ob.portState p) 3).raise 0x0104 p

/-- A record appended to the ring of port `p`, 16-byte aligned (R59); the oldest records give way. -/
def State.appendRing (s : State) (p stamp : Nat) (crc : Bool) (vc dataType kind : Nat) (payload : List Byte) : State :=
  let q := s.port p
  let bytes := ringHeader stamp p crc vc dataType kind payload.length ++ padTo (roundUp payload.length 16) payload
  let kept := ringEvict q.ring bytes.length
  let ring := kept ++ [⟨q.ringNext, stamp, q.ringOff, bytes.length⟩]
  let firstKept := match kept with
    | r :: _ => r.num
    | [] => q.ringNext
  let s1 := { s with mem := Memory.writeRing s.mem (replayBase p) replaySize q.ringOff bytes }
  let s2 := s1.modPort p (fun q =>
    { q with ring := ring, ringNext := q.ringNext + 1, ringOff := (q.ringOff + bytes.length) % replaySize })
  let s3 := (s2.setNat (Ob.replayFill p) (ringFill ring)).setNat (Ob.replayOldestStamp p)
    (match ring with
      | r :: _ => r.stamp
      | [] => 0)
  if q.backlog = [] then s3.progress 65 else (s3.losslessOverflow p firstKept).progress 65

/-! ## The intake queue (R60) -/

/-- The policy in force (R57). -/
def State.policy (s : State) (p : Nat) : Nat := s.forceNat (Ob.governorPolicy p)

/-- Words moved from the ring's backlog into the queue as it has room (R57). -/
def refill (q : SensorPort) : SensorPort :=
  let n := 4088 - q.queue.length
  { q with queue := q.queue ++ q.backlog.take n, backlog := q.backlog.drop n }

/-- Lane words placed in a port's queue, or behind its backlog while one stands. -/
def pushWords (q : SensorPort) (ws : List LaneWord) : SensorPort :=
  if q.backlog = [] then { q with queue := q.queue ++ ws } else { q with backlog := q.backlog ++ ws }

/-- Whether a port refuses an item of `n` words that is not a marker of START, EPOCH or GAP (R60, R57); while a backlog of LOSSLESS
stands under another policy, TRIGGER markers and frame lines are refused like events (log entry 83). -/
def State.refuses (s : State) (p n : Nat) : Bool :=
  let q := s.port p
  if s.policy p = 2 then false else q.backlog != [] || decide (4088 < q.queue.length + n)

/-- Words that go into the queue, or under LOSSLESS behind it when it is full (R57). -/
def State.place (s : State) (p : Nat) (ws : List LaneWord) : State :=
  s.modPort p (fun q =>
    if s.policy p = 2 ∧ (q.backlog ≠ [] ∨ 4088 < q.queue.length + ws.length) then { q with backlog := q.backlog ++ ws }
    else pushWords q ws)

/-- The markers that stand before an event of stamp `st`: GAP with its EPOCH, or EPOCH alone (R40, R58). -/
def markersFor (q : SensorPort) (p st recNum : Nat) : List LaneWord :=
  if 0 < q.gap then gapWords p q.gapReasons q.gap recNum st
  else if q.lastEpoch = some (st / 2 ^ 37) then [] else [⟨1, epochMarker p st, recNum, st⟩]

/-- A word of the event-level feed: dropped when the queue is full or the feed exceeds 250 events of the slot (R215). -/
def State.releaseFeed (s : State) (p : Nat) (word : BitVec 64) : State :=
  let g := s.gate
  let count := if g.feedSlot = slotOf s.time then g.feedCount else 0
  if 1024 ≤ g.feed.length ∨ 250 ≤ count then s.count 64 (Ob.feedDrops p) 1
  else { s with gate := { g with feed := g.feed ++ [word], feedSlot := slotOf s.time, feedCount := count + 1 } }

/-- What an event that the Market gets does on the event-level feed (R215). -/
def State.takeOffer (s : State) (p : Nat) (o : FeedOffer) : State :=
  match o with
  | .none => s
  | .word w => s.releaseFeed p w
  | .outOfRange => s.count 64 (Ob.feedDrops p) 1

/-- An event released to the intake queue, and offered to the feed where the queue takes it (R40, R60, R215). -/
def State.releaseEvent (s : State) (p : Nat) (word : BitVec 64) (st recNum : Nat) (o : FeedOffer) : State :=
  if s.refuses p 1 then s.dropItems p 6 gapQueue 1
  else
    let q := s.port p
    ((s.place p (markersFor q p st recNum ++ [⟨0, word, recNum, st⟩])).modPort p (fun q =>
      { q with gap := 0, gapReasons := 0, lastEpoch := some (st / 2 ^ 37) })).takeOffer p o

/-- A TRIGGER marker released to the intake queue (R60). -/
def State.releaseTrigger (s : State) (p : Nat) (word : BitVec 64) (st recNum : Nat) : State :=
  if s.refuses p 1 then s.dropItems p 6 gapQueue 1 else s.place p [⟨1, word, recNum, st⟩]

/-- Whether a list of lane words ends in START and EPOCH with no item after them. -/
def endsInStart (ws : List LaneWord) : Bool :=
  match ws.reverse with
  | e :: st :: _ => isMarker e 1 && isMarker st 4
  | _ => false

/-- START and EPOCH placed at the end of a port's words (R40, R41). They replace a START and EPOCH that no item has followed, so at most
five markers precede an event and the reserved entries hold them (R60, log entry 83). -/
def placeStart (q : SensorPort) (ws : List LaneWord) : SensorPort :=
  if q.backlog = [] then { q with queue := (if endsInStart q.queue then q.queue.dropLast.dropLast else q.queue) ++ ws }
  else { q with backlog := (if endsInStart q.backlog then q.backlog.dropLast.dropLast else q.backlog) ++ ws }

/-- The stamp of the first event of a list of pending items, or `d` (Table 2-5: an EPOCH names the next event). -/
def nextStamp (d : Nat) : List PendItem → Nat
  | [] => d
  | .event _ st _ :: _ => st
  | _ :: its => nextStamp d its

/-- A pending item of a packet that passed its CRC check (R53, R70), and the items after it; a START sets the cold flag for Cold Time
(R51). A frame line that the queue refuses counts as one queue-full drop (log entry 83). -/
def State.releaseItem (s : State) (p recNum : Nat) (it : PendItem) (rest : List PendItem) : State :=
  match it with
  | .start cold st =>
    let e := nextStamp st rest
    (s.modPort p (fun q =>
      { placeStart q [⟨1, startMarker p (bnat cold) st, recNum, st⟩, ⟨1, epochMarker p e, recNum, e⟩] with
          lastEpoch := some (e / 2 ^ 37), coldRunning := true, coldUntil := st + 1000000 * s.nat (Ob.coldTime p) })).setNat
      (Ob.coldFlag p) 1
  | .event w st o => s.releaseEvent p w st recNum o
  | .trigger w st => s.releaseTrigger p w st recNum
  | .drop c r => s.dropItems p c r 1
  | .line ws =>
    if s.refuses p ws.length then s.dropItems p 6 gapQueue 1
    else s.place p (ws.map (fun w => ⟨3, w, recNum, s.time⟩))

/-- Whether an item stands in the pending-packet store. -/
def PendItem.isStored : PendItem → Bool
  | .event _ _ _ => true
  | .trigger _ _ => true
  | _ => false

/-- A parity error on read of a queue of Table 2-9: the item is discarded and counted as a drop with the parity reason (R60). -/
def State.parityDrop (s : State) (p : Nat) : State := (s.dropItems p 13 gapParity 1).raise 0x0106 p

/-- The items of a packet released in order; `bad` names the stored events and triggers, counted from 0, that a parity error takes as they
are read (R60). -/
def State.releaseItems (s : State) (p recNum : Nat) (bad : List Nat) : Nat → List PendItem → State
  | _, [] => s
  | i, it :: rest =>
    if it.isStored ∧ bad.contains i then (s.parityDrop p).releaseItems p recNum bad (i + 1) rest
    else (s.releaseItem p recNum it rest).releaseItems p recNum bad (if it.isStored then i + 1 else i) rest

/-! ## Surfaces (R49 to R52) -/

/-- The format of a port's surface: 0 SAE1, 1 SAE2, 2 off (Table 2-6). -/
def State.surfFormat (s : State) (p : Nat) : Nat := s.nat (Ob.surfaceFormat p)

/-- The address of a pixel's entry: row-major, pitch rounded up to 64 entries (R49). -/
def State.surfAddr (s : State) (p x y : Nat) : Nat :=
  surfaceBase p + 4 * (y * roundUp (s.nat (Ob.surfaceWidth p)) 64 + x)

/-- Whether a pixel touches the surface (R49). -/
def State.onSurface (s : State) (p x y : Nat) : Bool :=
  decide (x < s.nat (Ob.surfaceWidth p)) && decide (y < s.nat (Ob.surfaceHeight p)) && s.surfFormat p != 2

/-- The entry at an address: updates pending in the packet first, then the write-combining cache, then DRAM (R52, R53). -/
def State.surfEntry (s : State) (pk : Packet) (a : Nat) : Nat :=
  match pk.surface.find? a with
  | some v => v
  | none => match s.gate.cache.find? a with
    | some v => v
    | none => Memory.readNat s.mem a 4

/-- The age of an entry in surface ticks for the refractory check, if one is valid (R47, R50): `pol` for mode 1 on SAE2. -/
def entryAge (fmt mode pol now entry : Nat) : Option Nat :=
  if fmt = 0 then (if bitAt entry 31 then some ((now + 2 ^ 30 - field entry 0 30) % 2 ^ 30) else none)
  else
    let pos := if bitAt entry 31 then some ((now + 2 ^ 15 * 2 ^ 15 - field entry 16 15) % 2 ^ 15) else none
    let neg := if bitAt entry 15 then some ((now + 2 ^ 15 * 2 ^ 15 - field entry 0 15) % 2 ^ 15) else none
    if mode = 1 then (if pol = 1 then pos else neg)
    else match pos, neg with
      | some a, some b => some (min a b)
      | some a, none => some a
      | none, b => b

/-- The entry after an accepted event (Table 2-6). -/
def entryAfter (fmt pol now entry : Nat) : Nat :=
  if fmt = 0 then 2 ^ 31 + pol % 2 * 2 ^ 30 + now % 2 ^ 30
  else if pol = 1 then 2 ^ 31 + now % 2 ^ 15 * 2 ^ 16 + entry % 2 ^ 16
  else entry / 2 ^ 16 * 2 ^ 16 + 2 ^ 15 + now % 2 ^ 15

/-- Lines of 64 bytes a cache of entries covers. -/
def cacheLines (c : SMap Nat) : List Nat := (c.map (fun e => e.1 / 64)).eraseDups

/-- The entries of one line written back to DRAM (R52). -/
def State.writeBack (s : State) (line : Nat) : State :=
  let es := s.gate.cache.filter (fun e => e.1 / 64 == line)
  { s with mem := es.foldl (fun m e => Memory.writeBytes m e.1 (leBytes 4 e.2)) s.mem,
           gate := { s.gate with cache := s.gate.cache.filter (fun e => e.1 / 64 != line) } }

/-- A surface update of a committed packet: into the cache of 512 lines (R52, Table 12-1). Which line gives way when it is full
is open, a free value (log entry 42). -/
def State.cacheEntry (s : State) (a v : Nat) : State :=
  let ls := cacheLines s.gate.cache
  let s1 := if ls.contains (a / 64) ∨ ls.length < 512 then s else (s.writeBack (ls.getD (s.free % ls.length) 0)).drew 1
  { s1 with gate := { s1.gate with cache := s1.gate.cache.set a v } }

/-- A byte of a surface entry with its valid bit cleared: byte 3 holds bit 31, byte 1 holds bit 15 (R50). -/
def clearValid (fmt base a : Nat) (b : Byte) : Byte :=
  if (a - base) % 4 = 3 ∨ (fmt = 1 ∧ (a - base) % 4 = 1) then b &&& 0x7F else b

/-- All valid bits of a port's surface set to 0 (R50). -/
def State.clearSurface (s : State) (p : Nat) : State :=
  let b := surfaceBase p
  { s with mem := Memory.mapRange s.mem b (b + 0x4000000) (clearValid (s.surfFormat p) b),
           gate := { s.gate with cache := s.gate.cache.filter (fun e => decide (e.1 < b ∨ b + 0x4000000 ≤ e.1)) } }

/-! ## Hot pixels (R45, R46) -/

/-- The index of the least count, the lowest index among equals. -/
def leastIdx : List HotEntry → Nat → Nat → Nat → Nat
  | [], _, best, _ => best
  | e :: es, i, best, c => if e.count < c then leastIdx es (i + 1) i e.count else leastIdx es (i + 1) best c

/-- An event counted in the heavy-hitter table (R46). -/
def hotCount (x y : Nat) (l : List HotEntry) : List HotEntry :=
  if l.any (fun e => e.x == x && e.y == y) then
    l.map (fun e => if e.x = x ∧ e.y = y then { e with count := e.count + 1 } else e)
  else if l.length < 256 then l ++ [⟨x, y, 1, 0⟩]
  else match l with
    | [] => l
    | e :: _ =>
      let i := leastIdx l 0 0 (e.count + 1)
      let m := l.getD i e
      setNth l i ⟨x, y, m.count + 1, m.count⟩

/-- The hot list and table at the end of a window (R46): new list, and whether a candidate found the list full. -/
def hotWindowEnd (hotT relT ms : Nat) (table : List HotEntry) (lst : List HotPixel) : List HotPixel × Bool :=
  let cands := table.filter (fun e =>
    decide (hotT * ms ≤ (e.count - e.err) * 1000) && !lst.any (fun h => h.x == e.x && h.y == e.y))
  let room := 4096 - lst.length
  let step := fun (h : HotPixel) =>
    let below := match table.find? (fun e => e.x == h.x && e.y == h.y) with
      | some e => decide (e.count * 1000 < relT * ms)
      | none => true
    { h with below := if below then h.below + 1 else 0 }
  let aged := (lst ++ (cands.take room).map (fun e => HotPixel.mk e.x e.y 0)).map step
  (aged.filter (fun h => h.below != 8), decide (room < cands.length))

/-! ## Decoding (R35 to R37) -/

/-- What an event word says once decoded. -/
inductive Decoded where
  | discard
  | none_
  | event (x y pol : Nat)
  | trigger (number level : Nat)
  deriving DecidableEq, Repr

/-- A decoded word with the port's running time and whether its packet's time is set. -/
structure DecodeResult where
  what : Decoded
  running : Nat
  timeSet : Bool
  deriving DecidableEq, Repr

/-- An EVA word (R35, Table 2-2). -/
def decodeEva (running : Nat) (timeSet : Bool) (w : Nat) : DecodeResult :=
  let k := field w 28 4
  let dropped : DecodeResult := ⟨.discard, running, timeSet⟩
  if k < 8 then
    if timeSet then ⟨.event (field w 0 12) (field w 12 12) (field w 24 1), (running + field w 25 6) % 2 ^ 36, true⟩ else dropped
  else if k = 8 then (if timeSet then ⟨.none_, (running + field w 0 28) % 2 ^ 36, true⟩ else dropped)
  else if k = 9 then ⟨.none_, field w 0 28 * 256, true⟩
  else if k = 10 then ⟨.none_, running, timeSet⟩
  else if k = 11 then
    if timeSet then ⟨.trigger (field w 24 4) (field w 23 1), (running + field w 0 6) % 2 ^ 36, true⟩ else dropped
  else dropped

/-- An EVB word (R36). -/
def decodeEvb (running : Nat) (w : Nat) : DecodeResult :=
  let k := field w 61 3
  if k = 0 then ⟨.event (field w 48 12) (field w 36 12) (field w 60 1), field w 0 36, true⟩
  else if k = 1 then ⟨.trigger (field w 57 4) (field w 56 1), field w 0 36, true⟩
  else if k = 7 then ⟨.none_, running, true⟩
  else ⟨.discard, running, true⟩

/-- A field extractor descriptor (Table 2-3). -/
structure Extractor where
  mask : Nat
  value : Nat
  kind : Nat
  bits : Nat
  xPos : Nat
  xLen : Nat
  yPos : Nat
  yLen : Nat
  pPos : Nat
  pLen : Nat
  tPos : Nat
  tLen : Nat
  tShift : Nat
  trigPos : Nat
  reserved : Nat
  deriving DecidableEq, Repr

/-- Descriptor `i` of a Field Extractor DOMAIN. -/
def extractorAt (bs : List Byte) (i : Nat) : Extractor :=
  let b := fun o => leAt bs (32 * i + o) 1
  ⟨leAt bs (32 * i) 8, leAt bs (32 * i + 8) 8, b 16, b 17, b 18, b 19, b 20, b 21, b 22, b 23, b 24, b 25, b 26, b 27,
    leAt bs (32 * i + 28) 4⟩

/-- The highest bit the time fields reach, plus 1 (R41); sensor time has 36 bits (R35). -/
def extractorWidth (ds : List Extractor) : Nat :=
  ds.foldl (fun w d => if d.kind = 0 ∨ d.kind = 4 then w else max w (min 36 (d.tShift + d.tLen))) 0

/-- A word in extractor format (R37). Table 2-3 has no field for the level of a sensor trigger: the polarity field is taken as it, and 1
where that has width 0 (log entry 83). -/
def decodeExtractor (ds : List Extractor) (running : Nat) (w : Nat) : DecodeResult :=
  match ds.find? (fun d => d.kind != 0 && Nat.land w d.mask == d.value) with
  | none => ⟨.discard, running, true⟩
  | some d =>
    let t := field w d.tPos d.tLen
    if d.kind = 2 then ⟨.none_, (running % 2 ^ d.tShift + t * 2 ^ d.tShift) % 2 ^ 36, true⟩
    else
      let hi := 2 ^ (d.tShift + d.tLen)
      let time := (running / hi * hi + t * 2 ^ d.tShift + running % 2 ^ d.tShift) % 2 ^ 36
      let pol := if d.pLen = 0 then 1 else field w d.pPos 1
      if d.kind = 1 then ⟨.event (field w d.xPos d.xLen) (field w d.yPos d.yLen) pol, time, true⟩
      else if d.kind = 3 then ⟨.trigger (field w d.trigPos 4) pol, time, true⟩
      else ⟨.none_, running, true⟩

/-- The bits of a word of a port's format. -/
def State.wordBits (s : State) (p : Nat) : Nat :=
  let f := s.nat (Ob.wordFormat p)
  if f = 0 then 32 else if f = 1 then 64 else s.domNat (Ob.fieldExtractor p) 17 1

/-- A word decoded by the port's format. -/
def State.decodeWord (s : State) (p running : Nat) (timeSet : Bool) (w : Nat) : DecodeResult :=
  let f := s.nat (Ob.wordFormat p)
  if f = 0 then decodeEva running timeSet w
  else if f = 1 then decodeEvb running w
  else decodeExtractor ((List.range 4).map (extractorAt (s.domBytes (Ob.fieldExtractor p) 0 128))) running (w % 2 ^ s.wordBits p)

/-- The width of the format's sensor time (R41). -/
def State.timeWidth (s : State) (p : Nat) : Nat :=
  if s.nat (Ob.wordFormat p) < 2 then 36
  else extractorWidth ((List.range 4).map (extractorAt (s.domBytes (Ob.fieldExtractor p) 0 128)))

/-- The sensor time extended to 64 bits: 2^w is added when a new value lies more than 2^(w−1) below the last (R41). -/
def extendTime (w ext raw new : Nat) : Nat := ext - raw + new + (if new + 2 ^ (w - 1) < raw then 2 ^ w else 0)

/-! ## Restamping (R41, R43, R265) -/

/-- tick_q32 with the trim in force (R42). -/
def State.tickQ32 (s : State) (p : Nat) : Int :=
  roundRat ((s.num (Ob.sensorTick p) : Rat) * (1 + (s.forceNum (Ob.rateTrim p) : Rat) / 1000000000))

/-- The device-time stamp of an extended sensor time, before it is raised to the last stamp (R41). -/
def State.stampOf (s : State) (p : Nat) (anchor : Nat × Nat) (ext : Nat) : Nat :=
  let ds : Int := (ext : Int) - anchor.1
  let dn : Int := ds * s.tickQ32 p / 2 ^ 32
  ((anchor.2 : Int) + dn + s.num (Ob.appliedOffset p)).toNat

/-- A stamp raised to the port's last (R265). -/
def raised (last : Option Nat) (t : Nat) : Nat :=
  match last with
  | some l => max l t
  | none => t

/-! ## The stages of R55 -/

/-- Events a port accepts in a slot (R24). -/
def State.capacityOf (s : State) (p : Nat) : Nat := if s.wordBits p = 64 then 270 else 500

/-- Stage 1: whether an event or trigger of now fits, and the state with it counted (R24). -/
def State.takeCapacity (s : State) (p : Nat) : Bool × State :=
  let k := slotOf s.time
  let q := s.port p
  let mine := if q.capSlot = k then q.capCount else 0
  let all := if s.gate.capSlot = k then s.gate.capTotal else 0
  if mine < s.capacityOf p ∧ all < 1600 then
    let s1 := { s with gate := { s.gate with capSlot := k, capTotal := all + 1 } }
    (true, s1.modPort p (fun q => { q with capSlot := k, capCount := mine + 1 }))
  else (false, s)

/-- An item put into the pending store of the open packet; beyond 2,048 events it is dropped as queue full (R60). Trigger words take
places of the store as events do (log entry 83). -/
def pendItem (it : PendItem) (pk : Packet) : Packet :=
  if !it.isStored then { pk with items := pk.items ++ [it] }
  else if pk.stored < 2048 then { pk with items := pk.items ++ [it], stored := pk.stored + 1 }
  else { pk with items := pk.items ++ [.drop 6 gapQueue] }

/-- The open packet of a port changed. -/
def State.modPacket (s : State) (p : Nat) (f : Packet → Packet) : State :=
  s.modPort p (fun q => { q with packet := q.packet.map f })

/-- An item made pending with the port's packet. -/
def State.pend (s : State) (p : Nat) (it : PendItem) : State := s.modPacket p (pendItem it)

/-- Governor selection (Table 2-7): whether the event is kept, and the accumulators after it. -/
def governorKeeps (policy f prio : Nat) (q : SensorPort) : Bool × SensorPort :=
  if policy = 2 then (true, q)
  else if policy = 1 then
    let a := nth 0 q.accPriority prio + min 256 (f * 2 ^ prio)
    if 256 ≤ a then (true, { q with accPriority := setNth q.accPriority prio (a - 256) })
    else (false, { q with accPriority := setNth q.accPriority prio a })
  else
    let a := q.accUniform + f
    if 256 ≤ a then (true, { q with accUniform := a - 256 }) else (false, { q with accUniform := a })

/-- The bin of the refractory learning an age in ns falls into (R261). -/
def learnBin (ns : Nat) : Nat := if ns < 32 then 0 else min 15 (Nat.log2 (ns / 16))

/-- The de-rotation set for a stamp: that of its slot, else the nearest held (R214). -/
def derotFor (t : Nat) (l : List DerotSet) : Option DerotSet :=
  match l.find? (fun d => d.slot == slotOf t) with
  | some d => some d
  | none => l.foldl (fun best d => match best with
      | none => some d
      | some b => if (Int.natAbs ((d.slot : Int) - slotOf t)) < Int.natAbs ((b.slot : Int) - slotOf t) then some d else best) none

/-- The feed word of an event (R214, Table 8-2), or none where its position falls outside INTEGER15 half pixels. Without
a set the position is not changed (log entry 24). -/
def feedWordOf (p pol x y t : Nat) (l : List DerotSet) : Option (BitVec 64) :=
  let (x2, y2, slot) : Int × Int × Nat := match derotFor t l with
    | none => (2 * (x : Int), 2 * (y : Int), slotOf t)
    | some d =>
      let dt : Rat := ((t : Int) - (1000 * d.slot : Nat) : Int) / 1000000000
      let h := (List.range 9).map (fun i => r32 (vat d.h0 i + dt * vat d.h1 i))
      let v : List Rat := [(x : Nat), (y : Nat), 1]
      let xh := r32 (dot (h.take 3) v)
      let yh := r32 (dot ((h.drop 3).take 3) v)
      let wh := r32 (dot (h.drop 6) v)
      if wh = 0 then (-16385, 0, d.slot) else (roundRat (2 * xh / wh), roundRat (2 * yh / wh), d.slot)
  if x2 < -16384 ∨ 16383 < x2 ∨ y2 < -16384 ∨ 16383 < y2 then none
  else some (BitVec.ofNat 64 (put 62 2 p + put 61 1 pol + put 46 15 (unsigned 15 x2) + put 31 15 (unsigned 15 y2)
    + put 30 1 slot + put 0 30 t))

/-- What the event-level feed is offered of an event, if the Market gets it (R215). -/
def State.feedOffer (s : State) (p region pol x y t : Nat) : FeedOffer :=
  if s.on (Ob.feedEnable p) ∧ bitAt (s.nat (Ob.feedRegionMask p)) region then
    match feedWordOf p pol x y t (s.port p).derot with
    | some w => .word w
    | none => .outOfRange
  else .none

/-- Stages 4 to 6 of an event that passed stage 3 (R55). -/
def State.stagesAfterRefractory (s : State) (p region pol x y t : Nat) : State :=
  let s1 := s.modPort p (fun q =>
    { q with rateCount := if s.on (Ob.timeOffsetEnable p) then q.rateCount + 1 else q.rateCount,
             biasCount := if s.on (Ob.biasTrimEnable p) ∧ s.domNat (Ob.biasProgram p) 3 1 = region then q.biasCount + 1 else q.biasCount })
  let now := t / 2 ^ s.nat (Ob.surfaceTickShift p)
  let s2 := if s.onSurface p x y then
      s1.modPacket p (fun pk =>
        { pk with surface := pk.surface.set (s.surfAddr p x y) (entryAfter (s.surfFormat p) pol now (s.surfEntry pk (s.surfAddr p x y))) })
    else s1
  let prio := if region = 0 then 0 else field (s.nat (Ob.regionPriority p)) (2 * region) 2
  let (keep, q) := governorKeeps (s2.policy p) (s2.nat (Ob.keepFraction p)) prio (s2.port p)
  let s3 := s2.modPort p (fun _ => q)
  if !keep then s3.pend p (.drop 5 gapGovernor)
  else if s3.policy p ≠ 2 ∧ q.backlog ≠ [] then s3.pend p (.drop 6 gapQueue)
  else s3.pend p (.event (eventLane p pol x y t) t (s3.feedOffer p region pol x y t))

/-- Stages 2 and 3 of an event (R45 to R47, R55, R261). -/
def State.stagesOfEvent (s : State) (p region pol x y t : Nat) : State :=
  let q := s.port p
  let s1 := s.modPort p (fun q => { q with hot := hotCount x y q.hot })
  if s.forceNum (Ob.hotPixelEnable p) = 1 ∧ q.hotList.any (fun h => h.x == x && h.y == y) then s1.pend p (.drop 7 0)
  else
    let shift := s.nat (Ob.surfaceTickShift p)
    let now := t / 2 ^ shift
    let fmt := s.surfFormat p
    let mode := if fmt = 1 then s.nat (Ob.refractoryMode p) else 0
    let age := match q.packet with
      | some pk => if s.onSurface p x y then entryAge fmt mode pol now (s.surfEntry pk (s.surfAddr p x y)) else none
      | none => none
    let s2 := match age with
      | some a => if s.on (Ob.refractoryLearningEnable p) then
          let b := learnBin (a * 2 ^ shift)
          s1.modPort p (fun q => { q with learn := setNth q.learn b (nth 0 q.learn b + 1) })
        else s1
      | none => s1
    let ticks := (s.forceNat (Ob.refractoryPeriod p) * 16 + 2 ^ shift - 1) / 2 ^ shift
    match age with
    | some a => if a < ticks then s2.pend p (.drop 8 0) else s2.stagesAfterRefractory p region pol x y t
    | none => s2.stagesAfterRefractory p region pol x y t

/-- The anchor an event or trigger is restamped by, set now where the port has none, with its START marker pending (R41, R53; a
trigger word may set it too, log entry 21). -/
def State.anchorAt (s : State) (p ext arrival : Nat) : State :=
  match (s.port p).anchor with
  | some _ => s
  | none =>
    let s1 := s.modPort p (fun q =>
      { q with anchor := some (ext, arrival), lastStamp := none, rMin := none, rPrev := none })
    s1.modPacket p (fun pk => { pk with anchored := true, items := pk.items ++ [.start true arrival] })

/-- A word discarded under R35 to R37: counted, and reported once per packet. -/
def State.discardWord (s : State) (p : Nat) (pk : Packet) : State :=
  let s1 := (s.portCount p 11 1).modPacket p (fun k => { k with noted := true })
  if pk.noted then s1 else s1.raise 0x0107 p

/-- An event with its extended sensor time (R41 to R55, R61 to R64). -/
def State.acceptEvent (s : State) (p x y pol ext arrival : Nat) : State :=
  let s0 := (s.portCount p 0 1).anchorAt p ext arrival
  let q := s0.port p
  let stamp := s0.stampOf p (q.anchor.getD (ext, arrival)) ext
  let t := raised q.lastStamp stamp
  let region := s0.regionOf p x y
  let s1 := s0.kerbEvent p x y pol t
  if arrival + 1000 < stamp ∨ stamp + 1000000 < arrival then
    ((s1.pend p (.drop 9 0)).modPort p (fun q => { q with anchor := none })).raise 0x0103 p
  else
    let s2 := s1.modPort p (fun q => { q with lastStamp := some t, packet := q.packet.map (fun k => { k with lastStamp := some t }) })
    let (fits, s3) := s2.takeCapacity p
    if fits then s3.stagesOfEvent p region pol x y t else s3.pend p (.drop 4 gapCapacity)

/-- A sensor trigger word: stage 1, then a TRIGGER marker with source 0 (R55). -/
def State.acceptTrigger (s : State) (p number level ext arrival : Nat) : State :=
  let s0 := (s.portCount p 0 1).anchorAt p ext arrival
  let q := s0.port p
  let t := raised q.lastStamp (s0.stampOf p (q.anchor.getD (ext, arrival)) ext)
  let s1 := s0.modPort p (fun q => { q with lastStamp := some t })
  let (fits, s2) := s1.takeCapacity p
  if fits then s2.pend p (.trigger (triggerMarker p 0 number level t) t) else s2.pend p (.drop 4 gapCapacity)

/-- The Kerb edges of a port's open packet stand with no check to come: the packet is gone before its CRC (R68). -/
def State.closeEdges (s : State) (p : Nat) : State :=
  { s with kerb := { s.kerb with edges := s.kerb.edges.map (fun e => if e.open_ = some p then { e with open_ := none } else e) } }

/-- The timing of a port as it stands. -/
def SensorPort.timing (q : SensorPort) : PortTiming := ⟨q.running, q.sensorTime, q.sensorRaw, q.lastStamp⟩

/-- The port's timing as it was before a packet that is withdrawn (R35). -/
def SensorPort.restoreTiming (q : SensorPort) (b : PortTiming) : SensorPort :=
  { q with running := b.running, sensorTime := b.sensorTime, sensorRaw := b.sensorRaw, lastStamp := b.lastStamp }

/-! ## Commands -/

/-- CSI2_PACKET_HEADER: the header checks of R32 and R54, the port's first packet (R33), and the packet opened. Line start and line end
packets are accepted and discarded (Table 2-1). A short packet has no payload CRC: its record carries the bit as passed (log entry 83). -/
def execCsi2PacketHeader (t : Nat) (p : Fin 4) (h : PacketHeader) (s0 : State) : Host.Outcome State Fault Refusal :=
  let s := s0.advance t
  let st := s.nat (Ob.portState p)
  if st = 0 ∨ s.fenced then ok s
  else if h.ecc = .uncorrectable ∨ h.supported = false then ok ((s.portCount p 3 1).raise 0x0101 p)
  else
    let s1 := if h.ecc = .corrected then s.portCount p 2 1 else s
    let frame := decide (3 ≤ s.nat (Ob.wordFormat p))
    let sel := if frame then 0x2A + (s.nat (Ob.wordFormat p) - 3) else s.nat (Ob.dataType p)
    if h.vc.toNat ≠ s.nat (Ob.virtualChannel p) ∨ (h.kind = .long ∧ h.dataType.toNat ≠ sel) then ok (s1.portCount p 10 1)
    else
      let s2 := if st = 1 then s1.setNat (Ob.portState p) 2 else s1
      match h.kind with
      | .long => ok ((s2.closeEdges p).modPort p (fun q =>
          { q with packet := some (Packet.opened h.vc.toNat h.dataType.toNat h.arrival frame q.timing) }))
      | .frameStart =>
        let s3 := if frame then s2.modPort p (fun q => { q with frameStart := h.arrival }) else s2
        ok (s3.appendRing p h.arrival true h.vc.toNat h.dataType.toNat 0 [])
      | .frameEnd => ok (s2.appendRing p h.arrival true h.vc.toNat h.dataType.toNat 0 [])
      | .lineStart => ok s1
      | .lineEnd => ok s1

/-- EVENT_WORD: a word of the open packet decoded (R35 to R37), restamped and passed through the stages (R55); a fenced Gate
drops it as a capacity drop (R383, Table 16-2). A word that a parity error takes as it is read from the port receive queue is discarded
before it is decoded (R60). -/
def execEventWord (t : Nat) (p : Fin 4) (w : WordIn) (s0 : State) : Host.Outcome State Fault Refusal :=
  let s := s0.advance t
  match (s.port p).packet with
  | none => ok (if s.fenced ∧ s.nat (Ob.portState p) ≠ 0 then s.dropItems p 4 gapCapacity 1 else s)
  | some pk =>
    if w.parityError then ok (s.parityDrop p)
    else if pk.frame then ok s
    else
      let d := s.decodeWord p (s.port p).running pk.timeSet w.bits.toNat
      let q := s.port p
      let ext := if d.what = .discard then q.sensorTime else extendTime (s.timeWidth p) q.sensorTime q.sensorRaw d.running
      let raw := if d.what = .discard then q.sensorRaw else d.running
      let s1 := (s.modPort p (fun q =>
        { q with running := d.running, sensorTime := ext, sensorRaw := raw,
                 packet := some { pk with payload := pk.payload ++ leBytes (s.wordBits p / 8) w.bits.toNat, timeSet := d.timeSet } })).progress 65
      match d.what with
      | .discard => ok (s1.discardWord p pk)
      | .none_ => ok s1
      | .event x y pol => ok (s1.acceptEvent p x y pol ext pk.arrival)
      | .trigger n l => ok (s1.acceptTrigger p n l ext pk.arrival)

/-- The lane words of a frame line: its stamp, its frame's stamp, then eight pixel bytes a word (R33; the spec gives no
layout, log entry 22). -/
def lineWords (stamp frameStamp : Nat) (px : List Byte) : List (BitVec 64) :=
  BitVec.ofNat 64 stamp :: BitVec.ofNat 64 frameStamp
    :: (List.range ((px.length + 7) / 8)).map (fun i => BitVec.ofNat 64 (leAt px (8 * i) 8))

/-- FRAME_PACKET: a frame start, or a line of a frame-format port, stamped with the arrival of its packet (R33). -/
def execFramePacket (t : Nat) (p : Fin 4) (item : FrameItem) (s0 : State) : Host.Outcome State Fault Refusal :=
  let s := s0.advance t
  match item with
  | .start =>
    if 2 ≤ s.nat (Ob.portState p) ∧ 3 ≤ s.nat (Ob.wordFormat p) then ok (s.modPort p (fun q => { q with frameStart := s.time }))
    else ok s
  | .line px =>
    match (s.port p).packet with
    | none => ok s
    | some pk =>
      if pk.frame then
        ok (s.modPacket p (fun k =>
          { k with payload := k.payload ++ px, items := k.items ++ [.line (lineWords pk.arrival (s.port p).frameStart px)] }))
      else ok s

/-- PAYLOAD_CRC_CHECK: a packet that passes releases its entries and commits its surface updates; one that fails is
withdrawn, with its anchor and markers (R41, R53), and leaves the port's timing as it found it (R35). Either way its record is in the ring
(R59). -/
def execPayloadCrcCheck (t : Nat) (p : Fin 4) (ok_ : CrcOutcome) (s0 : State) : Host.Outcome State Fault Refusal :=
  let s := s0.advance t
  match (s.port p).packet with
  | none => ok s
  | some pk =>
    let s1 := s.modPort p (fun q => { q with packet := none })
    if ok_.passed then
      let s2 := pk.surface.foldl (fun s e => s.cacheEntry e.1 e.2) s1
      let num := (s.port p).ringNext
      let s3 := s2.appendRing p pk.arrival true pk.vc pk.dataType 0 pk.payload
      let s4 := s3.releaseItems p num ok_.bad 0 pk.items
      let s5 := s4.modPort p (fun q =>
        { q with committedArrival := some pk.arrival,
                 rMin := match (if s.on (Ob.rateTracking p) then pk.lastStamp else none) with
                   | some l =>
                     let r : Int := (pk.arrival : Int) - l
                     some (match q.rMin with
                       | some m => min m r
                       | none => r)
                   | none => q.rMin })
      ok ((s5.raiseWatermark (22 + p) (pk.arrival - 2000)).kerbCrc p s.time true)
    else
      let s2 := (s1.portCount p 1 1).raise 0x0102 p
      let s3 := s2.appendRing p pk.arrival false pk.vc pk.dataType 0 pk.payload
      let s4 := s3.modPort p (fun q => { q.restoreTiming pk.before with anchor := if pk.anchored then none else q.anchor })
      ok (s4.kerbCrc p s.time false)

/-- RATE_TRIM_WINDOW_END: the trim moves by a quarter of the change in minimum residual (R42). -/
def execRateTrimWindowEnd (t : Nat) (p : Fin 4) (s0 : State) : Host.Outcome State Fault Refusal :=
  let s := s0.advance t
  let q := s.port p
  let s1 := s.modPort p (fun q => { q with rMin := none, rPrev := q.rMin })
  match q.rMin, q.rPrev, s.on (Ob.rateTracking p) with
  | some m, some prev, true =>
    ok (s1.deferNum (Ob.rateTrim p) (clampInt (-200000) 200000 (s.num (Ob.rateTrim p) + 25 * (m - prev))))
  | _, _, _ => ok s1

/-- HOT_WINDOW_END: the window's candidates are listed and cold entries leave the list; the next window starts (R46). -/
def execHotWindowEnd (t : Nat) (p : Fin 4) (s0 : State) : Host.Outcome State Fault Refusal :=
  let s := s0.advance t
  let q := s.port p
  if s.nat (Ob.portState p) = 0 ∨ s.time < q.hotFrom + 1000000 * q.hotWindow then ok s
  else
    let r := hotWindowEnd (s.forceNat (Ob.hotThreshold p)) (s.forceNat (Ob.releaseThreshold p)) q.hotWindow q.hot q.hotList
    let s1 := s.modPort p (fun q => { q with hot := [], hotList := r.1, hotWindow := s.nat (Ob.hotWindow p), hotFrom := s.time })
    ok ((s1.setNat (Ob.hotPixelCount p) r.1.length).raiseIf r.2 0x0105 p)

/-- COLD_TIME_EXPIRY: the cold flag is cleared after Cold Time of streaming without a re-anchor (R51). -/
def execColdTimeExpiry (t : Nat) (p : Fin 4) (s0 : State) : Host.Outcome State Fault Refusal :=
  let s := s0.advance t
  if (s.port p).coldRunning ∧ (s.port p).coldUntil ≤ s.time then
    ok ((s.modPort p (fun q => { q with coldRunning := false })).setNat (Ob.coldFlag p) 0)
  else ok s

/-- SURFACE_LINE_WRITEBACK: a dirty line goes to DRAM (R52). -/
def execSurfaceLineWriteback (t : Nat) (line : Nat) (s0 : State) : Host.Outcome State Fault Refusal :=
  ok ((s0.advance t).writeBack line)

/-- The greatest lag among the running contexts that subscribe to a port, as the Gate's register has it (R12, R56). -/
def State.portLag (s : State) (p : Nat) : Nat :=
  (List.range 8).foldl (fun m n =>
    if s.ctxState n = 2 ∧ (s.ctx n).subs.any (fun sub => sub.port.val == p) then max m (s.gate.lags.get 0 n) else m) 0

/-- The keep fraction after a tick of 10 µs, unpinned (R56, R172). -/
def keepAfter (f lag maxLag lo hi : Nat) : Nat :=
  let f1 := if maxLag * 1000 < lag then f - max 1 (f / 8) else if 2 * lag < maxLag * 1000 then min 256 (f + 4) else f
  max lo (min hi f1)

/-- The governor of one port at a tick (R56, R169, R172). -/
def State.governPort (s : State) (p : Nat) : State :=
  if s.nat (Ob.portState p) = 0 then s
  else
    let lag := s.portLag p
    let maxLag := s.nat (Ob.maximumLag p)
    if s.on (Ob.governorPin p) then
      let excess := if maxLag * 1000 < lag then (lag - maxLag * 1000) / 1000 else 0
      let s1 := (s.setNat (Ob.keepFraction p) (s.nat (Ob.pinnedKeepFraction p))).setNat (Ob.predictedLagExcess p) excess
      s1.raiseIf (decide (s.nat (Ob.predictedLagExcess p) = 0 ∧ 0 < excess)) 0x0502 p
    else
      (s.setNat (Ob.keepFraction p)
        (keepAfter (s.nat (Ob.keepFraction p)) lag maxLag (s.nat (Ob.keepFloor p)) (s.nat (Ob.keepCeiling p)))).setNat
        (Ob.predictedLagExcess p) 0

/-- GOVERNOR_TICK: every port's keep fraction moves (R56). -/
def execGovernorTick (t : Nat) (s0 : State) : Host.Outcome State Fault Refusal :=
  ok ((List.range 4).foldl (fun s p => s.governPort p) (s0.advance t))

/-! ## Delivery (R60, R97, R98) -/

/-- The tile numbers of a partition, row by row (R125). -/
def partTiles (c : Context) : List Nat :=
  (List.range c.h).flatMap (fun r => (List.range c.w).map (fun col => c.origin + 8 * r + col))

/-- The tiles of a subscription's mask: bit i is the tile at offset i of the partition. -/
def subTiles (c : Context) (sub : Subscription) : List Nat :=
  (List.range (c.w * c.h)).filterMap (fun i =>
    if sub.tileMask.getLsbD i then some (nth 0 (partTiles c) i) else none)

/-- Whether a subscription takes a lane word (R97). -/
def subTakes (sub : Subscription) (w : LaneWord) : Bool :=
  match w.kind with
  | 0 => sub.events && decide (sub.win.xLo ≤ laneX w.word ∧ laneX w.word ≤ sub.win.xHi ∧ sub.win.yLo ≤ laneY w.word ∧ laneY w.word ≤ sub.win.yHi)
  | 1 => sub.markers
  | 2 => sub.patches
  | _ => sub.frames

/-- The device time nearest to `now` that ends in the 37 bits of a stamp (R40). -/
def nearestStamp (now bits : Nat) : Nat :=
  let base := now / 2 ^ 37 * 2 ^ 37 + bits % 2 ^ 37
  if base + 2 ^ 36 < now then base + 2 ^ 37 else if now + 2 ^ 36 < base ∧ 2 ^ 37 ≤ base then base - 2 ^ 37 else base

/-- The flit a tile receives, padded with filler words of kind 01, as 32 bytes and its tag (R97, R98). -/
def flitBytes (ws : List LaneWord) : List Byte :=
  (List.range 4).flatMap (fun i => leBytes 8 (match ws[i]? with
    | some w => w.word.toNat
    | none => 0))

/-- The tag byte of a flit: bits [1:0] the kind of word 0, bits [7:6] that of word 3 (R98). -/
def flitTag (ws : List LaneWord) : Byte :=
  BitVec.ofNat 8 (sumNat ((List.range 4).map (fun i => (match ws[i]? with
    | some w => w.kind
    | none => 1) % 4 * 4 ^ i)))

/-- A flit written into a tile's ring: entry, tag, then object 255 (R98, R112). -/
def State.deliverTo (s : State) (ws : List LaneWord) (t : Nat) : State :=
  let tl := s.tile t
  let m1 := Memory.writeBytes s.mem (scratchAddr t (tl.ringBase + 32 * tl.ringNext)) (flitBytes ws)
  let m2 := Memory.writeBytes m1 (scratchAddr t (tl.ringBase + 32 * tl.ringSize + tl.ringNext)) [flitTag ws]
  { s with mem := m2 }.modTile t (fun tl =>
    { tl with ringNext := (tl.ringNext + 1) % tl.ringSize, ringHeld := tl.ringHeld + 1,
              sync := tl.sync.set 255 ((tl.sync.get 0 255 + 1) % 2 ^ 32), wake := tl.wake || tl.asleep })

/-- The flits of a batch of lane words: context, tiles and words of each active subscription that takes any (R97). -/
def State.flitsOf (s : State) (p : Nat) (ws : List LaneWord) : List (Nat × List Nat × List LaneWord) :=
  (List.range 8).flatMap (fun n =>
    if s.ctxState n = 2 then
      (s.ctx n).subs.filterMap (fun sub =>
        let taken := if sub.port.val = p then ws.filter (subTakes sub) else []
        if taken = [] then none else some (n, subTiles (s.ctx n) sub, taken))
    else [])

/-- Whether every tile addressed has a credit for each of the flits that go to it (R98). -/
def State.creditsFor (s : State) (flits : List (Nat × List Nat × List LaneWord)) : Bool :=
  flits.all (fun f => f.2.1.all (fun tl =>
    decide ((s.tile tl).ringHeld + (flits.filter (fun g => g.2.1.contains tl)).length ≤ (s.tile tl).ringSize)))

/-- Lane words in flits of four. -/
def inFlits : Nat → List LaneWord → List (List LaneWord)
  | 0, _ => []
  | n + 1, ws => if ws = [] then [] else ws.take 4 :: inFlits n (ws.drop 4)

/-- The words of a surface patch read through the cache at the present instant (R52): a header with the cold flag (R51), the corner, the
read stamp and the size, then two entries a word, row by row. The spec gives no layout (log entry 47). -/
def State.patchWords (s : State) (r : Patch) : List LaneWord :=
  let p := r.port.val
  let none_ : Packet := Packet.opened 0 0 0 false (s.port p).timing
  let entry := fun (i : Nat) =>
    if i < r.w * r.h ∧ s.onSurface p (r.x + i % r.w) (r.y + i / r.w) then s.surfEntry none_ (s.surfAddr p (r.x + i % r.w) (r.y + i / r.w)) else 0
  let head := [eventLane p (bnat (s.on (Ob.coldFlag p))) r.x r.y s.time, BitVec.ofNat 64 (put 16 16 r.w + put 0 16 r.h)]
  (head ++ (List.range ((r.w * r.h + 1) / 2)).map (fun i => BitVec.ofNat 64 (entry (2 * i) + entry (2 * i + 1) * 2 ^ 32))).map
    (fun w => ⟨2, w, (s.port p).ringNext, s.time⟩)

/-- A surface patch sent to the subscriptions that take patches of its port, where every tile addressed has the credits (R52, R97, R98). -/
def State.sendPatch (s : State) (r : Patch) : State :=
  let ws := s.patchWords r
  let flits := (inFlits ws.length ws).flatMap (fun f => s.flitsOf r.port f)
  if s.nat (Ob.portState r.port) ≠ 0 ∧ s.surfFormat r.port ≠ 2 ∧ flits ≠ [] ∧ s.creditsFor flits then
    (flits.foldl (fun s f => f.2.1.foldl (fun s tl => s.deliverTo f.2.2 tl) s) s).progress 65
  else s

/-- A context's logical time starts at the stamp of its first delivered event (R127). -/
def State.startLogical (s : State) (n : Nat) (ws : List LaneWord) : State :=
  match (s.ctx n).logical, ws.find? (fun w => w.kind == 0) with
  | none, some w =>
    let st := nearestStamp s.time (w.word.toNat % 2 ^ 37)
    (s.modCtx n (fun c => { c with logical := some st })).setNat (Ob.logicalTime n) st
  | _, _ => s

/-- The port whose turn it is: the first with an item, from the round-robin place on (R60). -/
def State.deliveryPort (s : State) : Option Nat :=
  ((List.range 4).map (fun i => (s.gate.rr + i) % 4)).find? (fun p => (s.port p).queue != [])

/-- One more drop of a parity error reported before the first event of a list of lane words: in the GAP marker that already stands there,
else in a new one (R58, R60); none where the list has neither. -/
def noteParity (p : Nat) : List LaneWord → Option (List LaneWord)
  | [] => none
  | w :: ws =>
    if isMarker w 2 then
      some ({ w with word := gapMarker p (Nat.lor (field w.word.toNat 32 5) gapParity) (field w.word.toNat 0 32 + 1) } :: ws)
    else if w.kind = 0 then some (gapWords p gapParity 1 w.recNum w.stamp ++ w :: ws)
    else (noteParity p ws).map (w :: ·)

/-- The front item of a port's intake queue discarded for a parity error and reported before the next delivered event (R60). -/
def State.parityFront (s : State) (p : Nat) : State :=
  let q := s.port p
  let rest := q.queue.drop 1
  match noteParity p rest, noteParity p q.backlog with
  | some ws, _ => ((s.portCount p 13 1).modPort p (fun q => refill { q with queue := ws })).raise 0x0106 p
  | none, some bs => ((s.portCount p 13 1).modPort p (fun q => refill { q with queue := rest, backlog := bs })).raise 0x0106 p
  | none, none => (s.modPort p (fun q => refill { q with queue := rest })).parityDrop p

/-- GATE_DELIVERY_FLIT: up to four lane words of one port go to every subscription that takes them, once every tile
addressed has a credit (R60, R97, R98); a parity error on read discards the item (R60). A surface patch is
read at this instant (R52). -/
def execGateDeliveryFlit (t : Nat) (turn : DeliveryTurn) (s0 : State) : Host.Outcome State Fault Refusal :=
  let s := s0.advance t
  match turn, s.deliveryPort with
  | .patch r, _ => ok (s.sendPatch r)
  | .queue _, none => ok s
  | .queue parityError, some p =>
    if parityError then
      ok (s.parityFront p)
    else
      let ws := (s.port p).queue.take 4
      let flits := s.flitsOf p ws
      if s.creditsFor flits then
        let s1 := flits.foldl (fun s f => f.2.1.foldl (fun s tl => s.deliverTo f.2.2 tl) (s.startLogical f.1 f.2.2)) s
        let s2 := s1.modPort p (fun q => refill { q with queue := q.queue.drop 4 })
        ok ({ s2 with gate := { s2.gate with rr := (p + 1) % 4 } }.progress 65)
      else ok s

/-! ## The I3C controller and the trigger inputs -/

/-- Transfer Status with its pending count (R34). -/
def transferStatus (pending result source completed : Nat) : Nat :=
  put 28 4 pending + put 24 4 result + put 23 1 source + put 0 16 completed

/-- A transfer put into a port's I3C queue (R34). -/
def State.submitI3c (s : State) (p : Nat) (biasLoop : Bool) (bytes : List Byte) : State :=
  let st := s.nat (Ob.transferStatus p)
  let n := (s.port p).i3c.length + 1
  (s.modPort p (fun q => { q with i3c := q.i3c ++ [⟨biasLoop, bytes⟩] })).setNat (Ob.transferStatus p)
    (transferStatus n (field st 24 4) (field st 23 1) (field st 0 16))

/-- I3C_TRANSFER_COMPLETE: the transfer at the front of the queue ends with its result; a host transfer's read data is
held (R34), and after a bias transfer the port's hot-pixel and refractory windows begin anew (R263). -/
def execI3cTransferComplete (t : Nat) (p : Fin 4) (result : Fin 4) (data : List Byte) (s0 : State) :
    Host.Outcome State Fault Refusal :=
  let s := s0.advance t
  match (s.port p).i3c with
  | [] => ok s
  | tr :: rest =>
    let st := s.nat (Ob.transferStatus p)
    let s1 := (s.modPort p (fun q => { q with i3c := rest })).setNat (Ob.transferStatus p)
      (transferStatus rest.length result (bnat tr.biasLoop) (field st 0 16 + 1))
    if tr.biasLoop then
      ok (s1.modPort p (fun q => { q with hot := [], hotWindow := s.nat (Ob.hotWindow p), hotFrom := s.time, learn := List.replicate 16 0, learnFrom := s.time }))
    else ok (s1.setDom (Ob.transferReadData p) (padTo 32 (data.take (leAt tr.bytes 2 1))))

/-- IN_BAND_INTERRUPT: the latest interrupt and a count are recorded, and nothing else is done (R34). -/
def execInBandInterrupt (t : Nat) (p : Fin 4) (addr : BitVec 7) (payload : List Byte) (s0 : State) :
    Host.Outcome State Fault Refusal :=
  let s := s0.advance t
  let n := satNat 65535 (field (s.nat (Ob.inbandInterrupt p)) 0 16 + 1)
  let pl := payload.take 4
  ok (s.setNat (Ob.inbandInterrupt p) (put 56 7 addr.toNat + put 53 3 pl.length + put 16 32 (ofBeBytes (padTo 4 pl)) + n))

/-- The rules that T `n` arms, evaluated (R63, R64). -/
def State.evalArmed (s : State) (n : Nat) : State :=
  s.evalRules (ruleNumbers.filter (fun r => decide (s.nat (Ob.arm r) = n + 1) || decide (s.nat (Ob.arm r) = n + 5))) s.time none false

/-- Trigger Enable: a disabled input reads as low, an enabled one as its pin; a change is an evaluation moment of the rules it
arms (R356, R63). -/
def State.applyTriggerEnable (s : State) (n v : Nat) : State :=
  let level := bnat (decide (v = 1) && s.inputs.pins.get false n)
  let s1 := s.setAll [(Ob.triggerEnable n, v), (Ob.triggerLevel n, level)]
  if s.nat (Ob.triggerLevel n) = level then s1 else s1.evalArmed n

/-- TRIGGER_INPUT_EDGE: the level at an input's pin changes and stands for `stable` INTAKE cycles; it is accepted where that is at
least Trigger Glitch Filter. Where the input is enabled, TRIGGER markers with source 1 go to
the STREAMING ports of its route, and rules armed by it are evaluated (R356, R64). Each such port's ring holds the marker as a trigger
record (Table 2-8, log entry 83). -/
def execTriggerInputEdge (t : Nat) (n : Fin 4) (level : Level) (s0 : State) : Host.Outcome State Fault Refusal :=
  let accepted := decide (s0.nat (Ob.triggerGlitchFilter n) ≤ level.stable)
  let s := if accepted then { s0.advance t with inputs := { s0.inputs with pins := s0.inputs.pins.set n level.high } } else s0.advance t
  if !accepted ∨ !s.on (Ob.triggerEnable n) then ok s
  else
    let s1 := (s.setNat (Ob.triggerLevel n) (bnat level.high)).count 64 (Ob.triggerEdges n) 1
    let ports := (List.range 4).filter (fun p => bitAt (s.nat (Ob.triggerRoute n)) p && decide (s.nat (Ob.portState p) = 2))
    let s2 := ports.foldl (fun s p =>
      let m := triggerMarker p 1 n (bnat level.high) s.time
      (s.appendRing p s.time true 0 0 4 (leBytes 8 m.toNat)).releaseTrigger p m s.time (s.port p).ringNext) s1
    ok (s2.evalArmed n)

/-! ## Effects of writes -/

/-- Port Enable (R33, R34, R42, R45, R50, R56): 1 starts a disabled port in WAIT_SYNC with everything at its start, but for
its ring and the items its intake queue still holds, which no rule drops (R58); 0 disables it. -/
def State.applyPortEnable (s : State) (p v : Nat) : State :=
  if v = 1 then
    if s.on (Ob.portEnable p) then s
    else
      let s1 := (s.setAll [(Ob.portEnable p, 1), (Ob.portState p, 1), (Ob.keepFraction p, 256), (Ob.rateTrim p, 0),
        (Ob.coldFlag p, 1), (Ob.hotPixelCount p, 0)]).modPort p (fun q =>
          { SensorPort.init with
              ring := q.ring, ringNext := q.ringNext, ringOff := q.ringOff, i3c := q.i3c, derot := q.derot,
              queue := q.queue, backlog := q.backlog, gap := q.gap, gapReasons := q.gapReasons, lastEpoch := q.lastEpoch,
              capSlot := q.capSlot, capCount := q.capCount,
              hotWindow := s.nat (Ob.hotWindow p), hotFrom := s.time, learnFrom := s.time, biasFrom := s.time,
              i3cAddressed := s.on (Ob.i3cBusMode p) })
      { s1 with heldNum := s1.heldNum.del (Ob.rateTrim p) }.clearSurface p
  else
    ((s.closeEdges p).setAll [(Ob.portEnable p, 0), (Ob.portState p, 0)]).modPort p (fun q =>
      { q with packet := none, anchor := none, coldRunning := false, i3cAddressed := false })

/-- Port Command 1: a LOST port returns to STREAMING (R57). -/
def State.applyClearLost (s : State) (p : Nat) : State := s.setNat (Ob.portState p) 2

/-- Port Command 2: a re-anchor at the next event (R43). -/
def State.applyReAnchor (s : State) (p : Nat) : State := s.modPort p (fun q => { q with anchor := none })

/-- Whether an I3C Transfer is in range (R34). -/
def i3cOk (bs : List Byte) : Bool :=
  let wl := leAt bs 1 1
  let rl := leAt bs 2 1
  decide (4 ≤ bs.length ∧ leAt bs 0 1 < 128 ∧ wl ≤ 60 ∧ rl ≤ 32 ∧ leAt bs 3 1 = 0 ∧ (wl ≠ 0 ∨ rl ≠ 0) ∧ bs.length = 4 + wl)

/-- Whether two bit fields overlap; an empty field overlaps nothing. -/
def overlap (a la b lb : Nat) : Bool := decide (0 < la ∧ 0 < lb ∧ a < b + lb ∧ b < a + la)

/-- Whether one extractor descriptor is in range (R37, Table 2-3). -/
def extractorOk (bits : Nat) (d : Extractor) : Bool :=
  let trig := if d.kind = 3 then 4 else 0
  let fs := [(d.xPos, d.xLen), (d.yPos, d.yLen), (d.pPos, d.pLen), (d.tPos, d.tLen), (d.trigPos, trig)]
  decide (d.kind ≤ 4 ∧ d.xLen ≤ 12 ∧ d.yLen ≤ 12 ∧ d.pLen ≤ 1 ∧ d.tLen ≤ 36 ∧ d.tShift ≤ 35 ∧ d.reserved = 0
      ∧ (d.kind ≠ 1 ∨ d.tShift = 0)) &&
    fs.all (fun f => decide (f.2 = 0 ∨ f.1 + f.2 ≤ bits)) &&
    (List.range 5).all (fun i => (List.range i).all (fun j =>
      let a := nth (0, 0) fs i
      let b := nth (0, 0) fs j
      !overlap a.1 a.2 b.1 b.2))

/-- Whether a Field Extractor is in range (R37). -/
def fieldExtractorOk (bs : List Byte) : Bool :=
  let bits := leAt bs 17 1
  (decide (bits = 16 ∨ bits = 32 ∨ bits = 64) || bs.all (· == 0)) && (List.range 4).all (fun i => extractorOk bits (extractorAt bs i))

end Sys2Proof.Machine
end

