-- ==== Sys2Proof/Machine/Queues.lean ====
section
/-! DEFINITION. Result queues (R309 to R315), provocation units (R321, R322). -/

namespace Sys2Proof.Machine

/-! ## CRC-32 -/

/-- One bit of the reflected CRC-32 of IEEE 802.3. -/
def crcBit (c : Nat) : Nat := if c % 2 = 1 then (c / 2) ^^^ 0xEDB88320 else c / 2

/-- Eight bits. -/
def crcByte (c : Nat) (b : Byte) : Nat := (List.range 8).foldl (fun c _ => crcBit c) (c ^^^ b.toNat)

/-- The CRC-32 of IEEE 802.3 (R315, R282). -/
def crc32 (bs : List Byte) : Nat := (bs.foldl crcByte 0xFFFFFFFF) ^^^ 0xFFFFFFFF

/-- The recurrence of R119. -/
def xorshift (g : BitVec 64) : BitVec 64 :=
  let a := g ^^^ (g <<< 13)
  let b := a ^^^ (a >>> 7)
  b ^^^ (b <<< 17)

/-! ## Result queues -/

/-- A result queue. -/
def State.queue (s : State) (q : Nat) : ResultQueue := s.queues.results.get ResultQueue.init q

/-- A result queue changed. -/
def State.modQueue (s : State) (q : Nat) (f : ResultQueue → ResultQueue) : State :=
  { s with queues := { s.queues with results := s.queues.results.upd ResultQueue.init q f } }

/-- The bytes of a batch. -/
def Batch.size (b : Batch) : Nat := sumNat (b.records.map List.length)

/-- The closed bytes not yet read. -/
def ResultQueue.closedBytes (r : ResultQueue) : Nat := sumNat (r.closed.map Batch.size) - r.readOff

/-- The bytes a queue holds (R310, R312). -/
def ResultQueue.fillBytes (r : ResultQueue) : Nat :=
  r.closedBytes + (match r.open_ with
    | some b => b.size
    | none => 0)

/-- The size of a queue in bytes. -/
def State.queueBytes (s : State) (q : Nat) : Nat := s.nat (Ob.queueSize q) * 1024

/-- The header of Table 12-2 with a payload, the trailer of R315 where asked, and the padding. -/
def recordBytes (q seq : Nat) (crc : Bool) (p : ResultPost) : List Byte :=
  let payload := padTo (roundUp p.payload.length 16) p.payload
  let h := put 64 64 p.stamp + put 48 16 seq + put 32 16 payload.length + put 28 4 p.kind + put 24 4 q
    + put 19 1 (bnat crc) + put 16 3 p.flags
  let body := leBytes 16 h ++ payload
  let full := if crc then body ++ leBytes 16 (put 96 32 (crc32 body)) else body
  padTo (roundUp full.length 64) full

/-- The open batch closed (R311). -/
def ResultQueue.close (r : ResultQueue) : ResultQueue :=
  match r.open_ with
  | some b => { r with open_ := none, closed := r.closed ++ [b] }
  | none => r

/-- The open batch of a queue closed. -/
def State.closeBatch (s : State) (q : Nat) : State := s.modQueue q ResultQueue.close

/-- How many records of a list a reader has not wholly read after `n` bytes. -/
def unreadRecords : List (List Byte) → Nat → Nat
  | [], _ => 0
  | r :: rs, n => (if n < r.length then 1 else 0) + unreadRecords rs (n - r.length)

/-- The oldest closed batches discarded until `size` bytes fit in `cap`, with the count of records lost; the open batch
goes last (R310). The fuel is the number of batches. -/
def discardOldest (cap size : Nat) : Nat → ResultQueue → Nat → ResultQueue × Nat
  | 0, r, n => (r, n)
  | fuel + 1, r, n =>
    if r.fillBytes + size ≤ cap then (r, n)
    else match r.closed with
      | b :: bs => discardOldest cap size fuel { r with closed := bs, readOff := 0 } (n + unreadRecords b.records r.readOff)
      | [] => match r.open_ with
        | some b => ({ r with open_ := none }, n + b.records.length)
        | none => (r, n)

/-- Records counted as discarded, with notice 0x0A01 at most once per millisecond (R310). -/
def State.noteDiscards (s : State) (q n : Nat) : State :=
  if n = 0 then s
  else
    let s1 := (s.count 64 (Ob.recordsDiscarded q) n).modQueue q (fun r => { r with discarded := true })
    match (s.queue q).dropAt with
    | some t =>
      if s.time < t + 1000000 then s1
      else (s1.modQueue q (fun r => { r with dropAt := some s.time })).raise 0x0A01 q
    | none => (s1.modQueue q (fun r => { r with dropAt := some s.time })).raise 0x0A01 q

/-- A queue no longer full: its hold time is counted in µs. -/
def State.endFull (s : State) (q : Nat) : State :=
  match (s.queue q).fullAt with
  | some t => (s.count 64 (Ob.holdTime q) ((s.time - t) / 1000)).modQueue q (fun r => { r with fullAt := none, stallNoted := false })
  | none => s

/-- A record put into the open batch, or into a new one (R311). -/
def ResultQueue.add (r : ResultQueue) (now limit tail : Nat) (rec_ : List Byte) : ResultQueue :=
  let fresh : Batch := ⟨[rec_], now, limit, tail⟩
  match r.open_ with
  | some b =>
    if b.size + rec_.length ≤ b.limit then { r with open_ := some { b with records := b.records ++ [rec_] } }
    else { r.close with open_ := some fresh }
  | none => { r with open_ := some fresh }

/-- A record accepted into queue `q` (R309). -/
def State.acceptRecord (s : State) (q : Nat) (rec_ : List Byte) : State :=
  let s1 := s.modQueue q (fun r =>
    { r.add s.time (s.nat (Ob.batchSize q)) (s.nat (Ob.tailTimeout q)) rec_ with seq := (r.seq + 1) % 65536 })
  (s1.count 64 (Ob.recordsPosted q) 1).setNat (Ob.nextSequence q) ((s1.queue q).seq)

/-- A post entered as a record: HOLD keeps it out of a full queue, DROP_OLDEST makes room (R310). Answers whether the post
has gone. -/
def State.enterRecord (s : State) (q : Nat) (p : ResultPost) : Bool × State :=
  let r := s.queue q
  let rec_ := recordBytes q r.seq (s.on (Ob.resultCrcEnable q)) p
  if r.fillBytes + rec_.length ≤ s.queueBytes q then (true, (s.endFull q).acceptRecord q rec_)
  else if s.nat (Ob.overflowPolicy q) = 0 ∧ q ≠ 8 then
    match r.fullAt with
    | some _ => (false, s)
    | none => (false, (s.modQueue q (fun r => { r with fullAt := some s.time })).raise 0x0A02 q)
  else
    let d := discardOldest (s.queueBytes q) rec_.length (r.closed.length + 1) r 0
    let s1 := (((s.endFull q).modQueue q (fun x => { d.1 with fullAt := x.fullAt, stallNoted := x.stallNoted }))).noteDiscards q d.2
    (true, s1.acceptRecord q rec_)

/-- A queue emptied: at LOADED, UNLOAD and a die reset (R309, R313). -/
def State.emptyQueue (s : State) (q : Nat) : State :=
  (s.modQueue q (fun _ => ResultQueue.init)).setNat (Ob.nextSequence q) 0

/-- The records of a queue not wholly read. -/
def ResultQueue.unread (r : ResultQueue) : Nat :=
  unreadRecords ((r.closed.map (·.records)).flatten) r.readOff + (match r.open_ with
    | some b => b.records.length
    | none => 0)

/-- Queue 8 at entry into RUN: its unread records are discarded and counted, and it is emptied (R309, R312, R313). -/
def State.startQueue8 (s : State) : State :=
  let n := (s.queue 8).unread
  ((s.count 64 (Ob.recordsDiscarded 8) n).emptyQueue 8).modQueue 8 (fun r => { r with discarded := decide (n ≠ 0) })

/-- The snapshots on their way to queue 8 put into it, in order: part of leaving RUN (R327). -/
def State.settleQueue8 (s : State) : State :=
  (s.queue 8).posts.foldl (fun s p => (s.enterRecord 8 p).2) (s.modQueue 8 (fun r => { r with posts := [] }))

/-- A post whose write neither the Exchange's share nor spare bandwidth takes within 2 µs, treated as one that finds its queue full: queue 8
discards it with its sequence number, HOLD keeps it, DROP_OLDEST gives up its oldest batch (R26, R310). -/
def State.refuseRecord (s : State) (q : Nat) (p : ResultPost) : Bool × State :=
  let r := s.queue q
  if q = 8 then
    let n := (r.seq + 1) % 65536
    (true, ((s.modQueue q (fun x => { x with seq := n })).setNat (Ob.nextSequence q) n).noteDiscards q 1)
  else if s.nat (Ob.overflowPolicy q) = 0 then
    match r.fullAt with
    | some _ => (false, s)
    | none => (false, (s.modQueue q (fun r => { r with fullAt := some s.time })).raise 0x0A02 q)
  else
    let d := discardOldest 0 1 1 r 0
    ((s.modQueue q (fun _ => d.1)).noteDiscards q d.2).enterRecord q p

/-- The open batch closed once the Tail Timeout it keeps has passed; a timeout that expires with the arrival of a PULL or a record takes
effect first (R311). -/
def State.expireTail (s : State) (q : Nat) : State :=
  match (s.queue q).open_ with
  | some b => if b.openedAt + 1000 * b.tail ≤ s.time then s.closeBatch q else s
  | none => s

/-- RESULT_RECORD_ENTRY: the oldest post on its way to a queue enters it (R309, R310, R311), where bandwidth
takes its write within 2 µs (R26). -/
def execResultRecordEntry (t : Nat) (w : RecordWrite) (s0 : State) : Host.Outcome State Fault Refusal :=
  let q := w.queue.val
  let s := (s0.advance t).expireTail q
  match (s.queue q).posts with
  | [] => ok s
  | p :: ps =>
    let r := if w.taken then s.enterRecord q p else s.refuseRecord q p
    if s.fenced then ok s
    else if r.1 then ok (r.2.modQueue q (fun x => { x with posts := ps })) else ok r.2

/-- BATCH_TAIL_TIMEOUT: the open batch closes once the Tail Timeout it keeps has passed (R311). -/
def execBatchTailTimeout (t : Nat) (q : Fin 9) (s0 : State) : Host.Outcome State Fault Refusal :=
  ok ((s0.advance t).expireTail q)

/-- Whether a queue is still full for the oldest post on its way to it (R310). -/
def State.stillFull (s : State) (q : Nat) : Bool :=
  match (s.queue q).posts with
  | p :: _ => decide (s.queueBytes q < (s.queue q).fillBytes + (recordBytes q (s.queue q).seq (s.on (Ob.resultCrcEnable q)) p).length)
  | [] => false

/-- QUEUE_STALL_NOTICE: notice 0x0A03 once for a queue full for Stall Notice Time (R308). -/
def execQueueStallNotice (t : Nat) (q : Fin 9) (s0 : State) : Host.Outcome State Fault Refusal :=
  let s := s0.advance t
  match (s.queue q).fullAt with
  | some t0 =>
    if (s.queue q).stallNoted ∨ !s.stillFull q ∨ s.time < t0 + 1000000 * s.nat (Ob.stallNoticeTime q) then ok s
    else ok ((s.modQueue q (fun r => { r with stallNoted := true })).raise 0x0A03 q)
  | none => ok s

/-- The Reader in force: a change takes effect at a batch boundary (R314). -/
def State.readerInForce (s : State) (q : Nat) : Nat :=
  if (s.queue q).readOff = 0 then s.nat (Ob.reader q) else (s.queue q).reader

/-- A read of at most `n` bytes of a queue: the flags word of R312, the payload, and the state after (R312, R313). -/
def State.readQueue (s : State) (q n : Nat) : Nat × List Byte × State :=
  let r := s.queue q
  match r.closed with
  | [] =>
    (put 0 1 1 + put 2 1 (bnat r.discarded), r.prev,
      (s.count 64 (Ob.underruns q) 1).modQueue q (fun r => { r with discarded := false }))
  | b :: bs =>
    let bytes := (b.records.flatten.drop r.readOff).take n
    let atEnd := decide (b.size ≤ r.readOff + bytes.length)
    let r1 : ResultQueue := { r with closed := if atEnd then bs else b :: bs,
                                     readOff := if atEnd then 0 else r.readOff + bytes.length, prev := bytes,
                                     discarded := false, reader := s.readerInForce q }
    (put 1 1 (bnat atEnd) + put 2 1 (bnat r.discarded) + put 8 24 (satNat 0xFFFFFF (r1.closedBytes / 64)), bytes,
      s.modQueue q (fun _ => r1))

/-! ## Provocation -/

/-- A provocation unit. -/
def State.prov (s : State) (i : Nat) : ProvUnit := s.queues.prov.get ProvUnit.init i

/-- A provocation unit changed. -/
def State.modProv (s : State) (i : Nat) (f : ProvUnit → ProvUnit) : State :=
  { s with queues := { s.queues with prov := s.queues.prov.upd ProvUnit.init i f } }

/-- A unit enabled: ordinal 0, generator seeded, nothing held (R322). -/
def State.armProv (s : State) (i : Nat) : State :=
  s.modProv i (fun _ => { ProvUnit.init with gen := BitVec.ofNat 64 (s.nat (Ob.provocationSeed i)) })

/-- Corrupt Mask XORed into the 8 bytes at Pattern Offset that exist (R322). -/
def corruptItem (mask off : Nat) (it : ProvItem) : ProvItem :=
  { it with bytes := (List.range it.bytes.length).map (fun k =>
      let b := it.bytes.getD k 0
      if off ≤ k ∧ k < off + 8 then b ^^^ (leBytes 8 mask).getD (k - off) 0 else b) }

/-- Held items after one more item has passed: those whose count is used up leave, in order (R322). -/
def passHeld (held : List HeldItem) : List ProvItem × List HeldItem :=
  let aged := held.map (fun h => { h with left := h.left - 1 })
  ((aged.filter (fun h => h.left == 0)).map (·.item), aged.filter (fun h => h.left != 0))

/-- The bytes a unit holds. -/
def heldBytes (held : List HeldItem) : Nat := sumNat (held.map (fun h => h.item.bytes.length))

/-- Whether the trigger of a unit selects an item (R322). -/
def State.provSelects (s : State) (i : Nat) : Bool :=
  let u := s.prov i
  if s.nat (Ob.trigger i) = 0 then (u.ordinal + 1) % s.nat (Ob.period i) == 0
  else decide ((xorshift u.gen).toNat < 2 ^ (64 - s.nat (Ob.probabilityExponent i)))

/-- One action made: counted, and taken from Count Remaining, which ends the provocation when it reaches 0 (R322). -/
def State.provActed (s : State) (i : Nat) : State :=
  let left := s.nat (Ob.countRemaining i)
  let s1 := s.count 64 (Ob.actionsTaken i) 1
  if left = 0 then s1
  else
    let s2 := s1.setNat (Ob.countRemaining i) (left - 1)
    if left = 1 then s2.setNat (Ob.provocationEnable i) 0 else s2

/-- PROVOCATION_ITEM: an item passes a unit, which drops, corrupts, swaps or delays the items its trigger selects
(R321, R322). -/
def execProvocationItem (t : Nat) (i : Fin 8) (item : ProvItem) (s0 : State) : Host.Outcome State Fault Refusal :=
  let s := s0.advance t
  let u := s.prov i
  let counted := decide (i.val < 4) || bitAt (s.nat (Ob.classMask i)) item.cls.val
  if !counted then ok (s.modProv i (fun u => { u with released := [item] }))
  else if !s.on (Ob.provocationEnable i) then
    let h := passHeld u.held
    ok (s.modProv i (fun u => { u with held := h.2, released := item :: h.1 }))
  else
    let s1 := s.modProv i (fun u => { u with ordinal := u.ordinal + 1, gen := if s.nat (Ob.trigger i) = 0 then u.gen else xorshift u.gen })
    let h := passHeld u.held
    if !s.provSelects i then ok (s1.modProv i (fun u => { u with held := h.2, released := item :: h.1 }))
    else match s.nat (Ob.action i) with
      | 0 => ok ((s1.modProv i (fun u => { u with held := h.2, released := h.1 })).provActed i)
      | 1 =>
        let it := corruptItem (s.nat (Ob.corruptMask i)) (s.nat (Ob.patternOffset i)) item
        ok ((s1.modProv i (fun u => { u with held := h.2, released := it :: h.1 })).provActed i)
      | a =>
        if 65536 < heldBytes h.2 + item.bytes.length then
          ok (s1.modProv i (fun u => { u with held := h.2, released := item :: h.1 }))
        else
          let wait := if a = 2 then 1 else s.nat (Ob.delay i)
          ok ((s1.modProv i (fun u => { u with held := h.2 ++ [⟨item, wait, a == 2, s.time⟩], released := h.1 })).provActed i)

/-- PROVOCATION_SWAP_TIMEOUT: no item came within 10 µs, and the swapped item is released alone (R322). -/
def execProvocationSwapTimeout (t : Nat) (i : Fin 8) (s0 : State) : Host.Outcome State Fault Refusal :=
  let s := s0.advance t
  let out := fun (h : HeldItem) => h.swap && decide (h.since + 10000 ≤ s.time)
  if (s.prov i).held.any out then
    ok (s.modProv i (fun u => { u with held := u.held.filter (fun h => !out h), released := (u.held.filter out).map (·.item) }))
  else ok s

/-- The held items of a port that goes DOWN or is disabled are discarded (R322). -/
def State.dropHeld (s : State) (i : Nat) : State := s.modProv i (fun u => { u with held := [] })

/-- Every Provocation Enable cleared: at a die reset, at power-up, and on entering the certified configuration (R323). -/
def State.clearProvocation (s : State) : State :=
  (List.range 8).foldl (fun s i => (s.setNat (Ob.provocationEnable i) 0).dropHeld i) s

end Sys2Proof.Machine
end

