-- ==== Sys2Proof/Machine/MarketOps.lean ====
section
/-! DEFINITION. What the tiles share: contexts and their partitions (R125 to R128), sync objects and posts (R112 to R115),
transactions and the DRAM firewall (R108 to R110, R413). -/

namespace Sys2Proof.Machine

/-! ## Contexts and partitions -/

/-- The context of a tile, 0xFF for none. -/
def State.tileCtx (s : State) (t : Nat) : Nat := s.nat (Ob.tileContext t)

/-- The tiles of a context's partition (R125). -/
def State.ctxTiles (s : State) (n : Nat) : List Nat := partTiles (s.ctx n)

/-- Whether a tile may execute: its context runs and has no weights being swapped and no image being rewritten. -/
def State.tileRuns (s : State) (t : Nat) : Bool :=
  let n := s.tileCtx t
  decide (n < 8) && s.ctxState n = 2 && !(s.ctx n).swapping && !(s.ctx n).rewriting

/-- Tile State of every tile of a context (Table 4-10). -/
def State.setTileStates (s : State) (n v : Nat) : State :=
  (s.ctxTiles n).foldl (fun s t => s.setNat (Ob.tileState t) v) s

/-- Every tile of a context changed. -/
def State.modTiles (s : State) (n : Nat) (f : Tile → Tile) : State :=
  (s.ctxTiles n).foldl (fun s t => s.modTile t f) s

/-- Whether a context has neurons (R186). -/
def State.spiking (s : State) (n : Nat) : Bool :=
  (s.ctxTiles n).any (fun t => decide (0 < s.nat (Ob.tileNeuronsResident t)))

/-- Whether every outstanding transaction of a partition has ended. -/
def State.quiet (s : State) (n : Nat) : Bool :=
  (s.ctxTiles n).all (fun t => (s.tile t).trans == [] && (s.tile t).unit_.misses == [])

/-- The tiles of a PAUSED or LOADED context have stopped: a pending WAIT is abandoned (R115, Table 4-8). -/
def State.stopTiles (s : State) (n tileState : Nat) : State :=
  (s.modTiles n (fun tl => { tl with hold := .none, asleep := false, wake := false })).setTileStates n tileState

/-- A context leaves RUNNING (R17, R311): the levels its tiles post end and its open batch closes. -/
def State.leaveRunning (s : State) (n : Nat) : State :=
  let ts := s.ctxTiles n
  (s.endTileLevels (fun t => ts.contains t)).closeBatch n

/-- A RUNNING context becomes PAUSED; its tiles stop once their outstanding transactions end (Table 4-8, R393). -/
def State.pauseContext (s : State) (n : Nat) : State :=
  let s1 := (s.leaveRunning n).setNat (Ob.contextState n) 3
  if s.quiet n then s1.stopTiles n 4 else s1.modCtx n (fun c => { c with pausing := true })

/-- A fault of a tile or of its neuron unit: logged, its code in Context Status, its context PAUSED (R128, R199). -/
def State.tileFault (s : State) (t code : Nat) : State :=
  let n := s.tileCtx t
  let s1 := s.raise code t
  if n < 8 ∧ (s.ctxState n = 2 ∨ s.ctxState n = 3) then
    let s2 := s1.setNat (Ob.contextStatus n) code
    let s3 := if code = 0x0302 ∨ code = 0x0307 then s2.modCtx n (fun c => { c with needRewrite := true }) else s2
    if s.ctxState n = 2 then s3.pauseContext n else s3
  else s1

/-! ## Sync objects (R112 to R115) -/

/-- Whether a count has reached a target (R113). -/
def syncReached (count target : Nat) : Bool := decide ((count + 2 ^ 32 - target % 2 ^ 32) % 2 ^ 32 < 2 ^ 31)

/-- The count of a sync object. -/
def Tile.obj (tl : Tile) (n : Nat) : Nat := tl.sync.get 0 n

/-- The writes of a tile that are not yet acknowledged, which a post waits for (R114). -/
def Tile.openWrites (tl : Tile) : List Nat := (tl.trans.filter (fun x => x.acc.write)).map (·.num)

/-- A post issued by a tile (R113, R114). -/
def State.sendPost (s : State) (t target count : Nat) : State :=
  let p : Post := ⟨t, target, count, (s.tile t).openWrites⟩
  { s with market := { s.market with posts := s.market.posts ++ [p] } }

/-- A post applied to its object; one outside the poster's partition is discarded with notice 0x0306, one to object 255
without (R112, R115). -/
def State.applyPost (s : State) (p : Post) : State :=
  let dst := p.target / 256
  let obj := p.target % 256
  let n := s.tileCtx p.tile
  if n < 8 ∧ (s.ctxTiles n).contains dst ∧ p.target < 16384 then
    if obj = 255 then s
    else s.modTile dst (fun tl => { tl with sync := tl.sync.set obj ((tl.obj obj + p.count) % 2 ^ 32), wake := tl.wake || tl.asleep })
  else s.raise 0x0306 p.tile

/-- The list without element `i`. -/
def dropNth {α : Type} : List α → Nat → List α
  | [], _ => []
  | _ :: l, 0 => l
  | x :: l, i + 1 => x :: dropNth l i

/-- POST_ARRIVAL: the post at place `i` among those on their way takes effect, once the writes it follows are acknowledged
and no earlier post of that tile to that tile is on its way (R114, R115, R124). -/
def execPostArrival (t : Nat) (i : Nat) (s0 : State) : Host.Outcome State Fault Refusal :=
  let s := s0.advance t
  match s.market.posts[i]? with
  | none => ok s
  | some p =>
    let earlier := (s.market.posts.take i).any (fun q => q.tile == p.tile && q.target / 256 == p.target / 256)
    if p.after ≠ [] ∨ earlier then ok s
    else ok ({ s with market := { s.market with posts := dropNth s.market.posts i } }.applyPost p)

/-- A tile that holds goes on (Table 4-10). -/
def State.endHold (s : State) (t : Nat) : State :=
  (s.modTile t (fun tl => { tl with hold := .none })).setNat (Ob.tileState t) 2

/-- A bundle of a tile holds. -/
def State.holdTile (s : State) (t : Nat) (h : Hold) : State :=
  (s.modTile t (fun tl => { tl with hold := h })).setNat (Ob.tileState t) 3

/-- WAIT_RELEASE: a held WAIT completes when its object has reached the target (R113, R114). -/
def execWaitRelease (t : Nat) (tile : Fin 64) (s0 : State) : Host.Outcome State Fault Refusal :=
  let s := s0.advance t
  match (s.tile tile).hold with
  | .wait id target => if s.tileRuns tile ∧ syncReached ((s.tile tile).obj id) target then ok (s.endHold tile) else ok s
  | _ => ok s

/-- TILE_WAKE: a post or a step interrupt has come to a sleeping tile, whose front end restarts (R129, R201). -/
def execTileWake (t : Nat) (tile : Fin 64) (s0 : State) : Host.Outcome State Fault Refusal :=
  let s := s0.advance t
  let tl := s.tile tile
  if s.tileRuns tile ∧ tl.asleep ∧ tl.wake then
    ok ((s.modTile tile (fun tl => { tl with asleep := false, wake := false })).setNat (Ob.tileState tile) 2)
  else ok s

/-! ## The DRAM firewall (R413, Table 17-3) -/

/-- Field of region `i` of the firewall. -/
def State.fwNat (s : State) (i off n : Nat) : Nat := s.domNat Ob.dramFirewall (32 * i + off) n

/-- Whether region `i` is enabled and contains the bytes from `a` on. -/
def State.fwContains (s : State) (i a n : Nat) : Bool :=
  s.fwNat i 20 1 % 2 = 1 && decide (s.fwNat i 0 8 ≤ a) && decide (a + n ≤ s.fwNat i 0 8 + s.fwNat i 8 8)

/-- Whether an access by the requester of mask bit `bit` is granted: the enabled region of highest number that contains it
decides (R413). -/
def State.fwGrants (s : State) (write : Bool) (bit a n : Nat) : Bool :=
  match ((List.range 32).reverse).find? (fun i => s.fwContains i a n) with
  | some i => bitAt (s.fwNat i (if write then 18 else 16) 2) bit
  | none => false

/-! ## Transactions (R109, R110) -/

/-- Whether an access is a transaction: 64 to 4,096 bytes, a multiple of 64, inside a 4 KiB page (R109). -/
def accessValid (a : Access) : Bool :=
  decide (64 ≤ a.bytes) && decide (a.bytes ≤ 4096) && a.bytes % 64 == 0 && decide (a.addr.toNat % 4096 + a.bytes ≤ 4096)
    && (!a.write || a.data.length == a.bytes)

/-- Outstanding Transactions of a tile: its own and its route reads (R109, R198). -/
def Tile.outstanding (tl : Tile) : Nat := tl.trans.length + tl.unit_.misses.length

/-- Outstanding Transactions shown. -/
def State.showOutstanding (s : State) (t : Nat) : State :=
  s.setNat (Ob.outstandingTransactions t) (s.tile t).outstanding

/-- The destination of a transaction for the order of R111: another module, a tile, or DRAM. -/
def accessDest (a : Access) : Nat :=
  match a.module with
  | some m => 1000 + m.toNat
  | none => match targetOf a.addr.toNat with
    | .dram => 100
    | .scratch t => t
    | .reserved => 101

/-- An address generator of a tile. -/
def Tile.ag (tl : Tile) (i : Nat) : AddrGen := tl.ags.get AddrGen.init i

/-- An address generator changed. -/
def Tile.modAg (tl : Tile) (i : Nat) (f : AddrGen → AddrGen) : Tile := { tl with ags := tl.ags.upd AddrGen.init i f }

/-- Bytes held by address, with those of a read added. -/
def holdBytes (m : SMap Byte) (a : Nat) : List Byte → SMap Byte
  | [] => m
  | b :: bs => holdBytes (m.set a b) (a + 1) bs

/-- The bytes a read brought, given to its issuer: a read generator holds them for its consumer, any other fills the
scratchpad. -/
def State.deliverRead (s : State) (t : Nat) (tr : Transaction) (data : List Byte) : State :=
  let fill := s.store (scratchAddr t tr.acc.dest.toNat) data
  match tr.issuer with
  | .ag n => if n.val < 2 then s.modTile t (fun tl => tl.modAg n (fun g => { g with fetched := holdBytes g.fetched tr.acc.addr.toNat data })) else fill
  | .scalar => fill

/-- The end of a transaction in error (R110): error bit, Transaction Error Count, and fault 0x0305 where the descriptor
asks for it or a scalar slot issued it. -/
def State.transError (s : State) (t : Nat) (iss : Issuer) : State :=
  let s1 := s.count 32 (Ob.transactionErrorCount t) 1
  match iss with
  | .scalar => s1.tileFault t 0x0305
  | .ag n =>
    let s2 := s1.modTile t (fun tl => tl.modAg n (fun g => { g with error := true }))
    match ((s.tile t).ag n).desc with
    | some d => if d.faultOnError then s2.tileFault t 0x0305 else s2
    | none => s2

/-- A transaction taken from the outstanding ones; the posts that waited for it wait no longer for it (R114). -/
def State.removeTrans (s : State) (t num : Nat) : State :=
  let s1 := s.modTile t (fun tl => { tl with trans := tl.trans.filter (fun x => x.num != num) })
  let upd := fun (p : Post) => if p.tile = t then { p with after := p.after.filter (· != num) } else p
  let s2 := { s1 with market := { s1.market with posts := s1.market.posts.map upd } }
  let s3 := s2.showOutstanding t
  if (s.tile t).hold = .transactions then s3.endHold t else s3

/-- A transaction ends: a read with its data, or with zeros where the response carries an error (R110). -/
def State.endTrans (s : State) (t : Nat) (tr : Transaction) (error : Bool) (data : List Byte) : State :=
  let s1 := s.removeTrans t tr.num
  let s2 := if tr.acc.write then s1
    else s1.deliverRead t tr (if error then List.replicate tr.acc.bytes 0 else padTo tr.acc.bytes data)
  if error then s2.transError t tr.issuer else s2

/-- The answer to a transaction of this module's own memory: a write is stored, a read brings its bytes; one to a reserved
address ends in error (R108, R110). -/
def State.answerTrans (s : State) (t : Nat) (tr : Transaction) (error : Bool) : State :=
  let a := tr.acc.addr.toNat
  let bad := error || decide (targetOf a = .reserved)
  let s1 := if tr.acc.write && !bad then s.store a tr.acc.data else s
  s1.endTrans t tr bad (Memory.readBytes s.mem a tr.acc.bytes)

/-- TRANSACTION_RESPONSE: the transaction at place `slot` among the tile's outstanding ones ends (R109, R110); one to a
reserved address ends in error (R108), one to another module ends with the messages of the Chaivo link, and none ends
before what the tile sent earlier to the same destination, transactions or spike messages of class C2, has arrived (R111, R124). -/
def execTransactionResponse (t : Nat) (tile : Fin 64) (slot : Nat) (error : Bool) (s0 : State) :
    Host.Outcome State Fault Refusal :=
  let s := s0.advance t
  match (s.tile tile).trans[slot]? with
  | none => ok s
  | some tr =>
    let earlier := ((s.tile tile).trans.take slot).any (fun x => accessDest x.acc == accessDest tr.acc)
      || s.market.spikes.any (fun m => m.fromTile == tile.val && m.tile == accessDest tr.acc && decide (m.seq < tr.seq))
    if tr.acc.module ≠ none ∨ earlier then ok s else ok (s.answerTrans tile tr error)

/-! ## SRAM errors -/

/-- A notice raised at most once per second per unit (R100). -/
def State.raiseSlowUnit (s : State) (code unit_ : Nat) : State :=
  let key := code * 256 + unit_
  let fire := { s.raise code unit_ with health := { (s.raise code unit_).health with lastNotice := s.health.lastNotice.set key s.time } }
  match s.health.lastNotice.find? key with
  | some t => if s.time < t + 1000000000 then s else fire
  | none => fire

/-- A single flipped bit in a tile's SRAM is corrected (R100). -/
def State.correctTile (s : State) (tile : Nat) : State :=
  (s.count 32 (Ob.sramCorrectedCount tile) 1).raiseSlowUnit 0x0301 tile

/-- An uncorrectable error in a store of a tile (Table 4-2): it faults the tile's context; in the route cache the line at place
4·set + way is invalidated and fetched again (R198); in the pending map the bit it finds is set, so that the slot is examined (R182);
a scalar register's parity error raises 0x0307. -/
def State.failTile (s : State) (tile : Nat) (store : TileStore) : State :=
  let s1 := s.count 32 (Ob.sramUncorrectedCount tile) 1
  match store with
  | .routeCache key =>
    let drop := fun (u : NeuronUnit) => match u.cache.find? key with
      | some l => { u with cache := u.cache.del key, misses := u.misses ++ [l.line], pinBack := if l.pinned then l.line :: u.pinBack else u.pinBack }
      | none => u
    ((s1.modTile tile (fun tl => { tl with unit_ := drop tl.unit_ })).showOutstanding tile).raiseSlowUnit 0x0301 tile
  | .pendingMap slot neuron =>
    s.modTile tile (fun tl => { tl with unit_ := { tl.unit_ with pending := tl.unit_.pending.set (8192 * slot.val + neuron.val) true } })
  | .scalarRegister => s.tileFault tile 0x0307
  | _ => s1.tileFault tile 0x0302

end Sys2Proof.Machine
end

