-- ==== Sys2Proof/Machine/Vector.lean ====
section
/-! DEFINITION. The scalar and vector slots of a bundle (R102 to R105, R117 to R121). Where the spec leaves an operation's
details to the Haleel documentation, log entry 14 says what the model does. -/

namespace Sys2Proof.Machine

/-! ## Registers (R105) -/

/-- A scalar register; g0 reads as zero. -/
def Tile.greg (tl : Tile) (r : GReg) : Word := if r = 0 then 0 else tl.g.get 0 r.val

/-- A write of a scalar register; one to g0 is discarded. -/
def Tile.setG (tl : Tile) (r : GReg) (v : Word) : Tile := if r = 0 then tl else { tl with g := tl.g.set r.val v }

/-- The 64 lanes of a vector register. -/
def Tile.vreg (tl : Tile) (r : Nat) : List Nat := padLanes (tl.v.get [] r)
where
  /-- A register never written holds zeros. -/
  padLanes (l : List Nat) : List Nat := (List.range 64).map (fun i => l.getD i 0)

/-- A write of a vector register. -/
def Tile.setV (tl : Tile) (r : Nat) (lanes : List Nat) : Tile := { tl with v := tl.v.set r lanes }

/-- The 256 bytes of a vector register. -/
def Tile.vbytes (tl : Tile) (r : Nat) : List Byte := (tl.vreg r).flatMap (leBytes 4)

/-- Whether a slot's predicate lets it execute (R102). -/
def Tile.predOn (tl : Tile) : Option GReg → Bool
  | none => true
  | some r => (tl.greg r).getLsbD 0

/-- An integer result of `w` bits: itself where it fits, else a free value (log entry 6). -/
def fitInt (op w : Nat) (x : Int) : Nat :=
  if -(2 ^ (w - 1) : Nat) ≤ x ∧ x < (2 ^ (w - 1) : Nat) then unsigned w x else unsigned w (Config.intOverflow op x w)

/-! ## Scalar slots -/

/-- The second operand of a scalar slot (Table 4-4, imm_sel). -/
def scalarB (sl : ScalarSlot) (o : Tile) : Word := if sl.immSel then sl.imm.signExtend 64 else o.greg sl.srcB

/-- The result of an arithmetic, logic or compare operation of a scalar pipe; none for the others. -/
def scalarResult (op : ScalarOp) (a b : Word) : Option Word :=
  let fit := fun (k : Nat) (x : Int) => some (BitVec.ofNat 64 (fitInt k 64 x))
  let truth := fun (c : Bool) => some (BitVec.ofNat 64 (bnat c))
  match op with
  | .add => fit 1 (a.toInt + b.toInt)
  | .sub => fit 2 (a.toInt - b.toInt)
  | .mul => fit 3 (a.toInt * b.toInt)
  | .and => some (a &&& b)
  | .or => some (a ||| b)
  | .xor => some (a ^^^ b)
  | .shl => if b.toNat < 64 then some (a <<< b.toNat) else fit 4 (a.toInt * 2 ^ 64)
  | .shr => if b.toNat < 64 then some (a >>> b.toNat) else fit 5 (a.toInt * 2 ^ 64)
  | .sar => if b.toNat < 64 then some (a.sshiftRight b.toNat) else fit 6 (a.toInt * 2 ^ 64)
  | .cmpEq => truth (a == b)
  | .cmpNe => truth (a != b)
  | .cmpLt => truth (decide (a.toInt < b.toInt))
  | .cmpLtu => truth (decide (a.toNat < b.toNat))
  | _ => none

/-- The effect of a scalar slot on registers; `o` is the tile before the bundle (R103). -/
def State.runScalar (s : State) (t : Nat) (o : Tile) (sl : ScalarSlot) : State :=
  if !o.predOn sl.pred then s
  else
    let a := o.greg sl.srcA
    let b := scalarB sl o
    match sl.op with
    | .load =>
      let v := Memory.readNat s.mem (scratchAddr t ((a + b).toNat % 0x100000)) 8
      s.modTile t (fun tl => tl.setG sl.dst (BitVec.ofNat 64 v))
    | op => match scalarResult op a b with
      | some v => s.modTile t (fun tl => tl.setG sl.dst v)
      | none => s

/-- The store of slot 0, made after every read of the bundle and after the write of ag2 (R101, R103). -/
def State.runStore (s : State) (t : Nat) (o : Tile) (sl : ScalarSlot) : State :=
  if o.predOn sl.pred ∧ sl.op = .store then
    s.store (scratchAddr t ((o.greg sl.srcA + scalarB sl o).toNat % 0x100000)) (leBytes 8 (o.greg sl.dst).toNat)
  else s

/-! ## Elements of a vector register (R105, Table 4-4) -/

/-- The element width of a type. -/
def typeWidth (ty : Nat) : Nat :=
  match ty with
  | 0 => 8
  | 1 => 16
  | 3 => 16
  | 5 => 8
  | 6 => 8
  | _ => 32

/-- The floating format of a type. -/
def typeFormat (ty : Nat) : Option FFormat :=
  match ty with
  | 3 => some bf16
  | 4 => some fp32
  | 5 => some e4m3
  | 6 => some e5m2
  | _ => none

/-- The elements of lanes at a width, lowest first. -/
def elements (w : Nat) (lanes : List Nat) : List Nat :=
  lanes.flatMap (fun l => (List.range (32 / w)).map (fun j => field l (j * w) w))

/-- Lanes made of elements. -/
def packElems (w : Nat) (es : List Nat) : List Nat :=
  (List.range 64).map (fun i =>
    sumNat ((List.range (32 / w)).map (fun j => (es.getD (i * (32 / w) + j) 0) % 2 ^ w * 2 ^ (w * j))))

/-- A lane mask: g0 enables every lane (Table 4-4). -/
def Tile.laneMask (o : Tile) (r : GReg) : Word := if r = 0 then BitVec.allOnes 64 else o.greg r

/-- The enabled lanes of `new`, the others of `old`. -/
def maskLanes (m : Word) (old new : List Nat) : List Nat :=
  (List.range 64).map (fun i => if m.getLsbD i then new.getD i 0 else old.getD i 0)

/-- A floating result in a format: FP8 saturates, BF16 and FP32 give infinities (R117, R118). -/
def FFormat.result (f : FFormat) (v : FVal) : Nat := f.encode .nearest (decide (f.ebits < 8)) v

/-- One element of an elementwise operation of a type. -/
def elemOp (op : VectorOp) (ty a b c : Nat) : Nat :=
  let w := typeWidth ty
  match typeFormat ty with
  | some f =>
    let x := f.decode a
    let y := f.decode b
    let nan := x == .nan || y == .nan
    let open_ := fun (k : Nat) => Config.specialFunction k (a * 2 ^ 32 + b) % 2 ^ w
    match op with
    | .add => f.result (x.add y)
    | .sub => f.result (x.add y.neg)
    | .mul => f.result (x.mul y)
    | .min => if nan then open_ 16 else if y.lt x then b else a
    | .max => if nan then open_ 17 else if x.lt y then b else a
    | .absDiff => f.result (x.add y.neg).abs
    | .and => a &&& b
    | .or => a ||| b
    | .xor => a ^^^ b
    | .cmpEq => bnat (!nan && !x.lt y && !y.lt x)
    | .cmpGt => bnat (y.lt x)
    | .cmpGe => bnat (!nan && !x.lt y)
    | .select => if c = 0 then b else a
    | _ => 0
  | none =>
    let x := signed w a
    let y := signed w b
    match op with
    | .add => fitInt 1 w (x + y)
    | .sub => fitInt 2 w (x - y)
    | .mul => fitInt 3 w (x * y)
    | .min => if y < x then b else a
    | .max => if x < y then b else a
    | .absDiff => fitInt 7 w ((x - y).natAbs : Int)
    | .and => a &&& b
    | .or => a ||| b
    | .xor => a ^^^ b
    | .cmpEq => bnat (decide (a = b))
    | .cmpGt => bnat (decide (y < x))
    | .cmpGe => bnat (decide (y ≤ x))
    | .select => if c = 0 then b else a
    | _ => 0

/-- The elements of the enabled lanes. -/
def enabledElems (w : Nat) (m : Word) (lanes : List Nat) : List Nat :=
  elements w ((List.range 64).filterMap (fun i => if m.getLsbD i then some (lanes.getD i 0) else none))

/-- A reduction over elements: INT32, or FP32 with one rounding to nearest-even for each element in ascending order (R120,
R153). -/
def reduceElems (op : VectorOp) (ty : Nat) (es : List Nat) : Nat :=
  let w := typeWidth ty
  match typeFormat ty with
  | some f =>
    let vs := es.map f.decode
    let step := fun (acc : FVal) (v : FVal) => match op with
      | .reduceAdd => fp32.decode (fp32.result (acc.add v))
      | .reduceMax => if acc == .nan || v == .nan then .nan else if acc.lt v then v else acc
      | _ => if acc == .nan || v == .nan then .nan else if v.lt acc then v else acc
    match vs with
    | [] => 0
    | v :: rest => fp32.result (rest.foldl step v)
  | none =>
    let vs := es.map (signed w)
    match op, vs with
    | .reduceAdd, _ => fitInt 8 32 (sumInt vs)
    | .reduceMax, v :: rest => unsigned 32 (rest.foldl max v)
    | .reduceMin, v :: rest => unsigned 32 (rest.foldl min v)
    | _, _ => 0

/-- The largest absolute difference, exact, as INT32 or FP32 (R154). -/
def maxAbsDiffOf (ty : Nat) (xs ys : List Nat) : Nat :=
  let w := typeWidth ty
  let pairs := xs.zip ys
  match typeFormat ty with
  | some f =>
    let ds := pairs.map (fun p => ((f.decode p.1).add (f.decode p.2).neg).abs)
    fp32.result (ds.foldl (fun m d => if m == .nan || d == .nan then .nan else if m.lt d then d else m) (.fin false 0))
  | none => (pairs.map (fun p => (signed w p.1 - signed w p.2).natAbs)).foldl max 0 % 2 ^ 32

/-! ## Conversions (R118, R119) -/

/-- Values rounded to a format in ascending lane order, with the tile's generator after them: stochastic rounding advances it once
for each (R119). -/
def roundLanes (f : FFormat) (sat stoch : Bool) : List FVal → BitVec 64 → List Nat × BitVec 64
  | [], g => ([], g)
  | x :: xs, g =>
    let g1 := if stoch then xorshift g else g
    let r : Rounding := if stoch then .stochastic (field g1.toNat 56 8) else .nearest
    let rest := roundLanes f sat stoch xs g1
    (f.encode r sat x :: rest.1, rest.2)

/-- An INT32 lane scaled to an integer of `w` bits: times the Q0.31 multiplier, shifted right, rounded to nearest-even,
saturated (R118, R153). -/
def convIntLane (w shift x mult : Nat) : Nat :=
  unsigned w (clampInt (-(2 ^ (w - 1) : Nat)) ((2 ^ (w - 1) : Nat) - 1) (divRoundNE (signed 32 x * signed 32 mult) (2 ^ (31 + shift))))

/-- 64 narrow results packed into their place of a register; `sel` numbers the place. -/
def placeNarrow (w sel : Nat) (m : Word) (old es : List Nat) : List Nat :=
  let olds := elements w old
  packElems w ((List.range (64 * (32 / w))).map (fun i =>
    let k := i - 64 * sel
    if 64 * sel ≤ i ∧ k < 64 ∧ m.getLsbD k then es.getD k 0 else olds.getD i 0))

/-! ## Time operations (R121) -/

/-- The 64-bit value of an even-odd lane pair. -/
def lanePair (lanes : List Nat) (j : Nat) : Nat := lanes.getD (2 * j) 0 + 2 ^ 32 * lanes.getD (2 * j + 1) 0

/-- One pair of a time operation: the two lanes of its result. -/
def timePair (op : VectorOp) (a b : Nat) : Nat :=
  let d := (a % 2 ^ 37 + 2 ^ 37 - b % 2 ^ 37) % 2 ^ 37
  match op with
  | .tafter => bnat (decide (d ≠ 0 ∧ d < 2 ^ 36))
  | .tage => if d < 2 ^ 36 then d else 0
  | _ => unsigned 37 ((a % 2 ^ 37 : Nat) + signed 32 b)

/-! ## Sums of rows, changed blocks and marks (R153 to R155) -/

/-- The 64 bytes of a row in the low lanes of a register. -/
def withRow (lanes : List Nat) (row : List Byte) : List Nat := (List.range 16).map (fun i => leAt row (4 * i) 4) ++ lanes.drop 16

/-- The elements of a 64-byte row added to the lanes from `base` on: INT8 and INT16 into INT32 lanes, FP8 and BF16 into FP32 lanes
(R153). -/
def accWideLanes (ty base : Nat) (es old : List Nat) : List Nat :=
  let n := 512 / typeWidth ty
  let add := fun (acc e : Nat) => match typeFormat ty with
    | some f => fp32.result ((fp32.decode acc).add (f.decode e))
    | none => fitInt 1 32 (signed 32 acc + signed (typeWidth ty) e)
  (List.range 64).map (fun i =>
    if base ≤ i ∧ i - base < n then add (old.getD i 0) (es.getD (i - base) 0) else old.getD i 0)

/-- Whether a block is changed: its predictor reaches θ, or the reference is not valid (R154). θ is a count of codes, or a BF16 value
for FP8 and BF16 inputs, whose predictor is FP32 (R157). -/
def changedBlock (valid : Bool) (ty theta dmax : Nat) : Bool :=
  !valid || (match typeFormat ty with
    | some _ => fp32.decode dmax != .nan && !(fp32.decode dmax).lt (bf16.decode theta)
    | none => decide (theta ≤ dmax))

/-- Whether position `p` of a pass of a window descriptor is marked: a tap of its window reads memory in a changed block of 4 × 4
pixels; taps that read the padding value never mark it (R155). `changed` is by block column and row. -/
def Desc.marked (d : Desc) (changed : Nat → Nat → Bool) (p : Nat) : Bool :=
  let w := nth 1 d.counts 2
  (List.range (nth 1 d.counts 1)).any (fun i1 => (List.range (nth 1 d.counts 0)).any (fun i0 =>
    let x := d.xOrg + (p % w : Nat) * d.sx + (i0 : Nat) * d.dx
    let y := d.yOrg + (p / w : Nat) * d.sy + (i1 : Nat) * d.dy
    decide (d.xLo ≤ x ∧ x ≤ d.xHi ∧ d.yLo ≤ y ∧ y ≤ d.yHi) && decide (0 ≤ x ∧ 0 ≤ y) && changed (x.toNat / 4) (y.toNat / 4)))

/-- The marks of the 128 positions of a pass in the low lanes of a register (R156). -/
def Desc.markLanes (d : Desc) (changed : Nat → Nat → Bool) : List Nat :=
  (List.range 64).map (fun l => if l < 4 then sumNat ((List.range 32).map (fun b => bnat (d.marked changed (32 * l + b)) * 2 ^ b)) else 0)

/-- Bit `k` of a register. -/
def laneBit (lanes : List Nat) (k : Nat) : Bool := bitAt (lanes.getD (k / 32) 0) (k % 32)

/-- A context's tiles hold a valid reference: the evaluation in progress is not one that R158 computes exactly. -/
def State.refValid (s : State) (t : Nat) : Bool :=
  let n := s.tileCtx t
  !(s.ctx n).exactNow && s.on (Ob.deltaEnable n)

/-- A bank. -/
def Tile.bank (tl : Tile) (b : Nat) : AccBank := tl.acc.get AccBank.init b

/-- A row of a bank moved into a v register, a sticky saturation reported and cleared (R105, R117). With marks, a row that nothing
was accumulated into is not drained (R156). -/
def State.drainRow (s : State) (t : Nat) (o : Tile) (b row dst : Nat) (marked : Bool) : State :=
  let bk := o.bank b
  let s1 := s.modTile t (fun tl => { tl with acc := tl.acc.upd AccBank.init b (fun a => { a with sat := false }) })
  let s2 := if marked ∧ (bk.rows.find? row).isNone then s1
    else s1.modTile t (fun tl => tl.setV dst ((List.range 64).map (fun i => (bk.rows.get [] row).getD i 0)))
  if bk.sat then (s2.count 32 (Ob.accumulatorSaturationCount t) 1).raise 0x0303 t else s2

/-! ## Vector slots -/

/-- The effect of a vector slot; `o` is the tile before the bundle, `rows` what ag0 and ag1 feed it. The rounding generator is the one
field a slot reads after the slot before it (R119). SEED takes its g register from the mask field and ignores 0, which R119 leaves open
(DESIGN CHOICE, log entry 14). -/
def State.runVector (s : State) (t : Nat) (o : Tile) (sl : VectorSlot) (rows : List Byte × List Byte) : State :=
  if !o.predOn sl.pred then s
  else
    let ty := sl.ty.toNat
    let w := typeWidth ty
    let m := o.laneMask sl.mask
    let a := if sl.feed.getLsbD 0 then withRow (o.vreg sl.srcA.val) rows.1 else o.vreg sl.srcA.val
    let b := if sl.feed.getLsbD 1 then withRow (o.vreg sl.srcB.val) rows.2 else o.vreg sl.srcB.val
    let c := o.vreg sl.srcC.val
    let old := o.vreg sl.dst.val
    let out := fun (lanes : List Nat) => s.modTile t (fun tl => tl.setV sl.dst.val lanes)
    let sel := field sl.imm.toNat 8 3
    match sl.op with
    | .nop => s
    | .maxAbsDiff => out (maxAbsDiffOf ty (enabledElems w m a) (enabledElems w m b) :: old.drop 1)
    | .exp2 => out (maskLanes m old (a.map (specialResult 0)))
    | .log2 => out (maskLanes m old (a.map (specialResult 1)))
    | .recip => out (maskLanes m old (a.map (specialResult 2)))
    | .rsqrt => out (maskLanes m old (a.map (specialResult 3)))
    | .reduceAdd => out (reduceElems .reduceAdd ty (enabledElems w m a) :: old.drop 1)
    | .reduceMax => out (reduceElems .reduceMax ty (enabledElems w m a) :: old.drop 1)
    | .reduceMin => out (reduceElems .reduceMin ty (enabledElems w m a) :: old.drop 1)
    | .permute => out (maskLanes m old ((List.range 64).map (fun i => a.getD (b.getD i 0 % 64) 0)))
    | .convFp8 =>
      let f := if ty = 6 then e5m2 else e4m3
      let sat := !(ty = 6 ∧ bitAt sl.imm.toNat 23)
      let src := (List.range 64).filterMap (fun i => if m.getLsbD i then some (fp32.decode (a.getD i 0)) else none)
      let r := roundLanes f sat sl.stochastic src (s.tile t).gen
      let spread := (List.range 64).map (fun i =>
        r.1.getD ((List.range i).filter (fun j => m.getLsbD j)).length 0)
      s.modTile t (fun tl => { tl.setV sl.dst.val (placeNarrow 8 (sel % 4) m old spread) with gen := r.2 })
    | .convInt8 =>
      let es := (List.range 64).map (fun i => convIntLane 8 (field sl.imm.toNat 0 6) (a.getD i 0) (b.getD i 0))
      out (placeNarrow 8 (sel % 4) m old es)
    | .convInt4 =>
      let es := (List.range 64).map (fun i => convIntLane 4 (field sl.imm.toNat 0 6) (a.getD i 0) (b.getD i 0))
      out (placeNarrow 4 sel m old es)
    | .seed =>
      let g := o.greg sl.mask
      if g = 0 then s else s.modTile t (fun tl => { tl with gen := g })
    | .move => out (maskLanes m old a)
    | .accWide => out (accWideLanes ty (512 / w * sel) (elements w (a.take 16)) old)
    | .drain => s.drainRow t o (field sl.imm.toNat 6 2) (field sl.imm.toNat 0 6) sl.dst.val false
    | .changed =>
      let th := (s.ctx (s.tileCtx t)).theta.get 0 (field sl.imm.toNat 0 8)
      out (bnat (changedBlock (s.refValid t) ty th (a.getD 0 0)) :: old.drop 1)
    | .marks =>
      match (o.ag (field sl.imm.toNat 0 1)).desc with
      | some d => out (d.markLanes (fun bx by_ => laneBit a (by_ * field sl.imm.toNat 1 12 + bx)))
      | none => s
    | .tafter | .tage | .tadd =>
      let lanes := (List.range 64).map (fun i =>
        let r := timePair sl.op (lanePair a (i / 2)) (lanePair b (i / 2))
        if m.getLsbD (i / 2 * 2) then (if i % 2 = 0 then r % 2 ^ 32 else r / 2 ^ 32) else old.getD i 0)
      out lanes
    | op =>
      let ea := elements w a
      let eb := elements w b
      let ec := elements w c
      let es := (List.range (64 * (32 / w))).map (fun i => elemOp op ty (ea.getD i 0) (eb.getD i 0) (ec.getD i 0))
      out (maskLanes m old (packElems w es))

end Sys2Proof.Machine
end

