-- ==== Sys2Proof/Machine/Array.lean ====
section
/-! DEFINITION. Address generators (R106, R107, R136 to R142) and the multiply-accumulate array (R116, R117, R141, R156,
R162 to R164). -/

namespace Sys2Proof.Machine

/-! ## Descriptors (Tables 4-5 and 5-2) -/

/-- The descriptor in the 80 bytes at its address. -/
def readDesc (bs : List Byte) : Desc :=
  let base := leAt bs 0 8
  let flags := leAt bs 13 1
  let axis := leAt bs 48 1
  { base := base % 2 ^ 48, space := field base 48 2, module := leAt bs 8 4 % 2 ^ 18, format := leAt bs 12 1,
    window := bitAt flags 0, padding := bitAt flags 1, circular := bitAt flags 2, faultOnError := bitAt flags 3,
    waitFirst := bitAt flags 4, postDone := bitAt flags 5, padValue := leAt bs 14 2,
    counts := (List.range 4).map (fun i => leAt bs (16 + 2 * i) 2),
    strides := (List.range 4).map (fun i => signed 32 (leAt bs (24 + 4 * i) 4)),
    xLo := signed 16 (leAt bs 40 2), xHi := signed 16 (leAt bs 42 2), yLo := signed 16 (leAt bs 44 2),
    yHi := signed 16 (leAt bs 46 2), axisX := field axis 0 2, axisY := field axis 2 2,
    waitId := leAt bs 50 2, waitTarget := leAt bs 52 4, postId := leAt bs 56 2, circLen := leAt bs 60 4,
    xOrg := signed 16 (leAt bs 64 2), yOrg := signed 16 (leAt bs 66 2), sx := leAt bs 68 1, sy := leAt bs 69 1,
    dx := leAt bs 70 1, dy := leAt bs 71 1, groups := leAt bs 72 2, groupStride := signed 32 (leAt bs 76 4) }

/-- Element size of a descriptor format in bits (Table 4-5). -/
def formatBits (f : Nat) : Nat :=
  match f with
  | 0 => 4
  | 4 => 16
  | 5 => 16
  | 6 => 32
  | 7 => 1
  | _ => 8

/-- Bytes of one place of a generator: a channel group of Table 5-1, or 64 bytes for the formats without one (R134; log entry 14). -/
def placeBytes (f : Nat) : Nat :=
  match f with
  | 4 => 32
  | 7 => 8
  | 5 => 64
  | 6 => 64
  | 8 => 64
  | _ => 16

/-- The lowest and the highest address, exclusive, of a descriptor's walk outside window mode. -/
def Desc.span (d : Desc) : Int × Int :=
  if d.circular ∧ 0 < d.circLen then ((d.base : Int), (d.base : Int) + d.circLen)
  else
    let reach := (List.range 4).map (fun i => ((nth 1 d.counts i : Nat) - 1 : Int) * nth 0 d.strides i)
    ((d.base : Int) + sumInt (reach.map (min 0)), (d.base : Int) + sumInt (reach.map (max 0)) + placeBytes d.format)

/-- The size of the address space a descriptor names: the scratchpad, or 48 bits (Table 4-5, R108). -/
def Desc.spaceSize (d : Desc) : Int := if d.space = 0 then 0x100000 else 2 ^ 48

/-- Whether a descriptor's bytes are valid on tile `t` (R107, R139). The wait ID is checked where the descriptor waits on it: before
start, or for the rows of a circular window (R142). -/
def descValid (t : Nat) (bs : List Byte) : Bool :=
  let d := readDesc bs
  let inRange := fun (x : Int) => decide (1 ≤ x ∧ x ≤ 64)
  let reserved := field (leAt bs 0 8) 50 14 == 0 && field (leAt bs 8 4) 18 14 == 0 && field (leAt bs 13 1) 6 2 == 0
    && field (leAt bs 48 1) 4 4 == 0 && leAt bs 49 1 == 0 && leAt bs 58 2 == 0 && decide (d.space ≠ 3)
    && decide (d.format ≤ 8) && decide (d.waitId < 16384) && decide (d.postId < 16384)
  let plain := d.counts.all (· != 0) && d.circLen % 64 == 0 && (d.window || decide (0 ≤ d.span.1 ∧ d.span.2 ≤ d.spaceSize))
    && (!(d.waitFirst || d.window && d.circular) || d.waitId / 256 == t)
  let win := !d.window || (leAt bs 48 1 == 0x0E && inRange d.sx && inRange d.sy && inRange d.dx && inRange d.dy
    && decide (1 ≤ d.groups ∧ d.groups ≤ 4096) && leAt bs 74 2 == 0)
  reserved && plain && win

/-- `n` bytes of the pad value, one element for every channel: two elements of INT4 and eight of spike bits fill a byte (R107, R136). -/
def padRow (d : Desc) (n : Nat) : List Byte :=
  match formatBits d.format with
  | 1 => List.replicate n (BitVec.ofNat 8 (d.padValue % 2 * 255))
  | 4 => List.replicate n (BitVec.ofNat 8 (d.padValue % 16 * 17))
  | 8 => List.replicate n (BitVec.ofNat 8 d.padValue)
  | w => (List.range n).map (fun i => BitVec.ofNat 8 (d.padValue / 2 ^ (8 * (i % (w / 8)))))

/-! ## Walking (R106, R140) -/

/-- The sum of loop indices times strides. -/
def loopOffset (idx : List Nat) (strides : List Int) : Int :=
  sumInt ((List.range 4).map (fun i => ((nth 0 idx i : Nat) : Int) * nth 0 strides i))

/-- The address of the generator's place; a circular one wraps to base at base + length (Table 4-5). -/
def AddrGen.addr (g : AddrGen) (d : Desc) : Nat :=
  let off := (g.group : Int) * (if d.window then d.groupStride else 0) + loopOffset g.idx d.strides
  let off' := if d.circular ∧ 0 < d.circLen then off % (d.circLen : Int) else off
  unsigned 48 ((d.base : Int) + off')

/-- Whether the generator's place lies outside the bounds and reads the pad value (R107, R140). -/
def AddrGen.padded (g : AddrGen) (d : Desc) : Bool :=
  let i := fun (k : Nat) => ((nth 0 g.idx k : Nat) : Int)
  let x := if d.window then d.xOrg + i 2 * d.sx + i 0 * d.dx else i d.axisX
  let y := if d.window then d.yOrg + i 3 * d.sy + i 1 * d.dy else i d.axisY
  d.padding && !(decide (d.xLo ≤ x) && decide (x ≤ d.xHi) && decide (d.yLo ≤ y) && decide (y ≤ d.yHi))

/-- The input row of the generator's place in window mode (R140). -/
def AddrGen.inputRow (g : AddrGen) (d : Desc) : Int :=
  d.yOrg + ((nth 0 g.idx 3 : Nat) : Int) * d.sy + ((nth 0 g.idx 1 : Nat) : Int) * d.dy

/-- Whether the direct engine has the input row of the generator's place: in window mode over a circular buffer a line holds it, or its
fill object has counted it (R142; log entry 27). -/
def AddrGen.filled (sync : SMap Nat) (g : AddrGen) (d : Desc) : Bool :=
  !(d.window && d.circular) || g.lines.contains (g.inputRow d)
    || syncReached (sync.get 0 (d.waitId % 256)) (unsigned 32 ((d.waitTarget : Int) + g.inputRow d))

/-- The window register once the row of the place is read: a row not yet recorded takes an entry, of 16 (R142). -/
def AddrGen.noteLine (g : AddrGen) (d : Desc) : AddrGen :=
  if d.window ∧ d.circular ∧ !g.lines.contains (g.inputRow d) then
    { g with lines := (g.lines ++ [g.inputRow d]).drop (g.lines.length + 1 - 16) }
  else g

/-- The indices one step on, from loop `k` up; none after the last. -/
def stepIdx (counts : List Nat) : List Nat → Nat → Nat → Option (List Nat)
  | _, _, 0 => none
  | idx, k, fuel + 1 =>
    if nth 0 idx k + 1 < nth 1 counts k then some (setNth idx k (nth 0 idx k + 1))
    else stepIdx counts (setNth idx k 0) (k + 1) fuel

/-- A generator with its descriptor complete: a read generator posts once its last byte is delivered (R107); lines that no remaining
output row reads are released (R142). -/
def AddrGen.complete (g : AddrGen) (d : Desc) : AddrGen :=
  { g with running := false, toPost := d.postDone, lines := g.lines.filter (fun y => decide (d.yOrg + nth 1 d.counts 3 * d.sy ≤ y)) }

/-- The generator after one row: in window mode the next output position of the pass, else the next iteration. -/
def AddrGen.next (g : AddrGen) (d : Desc) : AddrGen :=
  if d.window then
    { g with passLeft := g.passLeft - 1, idx := (stepIdx d.counts g.idx 2 2).getD [nth 0 g.idx 0, nth 0 g.idx 1, 0, 0] }
  else match stepIdx d.counts g.idx 0 4 with
    | some i => { g with idx := i }
    | none => g.complete d

/-- A started generator: first group and tap, first iteration (R140). -/
def AddrGen.begin_ (g : AddrGen) (d : Desc) : AddrGen :=
  { g with running := true, fetched := [], out := [], waiting := false, group := 0, idx := [0, 0, 0, 0], passLeft := nth 1 d.counts 2 * nth 1 d.counts 3 }

/-- ADVANCE in window mode: the next group, then the next tap along loop 0, then along loop 1; after the last the
descriptor is complete (R140). -/
def AddrGen.advance (g : AddrGen) (d : Desc) : AddrGen :=
  let pass := nth 1 d.counts 2 * nth 1 d.counts 3
  if g.group + 1 < d.groups then
    { g with group := g.group + 1, idx := [nth 0 g.idx 0, nth 0 g.idx 1, 0, 0], passLeft := pass, fetched := [] }
  else match stepIdx d.counts g.idx 0 2 with
    | some i => { g with group := 0, idx := [nth 0 i 0, nth 0 i 1, 0, 0], passLeft := pass, fetched := [] }
    | none => { g.complete d with passLeft := 0 }

/-- The `n` bytes held from address `a` on, with the rest; none while one of them has not come. -/
def takeHeld : Nat → Nat → SMap Byte → Option (List Byte × SMap Byte)
  | 0, _, m => some ([], m)
  | n + 1, a, m =>
    match m.find? a with
    | none => none
    | some b => (takeHeld n (a + 1) (m.del a)).map (fun r => (b :: r.1, r.2))

/-- One place: its bytes and the generator after it. None while the generator waits or the bytes have not come. A place beyond the end
of the pass, or of the descriptor, is of pad values and sets the error bit (R140). -/
def AddrGen.place (mem : List Host.Cell) (sync : SMap Nat) (t : Nat) (g : AddrGen) : Option (List Byte × AddrGen) :=
  match g.desc with
  | none => some (List.replicate 64 0, { g with error := true })
  | some d =>
    let n := placeBytes d.format
    if g.waiting then none
    else if !g.running ∨ (d.window ∧ g.passLeft = 0) then some (padRow d n, { g with error := true })
    else if g.padded d then some (padRow d n, g.next d)
    else if !g.filled sync d then none
    else if d.space = 0 then
      some ((List.range n).map (fun i => Memory.read mem (scratchAddr t (g.addr d + i))), (g.noteLine d).next d)
    else (takeHeld n (g.addr d) g.fetched).map (fun r => (r.1, { (g.noteLine d).next d with fetched := r.2 }))

/-- The bytes of `n` places in turn. -/
def AddrGen.places (mem : List Host.Cell) (sync : SMap Nat) (t : Nat) : Nat → AddrGen → Option (List Byte × AddrGen)
  | 0, g => some ([], g)
  | n + 1, g => match g.place mem sync t with
    | none => none
    | some (bs, g1) => (AddrGen.places mem sync t n g1).map (fun r => (bs ++ r.1, r.2))

/-- One row of `size` bytes: as many places as fill it (R106; log entry 14). -/
def AddrGen.row (mem : List Host.Cell) (sync : SMap Nat) (t : Nat) (g : AddrGen) (size : Nat) : Option (List Byte × AddrGen) :=
  let unit_ := match g.desc with
    | some d => placeBytes d.format
    | none => 64
  (AddrGen.places mem sync t (max 1 (size / unit_)) g).map (fun r => (padTo size r.1, r.2))

/-- The addresses of the places ahead of a generator in its pass, at most `n` of them; padded places have none (R137). -/
def AddrGen.ahead (d : Desc) : Nat → AddrGen → List Nat
  | 0, _ => []
  | n + 1, g =>
    if !g.running ∨ (d.window ∧ g.passLeft = 0) then []
    else if g.padded d then AddrGen.ahead d n (g.next d)
    else g.addr d :: AddrGen.ahead d n (g.next d)

/-- Whether a generator asks for the bytes from `a` on, `n` of them (R106, R137, R140): the first place ahead whose bytes are neither
held nor on their way begins in the first 64 of them, and every 64 of them hold a byte of a place ahead. `busy` are the bytes on their
way. -/
def AddrGen.asks (g : AddrGen) (d : Desc) (busy : List (Nat × Nat)) (a n : Nat) : Bool :=
  let size := placeBytes d.format
  let ahead := g.ahead d 8192
  let have_ := fun (x : Nat) => (g.fetched.find? x).isSome || busy.any (fun b => decide (b.1 ≤ x ∧ x < b.1 + b.2))
  let next := ahead.find? (fun p => (List.range size).any (fun i => !have_ (p + i)))
  (match next with
    | some p => (List.range size).any (fun i => !have_ (p + i) && decide (a ≤ p + i ∧ p + i < a + 64))
    | none => false)
    && (List.range (n / 64)).all (fun k => ahead.any (fun p => decide (a + 64 * k < p + size ∧ p < a + 64 * k + 64)))

/-- The position of the next row in its pass (R141). -/
def AddrGen.position (g : AddrGen) : Nat :=
  match g.desc with
  | some d => if d.window then nth 1 d.counts 2 * nth 1 d.counts 3 - g.passLeft else 0
  | none => 0

/-- `n` rows, each with its position; with marks, unmarked positions are stepped past without being read (R156). -/
def AddrGen.rows (mem : List Host.Cell) (sync : SMap Nat) (t size : Nat) (marks : Option (Nat → Bool)) :
    Nat → Nat → AddrGen → Option (List (Nat × List Byte) × AddrGen)
  | 0, _, g => some ([], g)
  | n + 1, k, g =>
    let pos := if (match g.desc with
      | some d => d.window
      | none => false) then g.position else k
    let skip := match marks with
      | some f => !f pos
      | none => false
    if skip then
      match g.desc with
      | some d => AddrGen.rows mem sync t size marks n (k + 1) (if g.running then g.next d else g)
      | none => AddrGen.rows mem sync t size marks n (k + 1) g
    else match AddrGen.row mem sync t g size with
      | none => none
      | some (bs, g1) => match AddrGen.rows mem sync t size marks n (k + 1) g1 with
        | none => none
        | some (rest, g2) => some ((pos, bs) :: rest, g2)

/-! ## The slots of the generators -/

/-- The number of the generator a slot 5 or 6 names. -/
def agNumber (six : Bool) (sl : AgSlot) : Nat := if six then 2 else bnat sl.ag1

/-- The write generator after one place: a pass of window mode is followed by the next one (R140). -/
def AddrGen.nextOut (g : AddrGen) (d : Desc) : AddrGen :=
  let g1 := g.next d
  if d.window ∧ g1.running ∧ g1.passLeft = 0 then g1.advance d else g1

/-- Accepted bytes cut into places, each with its address; 64 bytes are one place outside the scratchpad (R106, R151). What comes
after the last place of the descriptor is dropped. -/
def AddrGen.accept (d : Desc) : Nat → List Byte → AddrGen → List (Nat × List Byte) × AddrGen
  | 0, _, g => ([], g)
  | n + 1, bs, g =>
    if !g.running ∨ bs = [] then ([], g)
    else
      let size := if d.space = 0 then placeBytes d.format else 64
      let r := AddrGen.accept d n (bs.drop size) (g.nextOut d)
      ((g.addr d, bs.take size) :: r.1, r.2)

/-- The 64 bytes slot 6 gives to ag2, by the number its register holds: a quarter of a v register, or from 64 on a row of ag0 or ag1 (R106,
R142, R146; log entry 14). -/
def Tile.outQuarter (o : Tile) (sel : Nat) : List Byte := ((o.vbytes (sel % 16)).drop (64 * (sel / 16 % 4))).take 64

/-- ag2 accepts 64 bytes and writes them at its places: at once in the scratchpad, else by the transactions it issues. -/
def State.acceptRow (s : State) (t : Nat) (data : List Byte) : State :=
  let g := (s.tile t).ag 2
  match g.desc with
  | none => s
  | some d =>
    let r := AddrGen.accept d 8 data g
    if d.space = 0 then
      r.1.foldl (fun s w => (List.range w.2.length).foldl (fun s i => s.store (scratchAddr t (w.1 + i)) [w.2.getD i 0]) s)
        (s.modTile t (fun tl => tl.modAg 2 (fun _ => r.2)))
    else s.modTile t (fun tl => tl.modAg 2 (fun _ => { r.2 with out := r.2.out ++ r.1 }))

/-- The effect of slot 5 or 6 but for what ag2 accepts; the descriptor is read from memory as it was before the bundle (R103, R106,
R107, R110, R140). -/
def State.runAg (s : State) (mem : List Host.Cell) (t : Nat) (o : Tile) (six : Bool) (sl : AgSlot) : State :=
  let k := agNumber six sl
  if !o.predOn sl.pred then s
  else match sl.op with
    | .nop => s
    | .loadDescriptor =>
      let bs := (List.range 80).map (fun i => Memory.read mem (scratchAddr t ((o.greg sl.dreg).toNat % 0x100000 + i)))
      if descValid t bs then s.modTile t (fun tl => tl.modAg k (fun _ => { AddrGen.init with desc := some (readDesc bs) }))
      else (s.modTile t (fun tl => tl.modAg k (fun _ => AddrGen.init))).tileFault t 0x0308
    | .start =>
      match (o.ag k).desc with
      | none => s
      | some d =>
        if d.waitFirst ∧ !syncReached (o.obj (d.waitId % 256)) d.waitTarget then
          s.modTile t (fun tl => tl.modAg k (fun g => { g with waiting := true }))
        else s.modTile t (fun tl => tl.modAg k (fun g => g.begin_ d))
    | .advance =>
      if six then s
      else match (o.ag k).desc with
        | some d =>
          if d.window && (o.ag k).running then s.modTile t (fun tl => tl.modAg k (fun g => g.advance d)) else s
        | none => s
    | .stop => s.modTile t (fun tl => tl.modAg k (fun g => { g with running := false, waiting := false, toPost := false }))
    | .readStatus => s.modTile t (fun tl => tl.setG sl.dreg (BitVec.ofNat 64 (bnat (o.ag k).error)))

/-- AG_WAIT_RELEASE: a generator held at start proceeds when its wait object has reached the target (R107, R114). -/
def execAgWaitRelease (t : Nat) (tile : Fin 64) (ag : Fin 3) (s0 : State) : Host.Outcome State Fault Refusal :=
  let s := s0.advance t
  let g := (s.tile tile).ag ag
  match g.desc with
  | none => ok s
  | some d =>
    if s.tileRuns tile ∧ g.waiting ∧ syncReached ((s.tile tile).obj (d.waitId % 256)) d.waitTarget then
      ok (s.modTile tile (fun tl => tl.modAg ag (fun g => g.begin_ d)))
    else ok s

/-- AG_COMPLETION_POST: a complete generator posts its object, ag2 once its writes are acknowledged (R107). -/
def execAgCompletionPost (t : Nat) (tile : Fin 64) (ag : Fin 3) (s0 : State) : Host.Outcome State Fault Refusal :=
  let s := s0.advance t
  let g := (s.tile tile).ag ag
  let writing := g.out != [] || (s.tile tile).trans.any (fun x => x.issuer == .ag ag)
  match g.desc with
  | none => ok s
  | some d =>
    if g.toPost ∧ !writing then
      ok ((s.modTile tile (fun tl => tl.modAg ag (fun g => { g with toPost := false }))).sendPost tile d.postId 1)
    else ok s

/-! ## The array (R116, R117, R163) -/

/-- Bytes of one input row: a channel group (Table 5-1). -/
def groupBytes (f : Nat) : Nat :=
  match f with
  | 4 => 32
  | 5 => 8
  | _ => 16

/-- Inputs of one row. -/
def groupInputs (f : Nat) : Nat :=
  match f with
  | 0 => 32
  | 5 => 64
  | _ => 16

/-- Bytes of a weight block (Table 4-7). -/
def weightBytes (f : Nat) : Nat :=
  match f with
  | 4 => 2048
  | 5 => 4096
  | _ => 1024

/-- Tile cycles of an input row (Table 5-1). -/
def rowCycles (f : Nat) : Nat := if f = 4 then 4 else 1

/-- Whether a format accumulates in FP32. -/
def isFloatFormat (f : Nat) : Bool := f = 2 || f = 3 || f = 4

/-- The raw element `i` of packed bytes of an array format's weights, or of its inputs. -/
def rawElem (f : Nat) (weights : Bool) (bs : List Byte) (i : Nat) : Nat :=
  if f = 0 then field (leAt bs (i / 2) 1) (4 * (i % 2)) 4
  else if f = 4 then leAt bs (2 * i) 2
  else if f = 5 ∧ !weights then field (leAt bs (i / 8) 1) (i % 8) 1
  else leAt bs i 1

/-- The sum of the partial products of the columns below `n` (R163). -/
def lowColumns (n a b : Nat) : Nat :=
  sumNat ((List.range n).flatMap (fun i => (List.range n).map (fun j =>
    if i + j < n then bnat (bitAt a i && bitAt b j) * 2 ^ (i + j) else 0)))

/-- How products are made: truncated columns (R163), and, in the tolerant regime, low bits that free values replace
(R164); `seed` numbers the free value of a product. -/
structure ProductMode where
  truncated : Bool
  tolerant : Bool
  seed : Nat

/-- The low `n` bits of a product replaced by free bits where the regime is tolerant (R164). -/
def loosen (pm : ProductMode) (n k : Nat) (p : Int) : Int :=
  if pm.tolerant then p - p % (2 ^ n : Nat) + ((Config.freeValue (pm.seed + k)) % 2 ^ n : Nat) else p

/-- An integer product of the array: INT4, INT8, or a spike bit times a weight. -/
def intProduct (pm : ProductMode) (f k a b : Nat) : Int :=
  match f with
  | 0 =>
    let p := signed 4 a * signed 4 b
    loosen pm 3 k (if pm.truncated then p - (lowColumns 2 a b : Nat) + 2 else p)
  | 1 =>
    let p := signed 8 a * signed 8 b
    loosen pm 6 k (if pm.truncated then p - (lowColumns 4 a b : Nat) + 24 else p)
  | _ => (a : Int) * signed 8 b

/-- The significand of a BF16 encoding with its hidden bit, and its unbiased exponent. -/
def bf16Parts (n : Nat) : Nat × Int :=
  let e := field n 7 8
  if e = 0 then (field n 0 7, -126) else (128 + field n 0 7, (e : Int) - 127)

/-- A floating product of the array. BF16 significand products may be truncated or loosened; FP8 ones are exact in every
mode (R163). -/
def floatProduct (pm : ProductMode) (f k a b : Nat) : FVal :=
  match f with
  | 2 => (e4m3.decode a).mul (e4m3.decode b)
  | 3 => (e5m2.decode a).mul (e5m2.decode b)
  | _ =>
    match (bf16.decode a).mul (bf16.decode b) with
    | .fin neg x =>
      if pm.truncated ∨ pm.tolerant then
        let pa := bf16Parts a
        let pb := bf16Parts b
        let p : Int := pa.1 * pb.1
        let q := loosen pm 6 k (if pm.truncated then p - (lowColumns 4 pa.1 pb.1 : Nat) + 24 else p)
        .fin neg ((if neg then -1 else 1) * (q : Rat) * pow2 (pa.2 + pb.2 - 14))
      else .fin neg x
    | v => v

/-- A 32-bit accumulator after one row in an integer format, and whether it saturated (R117). -/
def accInt (acc : Nat) (x : Int) : Nat × Bool :=
  let y := signed 32 acc + x
  (unsigned 32 (clampInt (-(2 ^ 31 : Nat)) ((2 ^ 31 : Nat) - 1) y), decide (y < -(2 ^ 31 : Nat)) || decide ((2 ^ 31 : Nat) ≤ y))

/-- The sums of the products that cycle `c` of a row adds to each accumulator, exact (R117). -/
def cycleSums (pm : ProductMode) (f c : Nat) (w row : List Byte) : List FVal :=
  let cyc := groupInputs f / rowCycles f
  (List.range 64).map (fun o =>
    let ps := (List.range cyc).map (fun j =>
      let i := c * cyc + j
      floatProduct pm f (64 * i + o) (rawElem f false row i) (rawElem f true w (64 * i + o)))
    match ps with
    | [] => FVal.fin false 0
    | p :: rest => rest.foldl FVal.add p)

/-- 64 accumulators after the cycles of one row in a floating format: one rounding for each cycle (R117), with the tile's generator
where slot 4 asks for stochastic rounding (Table 4-4, R119; log entry 14). -/
def accFloat (pm : ProductMode) (f : Nat) (w row : List Byte) (stoch : Bool) : List Nat → List Nat → BitVec 64 → List Nat × BitVec 64
  | [], acc, g => (acc, g)
  | c :: cs, acc, g =>
    let sums := cycleSums pm f c w row
    let r := roundLanes fp32 false stoch ((List.range 64).map (fun o => (fp32.decode (acc.getD o 0)).add (sums.getD o .nan))) g
    accFloat pm f w row stoch cs r.1 r.2

/-- 64 accumulators after one row in an integer format, and whether any saturated. -/
def accInts (pm : ProductMode) (f : Nat) (w row : List Byte) (acc : List Nat) : List Nat × Bool :=
  let cols := (List.range 64).map (fun o => accInt (acc.getD o 0) (sumInt ((List.range (groupInputs f)).map (fun i =>
    intProduct pm f (64 * i + o) (rawElem f false row i) (rawElem f true w (64 * i + o))))))
  (cols.map Prod.fst, cols.any Prod.snd)

/-- The bank a row at position `p` accumulates into when slot 4 names bank `b`: the first of the pair below position 64 of a pass and the
second from there on (R141); rows that belong to no pass start in the bank named. -/
def bankOf (pass : Bool) (b p : Nat) : Nat := 2 * (b / 2) + ((if pass then 0 else b) + p / 64) % 2

/-- A row at position `p` accumulated into row `p mod 64` of its bank (R141). -/
def accumulateRow (pm : ProductMode) (sl : MacSlot) (pass : Bool) (w : List Byte) (tl : Tile) (pr : Nat × List Byte) : Tile :=
  let f := sl.format.toNat
  let bank := bankOf pass sl.bank.val pr.1
  let row := pr.1 % 64
  let old := (tl.bank bank).rows.get [] row
  if isFloatFormat f then
    let r := accFloat pm f w pr.2 sl.stochastic (List.range (rowCycles f)) old tl.gen
    { tl with acc := tl.acc.upd AccBank.init bank (fun a => { a with rows := a.rows.set row r.1 }), gen := r.2 }
  else
    let r := accInts pm f w pr.2 old
    { tl with acc := tl.acc.upd AccBank.init bank (fun a => { a with rows := a.rows.set row r.1, sat := a.sat || r.2 }) }

/-- Rows accumulated in turn, each with free values of its own. -/
def accumulateRows (pm : ProductMode) (sl : MacSlot) (pass : Bool) (w : List Byte) : Tile → List (Nat × List Byte) → Tile
  | tl, [] => tl
  | tl, r :: rs => accumulateRows { pm with seed := pm.seed + 4096 } sl pass w (accumulateRow pm sl pass w tl r) rs

/-- Whether the array of a tile drops its lowest columns: its context is in START or REPLAY, or the tile is under the built-in test, which
runs in TEST on tiles of no context (Table 6-1). -/
def State.truncated (s : State) (t : Nat) : Bool :=
  let n := s.tileCtx t
  if n < 8 then decide (s.nat (Ob.arithmeticMode n) ≠ 0)
  else match s.loader.test with
    | some j => j.tiles.contains t
    | none => false

/-- How products of a tile are made now (R162, R164). -/
def State.productMode (s : State) (t : Nat) : ProductMode :=
  ⟨s.truncated t, s.on (Ob.regime t), s.freeCount⟩

/-- The marks of a pass: bit p is bit p mod 32 of lane p / 32 (R156). -/
def markBits (lanes : List Nat) (p : Nat) : Bool := bitAt (lanes.getD (p / 32) 0) (p % 32)

/-- The rows slot 4 streams from the generators `ags`, with them after it; none while a generator has to wait. -/
def State.macRows (s : State) (t : Nat) (o : Tile) (ags : SMap AddrGen) (sl : MacSlot) (size n : Nat) :
    Option (List (Nat × List Byte) × SMap AddrGen) :=
  let marks := if sl.delta ∧ s.refValid t then some (markBits (o.vreg sl.vsrc.val)) else none
  let k := sl.input.toNat
  if k < 2 then (AddrGen.rows s.mem o.sync t size marks n 0 (ags.get AddrGen.init k)).map (fun r => (r.1, ags.set k r.2))
  else
    let bs := o.vbytes sl.vsrc.val
    some ((List.range n).map (fun k => (k, (bs.drop (size * (k % (256 / size)))).take size)), ags)

/-- The rows slot 4 takes, if any. -/
def State.macTakes (s : State) (t : Nat) (o : Tile) (ags : SMap AddrGen) (sl : MacSlot) :
    Option (List (Nat × List Byte) × SMap AddrGen) :=
  let f := sl.format.toNat
  if !o.predOn sl.pred then some ([], ags)
  else match sl.op with
    | .accumulate => s.macRows t o ags sl (groupBytes f) (sl.count.toNat + 1)
    | .loadWeights => s.macRows t o ags { sl with delta := false } 64 (weightBytes f / 64)
    | _ => some ([], ags)

/-! ## What the slots take from the generators (R103, R106) -/

/-- What a bundle takes from ag0 and ag1: rows for vector pipes 0 and 1, for the array, and 64 bytes for ag2; with the generators after
it. Slots take in their order (log entry 14). -/
structure Feeds where
  v2 : List Byte × List Byte
  v3 : List Byte × List Byte
  mac : List (Nat × List Byte)
  out : List Byte
  ags : SMap AddrGen

/-- A 64-byte row of generator `k`, where it is taken. -/
def takeRow (mem : List Host.Cell) (sync : SMap Nat) (t k : Nat) (want : Bool) (ags : SMap AddrGen) :
    Option (List Byte × SMap AddrGen) :=
  if want then (AddrGen.row mem sync t (ags.get AddrGen.init k) 64).map (fun r => (r.1, ags.set k r.2)) else some ([], ags)

/-- The rows a vector slot takes. -/
def State.vecTakes (s : State) (t : Nat) (o : Tile) (ags : SMap AddrGen) (sl : VectorSlot) :
    Option ((List Byte × List Byte) × SMap AddrGen) :=
  let on := o.predOn sl.pred
  match takeRow s.mem o.sync t 0 (on && sl.feed.getLsbD 0) ags with
  | none => none
  | some (a, m) => (takeRow s.mem o.sync t 1 (on && sl.feed.getLsbD 1) m).map (fun r => ((a, r.1), r.2))

/-- Whether slot 6 gives ag2 64 bytes now, and by which selector. -/
def outSelector (o : Tile) (sl : AgSlot) : Option Nat :=
  if o.predOn sl.pred ∧ sl.op = .advance ∧ (o.ag 2).running then some (o.greg sl.dreg).toNat else none

/-- What slot 6 takes for ag2. ag2 holds at most one transaction's bytes before they are issued (R109). -/
def State.outTakes (s : State) (t : Nat) (o : Tile) (ags : SMap AddrGen) (sl : AgSlot) : Option (List Byte × SMap AddrGen) :=
  match outSelector o sl with
  | none => some ([], ags)
  | some sel =>
    if 64 ≤ (o.ag 2).out.length then none
    else if sel < 64 then some (o.outQuarter sel, ags)
    else takeRow s.mem o.sync t (sel % 2) true ags

/-- What a bundle takes; none while a generator it needs has to wait. -/
def State.feeds (s : State) (t : Nat) (o : Tile) (b : Bundle) : Option Feeds :=
  match s.vecTakes t o o.ags b.s2 with
  | none => none
  | some (v2, m2) => match s.vecTakes t o m2 b.s3 with
    | none => none
    | some (v3, m3) => match s.macTakes t o m3 b.s4 with
      | none => none
      | some (rows, m4) => (s.outTakes t o m4 b.s6).map (fun r => ⟨v2, v3, rows, r.1, r.2⟩)

/-- The effect of slot 4 on the rows it took (R105, R116, R117, R141, R156). A load fills the idle buffer, which the array uses from
then on. A drain moves row `count` of a bank into `vsrc`, with delta only a marked one; a clear clears the pair of its bank, and leaves
sticky saturation (R141; log entry 14). -/
def State.runMac (s : State) (t : Nat) (o : Tile) (sl : MacSlot) (rows : List (Nat × List Byte)) : State :=
  let f := sl.format.toNat
  let b := sl.bank.val
  if !o.predOn sl.pred then s
  else match sl.op with
    | .nop => s
    | .clear =>
      let clr := fun (a : AccBank) => { a with float := isFloatFormat f, rows := [] }
      s.modTile t (fun tl => { tl with acc := (tl.acc.upd AccBank.init (2 * (b / 2)) clr).upd AccBank.init (2 * (b / 2) + 1) clr })
    | .drain => s.drainRow t o b (sl.count.toNat % 64) sl.vsrc.val sl.delta
    | .loadWeights =>
      s.modTile t (fun tl =>
        { tl with weights := setNth tl.weights (1 - tl.inUse) ((rows.map Prod.snd).flatten, f), inUse := 1 - tl.inUse })
    | .accumulate =>
      let w := (o.weights.getD o.inUse ([], 0)).1
      let pass := match (o.ag sl.input.toNat).desc with
        | some d => d.window && decide (sl.input.toNat < 2)
        | none => false
      let s1 := s.modTile t (fun tl => accumulateRows (s.productMode t) sl pass w tl rows)
      (s1.drew (if s.on (Ob.regime t) then 4096 * rows.length else 0)).count 64 (Ob.arrayCyclesActive t) (rows.length * rowCycles f)

end Sys2Proof.Machine
end

