-- ==== Sys2Proof/Machine/Voltage.lean ====
section
/-! DEFINITION. Clock, voltage and regime of a tile (R162, R164, R170, R375). -/

namespace Sys2Proof.Machine

/-- A tile voltage: 550 mV to 950 mV in steps of 5 mV (R164). -/
def stepMv (mv : Nat) : Nat := max 550 (min 950 (roundUp mv 5))

/-- Whether a context's tolerance is effective (R164, R166). -/
def State.tolerant (s : State) (n : Nat) : Bool :=
  decide (n < 8) && s.on (Ob.toleranceEnable n) && !s.on (Ob.toleranceLocked n)

/-- Vsafe of a tile at a clock in its arithmetic mode (R162, R164). -/
def State.vsafeOf (s : State) (t clock : Nat) : Nat := stepMv (Config.vsafe t clock (s.truncated t))

/-- Vfloor of a tile at a clock (R164). -/
def vfloorOf (t clock : Nat) : Nat := stepMv (Config.vfloor t clock)

/-- The lowest voltage a tile may take: Vfloor with effective tolerance, else Vsafe, and never below Vfloor (R164). -/
def State.voltLimit (s : State) (t clock : Nat) : Nat :=
  if s.tolerant (s.tileCtx t) then vfloorOf t clock else max (s.vsafeOf t clock) (vfloorOf t clock)

/-- A tile's clock and voltage shown with its tables and its regime (Table 6-4). The voltage is in steps, and never below the limit of
R164. -/
def State.setVolt (s : State) (t clock mv : Nat) : State :=
  let v := max (stepMv mv) (s.voltLimit t clock)
  s.setAll [(Ob.tileClock t, clock), (Ob.tileVoltage t, v), (Ob.vsafeAtCurrentClock t, s.vsafeOf t clock),
    (Ob.vfloorAtCurrentClock t, vfloorOf t clock), (Ob.regime t, bnat (decide (v < s.vsafeOf t clock)))]

/-- The tiles of a context held to the limit at their clocks after their arithmetic mode or tolerance changed (R162, R164). -/
def State.holdVolts (s : State) (n : Nat) : State :=
  (s.ctxTiles n).foldl (fun s t => s.setVolt t (s.nat (Ob.tileClock t)) (s.nat (Ob.tileVoltage t))) s

/-- A tile at its starting point: Clock Max within the thermal cap, Vsafe + 15 mV (Table 15-2, R375). -/
def State.startVolt (s : State) (t : Nat) : State :=
  let clock := min (s.nat Ob.clockMax) s.power.cap
  (s.setVolt t clock (s.vsafeOf t clock + 15)).modTile t (fun tl => { tl with periods := 0, cut := 0 })

/-- The highest and the lowest clock of a tile: Clock Max within thermal throttling, and Clock Min within that (R169, R170). -/
def State.clockRange (s : State) : Nat × Nat :=
  let hi := min (s.nat Ob.clockMax) s.power.cap
  (min (s.nat Ob.clockMin) hi, hi)

/-- The adaptive voltage and clock loop of a tile for one period (R170): clock, voltage, MHz cut from the highest clock for the power cap,
periods within the allowance, and whether the cap is out of reach. Power in 0.1 W. A voltage above Voltage Max comes down to it, but
not below the limit (R169). -/
def State.voltStep (s : State) (t canaries power : Nat) : Nat × Nat × Nat × Nat × Bool :=
  let cap := s.nat Ob.powerCap
  let lo := s.clockRange.1
  let hi := s.clockRange.2
  let cut := min (s.tile t).cut (hi - lo)
  let v0 := s.nat (Ob.tileVoltage t)
  let atLimit := decide (v0 ≤ s.voltLimit t (hi - cut))
  let overrun := decide (cap < power)
  let cut1 := if overrun then (if atLimit then min (hi - lo) (cut + 10) else cut)
    else if 100 * power < 95 * cap then cut - 10 else cut
  let v1 := if overrun ∧ !atLimit then v0 - 5 else v0
  let allowed := if s.tolerant (s.tileCtx t) then s.nat Ob.canaryTarget else 0
  let k := if allowed < canaries then 0 else (s.tile t).periods + 1
  let v2 := if allowed < canaries then v1 + 5 else if k = 8 then v1 - 5 else v1
  (hi - cut1, max (min v2 (s.nat Ob.voltageMax)) (s.voltLimit t (hi - cut1)), cut1, k % 8, overrun && atLimit && decide (hi - cut ≤ lo))

end Sys2Proof.Machine
end

