-- ==== Sys2Proof/Machine/Reuse.lean ====
section
/-! DEFINITION. Evaluations of a context: θ in two copies (R157), exact evaluations (R158), the arithmetic modes (R162), the bounds shown
(R168), the weight swap (R428). -/

namespace Sys2Proof.Machine

/-- The delta-capable layers of a context's package; layers in the spike-bit format never are (R157). -/
def State.deltaLayers (s : State) (n : Nat) : List LayerInfo :=
  match (s.ctx n).pkg with
  | some p => p.layers.filter (fun l => l.deltaCapable && l.format != 5)
  | none => []

/-- The θ bounds of a layer: θ_min and θ_max, within the safety limit θ_cap (R169, R171). -/
def State.thetaRange (s : State) (n : Nat) (l : LayerInfo) : Nat × Nat :=
  (min (s.domNat (Ob.thetaTable n) (8 * l.number) 2) l.thetaCap, min (s.domNat (Ob.thetaTable n) (8 * l.number + 2) 2) l.thetaCap)

/-- The θ of a layer from the next WATERMARK on: pinned, or as the loop moved it, within the bounds now in force (R157, R169, R171). -/
def State.nextTheta (s : State) (n : Nat) (l : LayerInfo) : Nat :=
  if s.nat (Ob.thetaMode n) = 1 then min (s.domNat (Ob.thetaTable n) (8 * l.number + 4) 2) l.thetaCap
  else max (s.thetaRange n l).1 (min (s.thetaRange n l).2 ((s.ctx n).thetaNext.get 0 l.number))

/-- A DOMAIN with the bytes `new` at byte `off`. -/
def putBytes (bs : List Byte) (off : Nat) (new : List Byte) : List Byte := bs.take off ++ new ++ bs.drop (off + new.length)

/-- Theta Current with the θ in use and θ_cap of each layer (Table 6-4). -/
def State.showTheta (s : State) (n : Nat) : State :=
  let put := fun (bs : List Byte) (l : LayerInfo) =>
    if l.number < 256 then putBytes bs (4 * l.number) (leBytes 2 ((s.ctx n).theta.get 0 l.number) ++ leBytes 2 l.thetaCap) else bs
  if s.deltaLayers n = [] then s
  else s.setDom (Ob.thetaCurrent n) ((s.deltaLayers n).foldl put (s.domBytes (Ob.thetaCurrent n) 0 1024))

/-- The bound of R168 of a layer now, in output LSB. -/
def State.boundAt (s : State) (n : Nat) (l : LayerInfo) (th : Nat) : Rat :=
  outputBound l th (decide (s.nat (Ob.arithmeticMode n) ≠ 0)) (s.tolerant n)

/-- Bound Report with the bound of R168 of every layer of the package (Table 6-4). -/
def State.showBounds (s : State) (n : Nat) : State :=
  let put := fun (bs : List Byte) (l : LayerInfo) =>
    if l.number < 256 then putBytes bs (8 * l.number) (leBytes 4 (real32Bits (s.boundAt n l ((s.ctx n).theta.get 0 l.number)))) else bs
  match (s.ctx n).pkg with
  | some p => if p.layers = [] then s else s.setDom (Ob.boundReport n) (p.layers.foldl put (s.domBytes (Ob.boundReport n) 0 2048))
  | none => s

/-- The two θ copies of a context swap (R157). -/
def State.swapTheta (s : State) (n : Nat) : State :=
  let th := (s.deltaLayers n).foldl (fun m l => m.set l.number (s.nextTheta n l)) (s.ctx n).theta
  ((s.modCtx n (fun c => { c with theta := th, thetaNext := th })).showTheta n).showBounds n

/-- A context's arithmetic mode becomes `mode`: its tiles keep the limit of R164, its bounds are those of the mode (R162, R168). -/
def State.setMode (s : State) (n mode : Nat) : State := ((s.setNat (Ob.arithmeticMode n) mode).holdVolts n).showBounds n

/-- An evaluation of a context ends: the next is exact where Force Exact was written, and START ends after Start Evaluations, with an
exact evaluation after it (R158, R162). Where delta reuse is in use, Reuse Fraction shows a new value, which the spec does not define
(Table 6-4; log entry 59). -/
def State.endEvaluation (s : State) (n : Nat) : State :=
  let c := s.ctx n
  let s0 := if s.on (Ob.deltaEnable n) ∧ s.deltaLayers n ≠ [] then (s.setNat (Ob.reuseFraction n) (s.free % 65536)).drew 1 else s
  let s1 := s0.modCtx n (fun c => { c with exactNow := c.exactNext, exactNext := false, evals := c.evals + 1 })
  if s.nat (Ob.arithmeticMode n) = 1 then
    if c.startLeft ≤ 1 then (s1.modCtx n (fun c => { c with startLeft := 0, exactNow := true })).setMode n 0
    else s1.modCtx n (fun c => { c with startLeft := c.startLeft - 1 })
  else s1

/-- A write of Force Exact to a RUNNING context: the evaluation after the one in progress is exact (R158). -/
def State.applyForceExact (s : State) (n : Nat) : State := s.modCtx n (fun c => { c with exactNext := true })

/-- The weights of a committed staged package begin to swap in: the tiles of the partition halt (R428). -/
def State.beginSwap (s : State) (n : Nat) : State :=
  if (s.ctx n).swapAccepted then s.modCtx n (fun c => { c with swapping := true }) else s

end Sys2Proof.Machine
end

