-- ==== Sys2Proof/Machine/Neuron.lean ====
section
/-! DEFINITION. The neuron unit of a tile (R176 to R201): programs, inputs, steps, routes. -/

namespace Sys2Proof.Machine

/-! ## What a tile posts outward -/

/-- Header bits [18:16] of a context's result records (Table 12-2). -/
def State.recordFlags (s : State) (n : Nat) : Nat :=
  let mode := s.nat (Ob.arithmeticMode n)
  bnat (decide (mode = 1)) + 2 * bnat (decide (mode = 3)) + 4 * bnat (s.ctx n).boundLost

/-- Whether result posts of a context enter its queue: in RUN, and in a replay (R330, R394). -/
def State.posting (s : State) (n : Nat) : Bool := s.driving || decide (s.nat (Ob.arithmeticMode n) = 3)

/-- A result post of a context (R309, R330): none where its queue has no credit left. Outside RUN and replay it is discarded. -/
def State.postResult (s : State) (n kind stamp : Nat) (payload : List Byte) : Option State :=
  if !s.posting n then some s
  else if (s.queue n).posts.length < 8 then
    some (s.modQueue n (fun r => { r with posts := r.posts ++ [⟨kind, stamp, s.recordFlags n, payload⟩] }))
  else none

/-- Whether a tile may post to the Kerb port: one post per 100 ns (Table 4-1). -/
def State.kerbFree (s : State) (t : Nat) : Bool :=
  match (s.tile t).lastKerb with
  | some l => decide (l + 100 ≤ s.time)
  | none => true

/-- A Kerb post of a tile (R17). -/
def State.tileKerbPost (s : State) (t k stamp width : Nat) (level : Bool) : State :=
  (s.kerbPost (.tile t) k stamp width level).modTile t (fun tl => { tl with lastKerb := some s.time })

/-! ## Neuron programs (R178 to R181) -/

/-- A neuron during a run: u0 to u3, temporaries, flag, spike, active bit, generator. -/
structure NRun where
  u : List Int
  temps : List Int
  flag : Bool
  spike : Bool
  act : Bool
  gen : BitVec 64

/-- What a run reads beside the neuron: width, input, whether it is the final run, step number, parameters. -/
structure NEnv where
  wide : Bool
  input : Int
  final : Bool
  step : Nat
  params : List (BitVec 16)

/-- 32-bit two's complement. -/
def wrap32 (x : Int) : Int := signed 32 (unsigned 32 x)

/-- An operand read (Table 7-3). -/
def NEnv.read (e : NEnv) (r : NRun) (d : Nat) : Int :=
  if d < 4 then (if e.wide ∧ 2 ≤ d then 0 else nth 0 r.u d)
  else if d = 4 then e.input
  else if d = 5 then (bnat e.final : Int)
  else if d = 6 then signed 32 e.step
  else if d = 7 then 0
  else if d < 16 then (nth (0 : BitVec 16) e.params (d - 8)).toInt
  else if d < 24 then nth 0 r.temps (d - 16)
  else 0

/-- An operand written: 16-bit state saturates (R179). -/
def NEnv.write (e : NEnv) (r : NRun) (d : Nat) (v : Int) : NRun :=
  if d < 4 then
    if e.wide then (if d < 2 then { r with u := setNth r.u d (wrap32 v) } else r)
    else { r with u := setNth r.u d (clampInt (-32768) 32767 (wrap32 v)) }
  else if 16 ≤ d ∧ d < 24 then { r with temps := setNth r.temps (d - 16) (wrap32 v) }
  else r

/-- One micro-operation (Table 7-4) other than END. -/
def microOp (e : NEnv) (w : BitVec 32) (r : NRun) : NRun :=
  let n := w.toNat
  let d := field n 21 5
  let a := e.read r (field n 16 5)
  let b := e.read r (field n 11 5)
  match field n 26 6 with
  | 0x01 => e.write r d a
  | 0x02 => e.write r d (signed 16 n)
  | 0x03 => e.write r d (a + b)
  | 0x04 => e.write r d (a - b)
  | 0x05 => e.write r d (a * b)
  | 0x06 => e.write r d (a * b / 32768)
  | 0x07 => e.write r d (a / (2 ^ (b % 32).toNat : Nat))
  | 0x08 => e.write r d (a * (2 ^ (b % 32).toNat : Nat))
  | 0x09 => e.write r d (min a b)
  | 0x0A => e.write r d (max a b)
  | 0x0B => e.write r d (if a = -(2 ^ 31 : Nat) then (2 ^ 31 : Nat) - 1 else (a.natAbs : Int))
  | 0x0C => { r with flag := decide (b ≤ a) }
  | 0x0D => { r with flag := decide (b < a) }
  | 0x0E => { r with flag := decide (a = b) }
  | 0x0F => e.write r d (if r.flag then a else b)
  | 0x10 =>
    let g := xorshift r.gen
    { e.write r d (signed 16 (field g.toNat 48 16)) with gen := g }
  | 0x11 => { r with spike := r.spike || r.flag }
  | 0x12 => { r with act := r.flag }
  | 0x13 => { r with flag := !r.flag }
  | _ => r

/-- A program run to END or through its last micro-operation. -/
def runMicro (e : NEnv) : List (BitVec 32) → NRun → NRun
  | [], r => r
  | w :: ws, r => if field w.toNat 26 6 = 0 then r else runMicro e ws (microOp e w r)

/-- Program, parameter set and flags of a control word (Table 7-2). -/
def Neuron.program (x : Neuron) : Nat := field x.control.toNat 61 3
/-- The parameter set. -/
def Neuron.paramSet (x : Neuron) : Nat := field x.control.toNat 55 6
/-- The active bit. -/
def Neuron.active (x : Neuron) : Bool := bitAt x.control.toNat 54
/-- The ordered bit. -/
def Neuron.ordered (x : Neuron) : Bool := bitAt x.control.toNat 53
/-- The route base. -/
def Neuron.routeBase (x : Neuron) : Nat := field x.control.toNat 25 25
/-- The route count. -/
def Neuron.routeCount (x : Neuron) : Nat := field x.control.toNat 12 13

/-- The state words u0 to u3 of a neuron (Tables 7-1 and 7-3). -/
def Neuron.words (x : Neuron) (wide : Bool) : List Int :=
  let n := x.state.toNat
  if wide then [signed 32 (field n 0 32), signed 32 (field n 32 32), 0, 0]
  else (List.range 4).map (fun i => signed 16 (field n (16 * i) 16))

/-- The state field made of u0 to u3. -/
def packWords (wide : Bool) (u : List Int) : BitVec 64 :=
  if wide then BitVec.ofNat 64 (put 0 32 (unsigned 32 (nth 0 u 0)) + put 32 32 (unsigned 32 (nth 0 u 1)))
  else BitVec.ofNat 64 (sumNat ((List.range 4).map (fun i => put (16 * i) 16 (unsigned 16 (nth 0 u i)))))

/-- The control word with its active bit set so. -/
def setActive (c : BitVec 64) (b : Bool) : BitVec 64 :=
  BitVec.ofNat 64 (c.toNat - put 54 1 (field c.toNat 54 1) + put 54 1 (bnat b))

/-- A neuron updated in step `k` with its ordered inputs and its slot sum (R183, R195): the neuron, whether it spikes, the
generator. -/
def updateNeuron (u : NeuronUnit) (k : Nat) (x : Neuron) (inputs : List (BitVec 16)) (g : BitVec 64) :
    Neuron × Bool × BitVec 64 :=
  let prog := u.programs.getD x.program ⟨false, []⟩
  let sum := signed 16 (x.slots.get 0 (k % 16))
  let env := fun (inp : Int) (fin : Bool) => (⟨prog.wide, inp, fin, k, u.params.getD x.paramSet []⟩ : NEnv)
  let fresh := fun (r : NRun) => { r with temps := [0, 0, 0, 0, 0, 0, 0, 0], flag := false }
  let r0 : NRun := ⟨x.words prog.wide, [], false, false, x.active, g⟩
  let r1 := inputs.foldl (fun r w => runMicro (env w.toInt false) (prog.code.take 32) (fresh r)) r0
  let r2 := runMicro (env sum true) (prog.code.take 32) (fresh r1)
  ({ x with state := packWords prog.wide r2.u, control := setActive x.control r2.act, slots := x.slots.del (k % 16) },
    r2.spike, r2.gen)

/-! ## Inputs (R182 to R185, R192, R193, R195) -/

/-- The neuron unit of a tile. -/
def State.nunit (s : State) (t : Nat) : NeuronUnit := (s.tile t).unit_

/-- The neuron unit of a tile changed. -/
def State.modUnit (s : State) (t : Nat) (f : NeuronUnit → NeuronUnit) : State :=
  s.modTile t (fun tl => { tl with unit_ := f tl.unit_ })

/-- Step Length in force, in ns. -/
def State.delta (s : State) (n : Nat) : Nat := max 1 (s.nat (Ob.stepLength n))

/-- The step a context considers next (R188). -/
def State.nextStep (s : State) (n : Nat) : Nat :=
  match (s.ctx n).current with
  | some k => k + 1
  | none => (s.ctx n).logical.getD 0 / s.delta n

/-- A tile's latest released step, or the one it will be released next while it waits (R193). -/
def State.unitStep (s : State) (t : Nat) : Nat :=
  let n := s.tileCtx t
  match (s.ctx n).opened, (s.nunit t).released with
  | some k, some r => if k = r ∧ !(s.ctx n).doneTiles.contains t then k else s.nextStep n
  | _, _ => s.nextStep n

/-- The earliest step whose dynamics have not begun on a tile and that is neither skipped nor before the first one (R188, R192). -/
def State.earliest (s : State) (t : Nat) : Nat :=
  let a := match (s.nunit t).dynDone with
    | some k => k + 1
    | none => 0
  max a (match (s.ctx (s.tileCtx t)).logical with
    | some _ => s.nextStep (s.tileCtx t)
    | none => 0)

/-- An input put into its neuron's slot (R182). -/
def NeuronUnit.addSlot (u : NeuronUnit) (neuron step : Nat) (w : BitVec 16) : NeuronUnit :=
  let add := fun (x : Neuron) => { x with slots := x.slots.set (step % 16) ((x.slots.get 0 (step % 16) + w.toNat) % 65536) }
  match u.neurons.find? neuron with
  | none => u
  | some x => { u with neurons := u.neurons.set neuron (add x), pending := u.pending.set (8192 * (step % 16) + neuron) true }

/-- An input of a step within reach: to the ordered list of an ordered neuron, else to the slot; a full list sends it to
the slot sum with notice 0x0403 (R182, R195). The list's entry takes 8 bytes of its scratchpad region, whose layout the spec does not
give (log entry 87). -/
def State.placeInput (s : State) (t neuron step : Nat) (key : Option Nat) (w : BitVec 16) : State :=
  let u := s.nunit t
  let n := s.tileCtx t
  let s1 := s.count 64 (Ob.synapticInputsApplied t) 1
  let isOrd := match u.neurons.find? neuron with
    | some x => x.ordered
    | none => false
  match isOrd, key with
  | true, some key =>
    if u.ordered.length < u.orderedCap then
      let s2 := (s1.store (scratchAddr t (u.orderedBase + 8 * u.ordered.length)) (leBytes 8 s.free)).drew 1
      (s2.modUnit t (fun u => { u with ordered := u.ordered ++ [⟨step, neuron, key, w⟩] })).setNat (Ob.orderedListFill t) (u.ordered.length + 1)
    else (((s1.modUnit t (fun u => u.addSlot neuron step w)).count 32 (Ob.orderedOverflows n) 1)).raise 0x0403 t
  | _, _ => s1.modUnit t (fun u => u.addSlot neuron step w)

/-- An input arriving at a tile for a step (R192, R193). `direct`: it comes from a spike, whose reach R185 gives. -/
def State.addInput (s : State) (t neuron step : Nat) (key : Option Nat) (w : BitVec 16) (direct : Bool) : State :=
  let n := s.tileCtx t
  let e := s.earliest t
  let late := decide (step < e)
  let step' := max step e
  let s1 := if late then
      ((s.count 64 (Ob.lateInputs n) 1).raiseIf ((s.ctx n).lateStep.all (fun k => decide (k < step'))) 0x0401 t).modCtx n (fun c =>
        { c with lateStep := some (max step' (c.lateStep.getD 0)) })
    else s
  let s1 := s1.progress t
  let u := s1.nunit t
  if !direct ∧ s1.unitStep t + 16 ≤ step' then
    if u.far.length < 1024 then
      (s1.modUnit t (fun u => { u with far := u.far ++ [⟨step', neuron, key.getD 0, key.isSome, w⟩] })).setNat (Ob.farListFill t) (u.far.length + 1)
    else (s1.count 32 (Ob.farDrops n) 1).raise 0x0402 t
  else s1.placeInput t neuron step' key w

/-- The far-list entries that step `c` brings within 15 steps move into their slots (R193). -/
def State.farMove (s : State) (t c : Nat) : State :=
  let u := s.nunit t
  let near := u.far.filter (fun f => decide (f.step ≤ c + 15))
  if near = [] then s
  else
    let rest := u.far.filter (fun f => decide (c + 15 < f.step))
    let s1 := (s.modUnit t (fun u => { u with far := rest })).setNat (Ob.farListFill t) rest.length
    near.foldl (fun s f => s.placeInput t f.neuron f.step (if f.kind0 then some f.key else none) f.weight) s1

/-- The ordered-list key of an input (R195): none for an injection beyond the 8,191st of its tile in the step. -/
def orderKey (tile source : Nat) : Option Nat := if source < 16383 then some (tile * 16384 + source) else none

/-! ## Routes (R196 to R199) -/

/-- Whether a neuron is resident. -/
def State.resident (s : State) (t neuron : Nat) : Bool := ((s.nunit t).neurons.find? neuron).isSome

/-- Whether a route entry passes the checks of R196 for a context. -/
def State.routeOk (s : State) (n : Nat) (e : BitVec 64) : Bool :=
  let v := e.toNat
  let kind := field v 62 2
  field v 0 23 == 0 &&
    (if kind = 0 then (s.ctxTiles n).contains (field v 56 6) && s.resident (field v 56 6) (field v 43 13)
     else if kind = 1 then field v 56 6 == 0 && field v 23 20 == 0
     else if kind = 2 then field v 56 6 == 0 && field v 23 20 == 0 && decide (field v 46 10 ≠ 0)
     else false)

/-- One entry of a walk applied; none where the fan-out has to hold (R197). -/
def State.applyRoute (s : State) (t : Nat) (wk : RouteWalk) (e : BitVec 64) : Option State :=
  let n := s.tileCtx t
  let v := e.toNat
  let stamp := wk.step * s.delta n
  if !s.routeOk n e then some (s.raise 0x0405 t)
  else match field v 62 2 with
    | 0 =>
      let dst := field v 56 6
      let neuron := field v 43 13
      let step := wk.step + field v 39 4
      let w := BitVec.ofNat 16 (field v 23 16)
      if dst = t then some (s.addInput t neuron step (orderKey t wk.source) w (decide (wk.source < 8192)))
      else
        let after := if field v 39 4 = 15 ∧ wk.source < 8192 then some (wk.step - 1) else none
        let msg : SpikeMsg := ⟨s.market.nextSeq, dst, neuron, step, t, wk.source, w, after⟩
        some ({ s with market := { s.market with spikes := s.market.spikes ++ [msg], nextSeq := s.market.nextSeq + 1 } }.count 64 (Ob.spikeMessagesSent t) 1)
    | 1 =>
      let payload := leBytes 16 (put 64 64 stamp + put 58 6 t + put 45 13 wk.neuron + put 32 13 (field v 43 13))
      s.postResult n 1 stamp payload
    | _ => if s.kerbFree t then some (s.tileKerbPost t (field v 43 3) stamp (field v 46 10) true) else none

/-- The cache key of a line: its set is bits [11:3] of the route index, so bits [8:0] of the line number (R198). -/
def cacheFind (u : NeuronUnit) (line : Nat) : Option (Nat × CacheLine) :=
  ((List.range 4).map (fun w => 4 * (line % 512) + w)).findSome? (fun k =>
    match u.cache.find? k with
    | some l => if l.line = line then some (k, l) else none
    | none => none)

/-- The tree bits of a set after its way `w` was used: bit 0 the root, bits 1 and 2 its pairs. -/
def plruTouch (bits w : Nat) : Nat :=
  let root := if w < 2 then 1 else 0
  if w < 2 then put 0 1 root + put 1 1 (1 - w) + put 2 1 (field bits 2 1)
  else put 0 1 root + put 1 1 (field bits 1 1) + put 2 1 (3 - w)

/-- The way a set gives up; with pinned lines only ways 2 and 3 (R198). -/
def plruVictim (bits : Nat) (pinned : Bool) : Nat :=
  if pinned ∨ bitAt bits 0 then 2 + field bits 2 1 else field bits 1 1

/-- The eight entries of a line of the route table. -/
def State.routeLine (s : State) (line : Nat) : List (BitVec 64) :=
  (List.range 8).map (fun i => BitVec.ofNat 64 (Memory.readNat s.mem (s.nat Ob.routeTableBase + 64 * line + 8 * i) 8))

/-- A line put into the cache: the first free way it may use, else the pseudo-least-recently-used one; a pinned line that was
invalidated comes back pinned, in way 0 or 1 (R198). -/
def NeuronUnit.fill (u : NeuronUnit) (line : Nat) (es : List (BitVec 64)) : NeuronUnit :=
  let base := 4 * (line % 512)
  if u.pinBack.contains line then
    let way := if (u.cache.find? base).isNone then 0 else 1
    { u with cache := u.cache.set (base + way) ⟨line, true, es⟩, pinBack := u.pinBack.filter (· != line) }
  else
  let pinned := u.pinBack.any (fun l => l % 512 == line % 512) || (List.range 2).any (fun w => match u.cache.find? (base + w) with
    | some l => l.pinned
    | none => false)
  let free := ((List.range 4).filter (fun w => !(pinned && decide (w < 2)))).find? (fun w => (u.cache.find? (base + w)).isNone)
  let way := free.getD (plruVictim (u.plru.get 0 (line % 512)) pinned)
  { u with cache := u.cache.set (base + way) ⟨line, false, es⟩, plru := u.plru.set (line % 512) (plruTouch (u.plru.get 0 (line % 512)) way) }

/-- The entries of a walk in its present line, applied in turn: the walk after them, and whether it has to hold. -/
def State.applyLine (s : State) (t : Nat) : RouteWalk → List (BitVec 64) → Bool × RouteWalk × State
  | wk, [] => (false, wk, s)
  | wk, e :: es =>
    if wk.left = 0 then (false, wk, s)
    else match s.applyRoute t wk e with
      | none => (true, { wk with fetched := true }, s)
      | some s1 => s1.applyLine t { wk with next := wk.next + 1, left := wk.left - 1 } es

/-- Whether a line can be asked for from DRAM: at most 8 reads at once, and 32 transactions (R198). -/
def State.canAsk (s : State) (t line : Nat) : Bool :=
  let u := s.nunit t
  !u.misses.contains line && decide (u.misses.length < 8) && decide ((s.tile t).outstanding < 32) && (cacheFind u line).isNone

/-- A line asked for from DRAM, if it can be. -/
def State.askLine (s : State) (t line : Nat) : State :=
  if s.canAsk t line then (s.modUnit t (fun u => { u with misses := u.misses ++ [line] })).showOutstanding t else s

/-- The next line of a walk's list asked for ahead, as each line read does (R198). -/
def State.prefetch (s : State) (t : Nat) (wk : RouteWalk) : State :=
  if wk.next / 8 < (wk.next + wk.left - 1) / 8 then s.askLine t (wk.next / 8 + 1) else s

/-- The first walk of a tile carried on by one line, and whether the walks can go on. A miss asks for the line; the first reading of a
line, from the cache or not, asks for the next one of the list (R198). -/
def State.walkLine (s : State) (t : Nat) : Bool × State :=
  match (s.nunit t).walks with
  | [] => (false, s)
  | wk :: rest =>
    if wk.left = 0 then (true, s.modUnit t (fun u => { u with walks := rest }))
    else
      let line := wk.next / 8
      match cacheFind (s.nunit t) line with
      | some (key, l) =>
        let s1 := (if wk.fetched then s else (s.count 64 (Ob.routeCacheHits t) 1).prefetch t wk).modUnit t (fun u =>
          { u with plru := u.plru.set (line % 512) (plruTouch (u.plru.get 0 (line % 512)) (key % 4)) })
        let r := s1.applyLine t { wk with fetched := false } (l.entries.drop (wk.next % 8))
        (!r.1, r.2.2.modUnit t (fun u => { u with walks := (if r.2.1.left = 0 then [] else [r.2.1]) ++ rest }))
      | none =>
        if !s.canAsk t line then (false, s)
        else
          let s2 := ((s.count 64 (Ob.routeCacheMisses t) 1).askLine t line).prefetch t wk
          (false, s2.modUnit t (fun u => { u with walks := { wk with fetched := true } :: rest }))

/-- The walks of a tile carried on as far as they can go. -/
def State.runWalks (t : Nat) : Nat → State → State
  | 0, s => s
  | fuel + 1, s =>
    let r := s.walkLine t
    if r.1 then State.runWalks t fuel r.2 else r.2

/-- Enough fuel for every walk of a tile: a line takes at most two rounds. -/
def State.walkFuel (s : State) (t : Nat) : Nat := sumNat ((s.nunit t).walks.map (fun w => 2 * w.left + 4))

/-- The walks of a tile carried on. -/
def State.fanOut (s : State) (t : Nat) : State := s.runWalks t (s.walkFuel t)

/-! ## Slot 7, class 0 (Table 7-7) -/

/-- The issue sequence of an injection on its tile within its step, counted (R195). -/
def State.injectSource (s : State) (t step : Nat) : Nat := 8192 + min 8191 ((s.nunit t).injSeq.get 0 step)

/-- One more injection of a tile in a step. -/
def State.countInject (s : State) (t step : Nat) : State :=
  s.modUnit t (fun u => { u with injSeq := u.injSeq.set step (u.injSeq.get 0 step + 1) })

/-- M raised to a value, held at D − Input Guard outside REPLAY; M never decreases (R187). -/
def State.raiseMark (s : State) (t v : Nat) : State :=
  let n := s.tileCtx t
  let cap := s.time - s.nat (Ob.inputGuard n)
  let v' := if s.nat (Ob.arithmeticMode n) = 3 then v else min v cap
  s.setNat (Ob.inputMark t) (max (s.nat (Ob.inputMark t)) v')

/-- The effect of a neuron operation; `o` is the tile before the bundle. -/
def State.runNeuron (s : State) (t : Nat) (o : Tile) (op : NeuronOp) : State :=
  let n := s.tileCtx t
  match op with
  | .inject stamp data =>
    let step := (o.greg stamp).toNat / s.delta n
    let d := (o.greg data).toNat
    if !s.resident t (field d 0 13) then s.raise 0x0405 t
    else (s.addInput t (field d 0 13) step (orderKey t (s.injectSource t step)) (BitVec.ofNat 16 (field d 16 16)) false).countInject t step
  | .injectRoute stamp data =>
    let step := (o.greg stamp).toNat / s.delta n
    let d := (o.greg data).toNat
    let base := field d 0 25
    let cnt := field d 25 13
    let lo := s.nat (Ob.routeBase n)
    if base < lo ∨ lo + s.nat (Ob.routeCount n) < base + cnt then s.raise 0x0405 t
    else
      let wk : RouteWalk := ⟨step, 0, s.injectSource t step, base, cnt, false⟩
      ((s.countInject t step).modUnit t (fun u => { u with walks := u.walks ++ [wk] })).fanOut t
  | .nadd src delay first =>
    let lanes := o.vreg src.val
    let last := match (s.nunit t).released with
      | some k => max k ((s.ctx n).current.getD 0)
      | none => s.nextStep n
    let step := last + delay.val + 1
    (List.range 64).foldl (fun s i =>
      if s.resident t (first.toNat + i) then s.addInput t (first.toNat + i) step none (BitVec.ofNat 16 (lanes.getD i 0)) false else s) s
  | .inputMark src => s.raiseMark t (o.greg src).toNat
  | .done src =>
    let k := (o.greg src).toNat
    if (s.nunit t).released = some k then
      s.modUnit t (fun u => { u with done := some k })
    else s.raise 0x0406 t
  | .stepStatus dst => s.modTile t (fun tl => tl.setG dst (BitVec.ofNat 64 ((s.nunit t).released.getD 0)))

/-! ## Steps (R186 to R191) -/

/-- INPUT_MARK_AUTO_RAISE: outside REPLAY, with an empty delivery ring, M rises to D − Input Guard (R187). -/
def execInputMarkAutoRaise (t : Nat) (tile : Fin 64) (s0 : State) : Host.Outcome State Fault Refusal :=
  let s := s0.advance t
  let n := s.tileCtx tile
  if n < 8 ∧ s.ctxState n = 2 ∧ s.nat (Ob.arithmeticMode n) ≠ 3 ∧ (s.tile tile).ringHeld = 0 then
    ok (s.raiseMark tile (s.time - s.nat (Ob.inputGuard n)))
  else ok s

/-- Whether a tile holds input for a step. -/
def State.hasInput (s : State) (t step : Nat) : Bool :=
  let u := s.nunit t
  u.pending.any (fun e => e.2 && e.1 / 8192 == step % 16) || u.ordered.any (fun o => o.slot == step)

/-- Whether some neuron of a tile is active. -/
def State.anyActive (s : State) (t : Nat) : Bool := (s.nunit t).neurons.any (fun e => e.2.active)

/-- Step `j` is complete or skipped: logical time after it (R191), and far-list entries that the next step brings into reach (R193). -/
def State.stepDone (s : State) (n j : Nat) : State :=
  let lt := (j + 1) * s.delta n
  let s1 := s.modCtx n (fun c => { c with current := some j, opened := none, doneTiles := [], logical := some lt })
  (s.ctxTiles n).foldl (fun s x => s.farMove x (j + 1)) (s1.setNat (Ob.logicalTime n) lt)

/-- STEP_OPEN: once every mark has passed the step's end, the origin tile opens the next step or skips it (R188, R191). -/
def execStepOpen (t : Nat) (n : Fin 8) (s0 : State) : Host.Outcome State Fault Refusal :=
  let s := s0.advance t
  let c := s.ctx n
  let ts := s.ctxTiles n
  let j := s.nextStep n
  if s.ctxState n ≠ 2 ∨ c.swapping ∨ c.rewriting ∨ !s.spiking n ∨ c.logical = none ∨ c.opened ≠ none
      ∨ ts.any (fun x => decide (s.nat (Ob.inputMark x) < (j + 1) * s.delta n)) then ok s
  else
    let s1 := ts.foldl (fun s x => s.farMove x j) s
    if s.on (Ob.programParticipation n) ∨ ts.any s1.anyActive ∨ ts.any (fun x => s1.hasInput x j) then
      let s2 := (s1.modCtx n (fun c => { c with opened := some j, openedAt := s.time, doneTiles := [] })).setNat (Ob.currentStep n) j
      ok (ts.foldl (fun s x => s.setNat (Ob.stepPhase x) 1) s2)
    else
      let s2 := (s1.stepDone n j).count 64 (Ob.stepsSkipped n) 1
      ok (ts.foldl (fun s x => s.progress x) s2)

/-- The ordered inputs of a neuron in a step, in ascending key order (R195). -/
def orderedFor (l : List OrderedInput) (step neuron : Nat) : List (BitVec 16) :=
  let mine := l.filter (fun o => o.slot == step && o.neuron == neuron)
  (mine.foldl insert []).map (·.weight)
where
  /-- An input put behind those with a lower or equal key. -/
  insert (sorted : List OrderedInput) (x : OrderedInput) : List OrderedInput :=
    sorted.takeWhile (fun y => decide (y.key ≤ x.key)) ++ x :: sorted.dropWhile (fun y => decide (y.key ≤ x.key))

/-- Whether a neuron is due in a step (R190). -/
def neuronDue (u : NeuronUnit) (k neuron : Nat) (x : Neuron) : Bool :=
  u.pending.get false (8192 * (k % 16) + neuron) || x.active || u.ordered.any (fun o => o.slot == k && o.neuron == neuron)

/-- The dynamics of step `k` (R189): the unit after them and the neurons that spiked, in ascending number. -/
def dynamics (u : NeuronUnit) (k : Nat) : NeuronUnit × List Nat × Nat :=
  let due := u.neurons.filter (fun e => neuronDue u k e.1 e.2)
  let step := fun (acc : NeuronUnit × List Nat) (e : Nat × Neuron) =>
    let r := updateNeuron acc.1 k e.2 (orderedFor u.ordered k e.1) acc.1.gen
    ({ acc.1 with neurons := acc.1.neurons.set e.1 r.1, gen := r.2.2 }, if r.2.1 then acc.2 ++ [e.1] else acc.2)
  let out := due.foldl step (u, [])
  let u1 := { out.1 with pending := out.1.pending.filter (fun e => e.1 / 8192 != k % 16),
                         ordered := out.1.ordered.filter (fun o => o.slot != k) }
  (u1, out.2, due.length)

/-- The spike map's bytes (R200). -/
def spikeMapBytes (spiked : List Nat) : List Byte :=
  (List.range 1024).map (fun i => BitVec.ofNat 8 (sumNat ((List.range 8).map (fun j => bnat (spiked.contains (8 * i + j)) * 2 ^ j))))

/-- Spike-map bytes written into the scratchpad. -/
def State.writeMap (s : State) (t a : Nat) (bs : List Byte) : State := s.store (scratchAddr t a) bs

/-- Step Phase of a tile whose step is released (Table 7-9). -/
def State.phase (s : State) (t k : Nat) : Nat :=
  let u := s.nunit t
  if u.walks ≠ [] ∨ s.market.spikes.any (fun m => m.fromTile == t) then 3
  else if s.on (Ob.programParticipation (s.tileCtx t)) ∧ u.done ≠ some k then 4
  else 3

/-- STEP_RELEASE: a tile receives the release of the open step and runs dynamics, writes the spike map, wakes its front
end and fans out (R183, R189, R197, R200, R201). -/
def execStepRelease (t : Nat) (tile : Fin 64) (s0 : State) : Host.Outcome State Fault Refusal :=
  let s := s0.advance t
  let n := s.tileCtx tile
  match (s.ctx n).opened with
  | none => ok s
  | some k =>
    if !s.tileRuns tile ∨ (s.nunit tile).released = some k then ok s
    else
      let s1 := s.farMove tile k
      let d := dynamics (s1.nunit tile) k
      let walk := fun (i : Nat) => match d.1.neurons.find? i with
        | some x => if x.routeCount = 0 then none else some (⟨k + 1, i, i, x.routeBase, x.routeCount, false⟩ : RouteWalk)
        | none => none
      let u1 := { d.1 with released := some k, dynDone := some k, walks := d.1.walks ++ d.2.1.filterMap walk,
                           injSeq := d.1.injSeq.filter (fun e => decide (k < e.1)) }
      let s2 := (s1.modUnit tile (fun _ => u1)).writeMap tile (u1.spikeBase + 1024 * (k % 2)) (spikeMapBytes d.2.1)
      let s3 := ((s2.count 64 (Ob.spikes n) d.2.1.length).setNat (Ob.neuronsUpdatedLastStep tile) d.2.2).setNat (Ob.orderedListFill tile) u1.ordered.length
      let s4 := if s.on (Ob.programParticipation n) then s3.modTile tile (fun tl => { tl with wake := tl.wake || tl.asleep }) else s3
      let s5 := (s4.progress tile).fanOut tile
      ok (s5.setNat (Ob.stepPhase tile) (s5.phase tile k))

/-- STEP_DONE_REPORT: a tile whose spikes are all acknowledged, and whose program has issued DONE where it participates,
reports done; the last report completes the step (R188, R189, R191). -/
def execStepDoneReport (t : Nat) (tile : Fin 64) (s0 : State) : Host.Outcome State Fault Refusal :=
  let sa := s0.advance t
  let n := sa.tileCtx tile
  match (sa.ctx n).opened with
  | none => ok sa
  | some k =>
    if !sa.tileRuns tile ∨ (sa.nunit tile).released ≠ some k ∨ (sa.ctx n).doneTiles.contains tile.val then ok sa
    else
      let s := sa.fanOut tile
      let u := s.nunit tile
      let busy := u.walks ≠ [] ∨ s.market.spikes.any (fun m => m.fromTile == tile.val)
      let waits := s.on (Ob.programParticipation n) ∧ u.done ≠ some k
      if busy ∨ waits ∨ (s.tile tile).openWrites ≠ [] then ok (s.setNat (Ob.stepPhase tile) (s.phase tile k))
      else
        let s1 := (s.modCtx n (fun c => { c with doneTiles := tile.val :: c.doneTiles })).setNat (Ob.stepPhase tile) 5
        if (s1.ctxTiles n).all (fun x => (s1.ctx n).doneTiles.contains x) then
          let took := s1.time - (s1.ctx n).openedAt
          let s2 := ((s1.stepDone n k).count 64 (Ob.stepsExecuted n) 1).setNat (Ob.longestStep n) (satNat (2 ^ 32 - 1) (max (s1.nat (Ob.longestStep n)) took))
          if (s2.ctx n).watermarked then ok s2 else ok ((s2.endEvaluation n).beginSwap n)
        else ok s1

/-- SPIKE_MESSAGE: the message at place `i` among those on their way arrives; one of delay 16 holds until its destination's own dynamics
of the step that sent it have finished, and none overtakes what its source tile sent earlier to its destination, spike messages or
transactions of class C2 (R124, R182, R185, R197). -/
def execSpikeMessage (t : Nat) (i : Nat) (s0 : State) : Host.Outcome State Fault Refusal :=
  let s := s0.advance t
  match s.market.spikes[i]? with
  | none => ok s
  | some m =>
    let earlier := (s.market.spikes.take i).any (fun q => q.tile == m.tile && q.fromTile == m.fromTile)
    let behind := (s.tile m.fromTile).trans.any (fun x => accessDest x.acc == m.tile && decide (x.seq < m.seq))
    let early : Bool := match m.after with
      | some k => (s.nunit m.tile).dynDone.all (fun d => decide (d < k))
      | none => false
    if earlier ∨ behind ∨ early then ok s
    else
      let s1 := { s with market := { s.market with spikes := dropNth s.market.spikes i } }
      ok (s1.addInput m.tile m.neuron m.step (orderKey m.fromTile m.source) m.weight (decide (m.source < 8192)))

/-- A line of routes could not be read: what is left from it on of the first list that reads it is not sent (R199). -/
def dropFrom (line : Nat) : List RouteWalk → List RouteWalk
  | [] => []
  | wk :: rest =>
    if wk.next / 8 ≤ line ∧ line ≤ (wk.next + wk.left - 1) / 8 ∧ 0 < wk.left then
      (if wk.next / 8 = line then [] else [{ wk with left := 8 * line - wk.next }]) ++ rest
    else wk :: dropFrom line rest

/-- ROUTE_CACHE_MISS_RESPONSE: the route line asked for first arrives and the walks go on; an error response raises fault
0x0404, and the rest of its list is not sent (R198, R199). -/
def execRouteCacheMissResponse (t : Nat) (tile : Fin 64) (error : Bool) (s0 : State) : Host.Outcome State Fault Refusal :=
  let s := s0.advance t
  match (s.nunit tile).misses with
  | [] => ok s
  | line :: rest =>
    let s1 := (s.modUnit tile (fun u => { u with misses := rest })).showOutstanding tile
    if error then
      ok ((s1.modUnit tile (fun u => { u with walks := dropFrom line u.walks })).tileFault tile 0x0404)
    else ok ((s1.modUnit tile (fun u => u.fill line (s.routeLine line))).fanOut tile)

end Sys2Proof.Machine
end

