-- ==== Sys2Proof/Machine/Bundle.lean ====
section
/-! DEFINITION. A tile issues a bundle (R102 to R105, R112 to R114, R127, R129): slots 0 to 7 in one step, every operand read
from the tile as it was before. -/

namespace Sys2Proof.Machine

/-! ## WATERMARK -/

/-- WATERMARK of a context (R127, R157, R166, R428). -/
def State.watermark (s : State) (n v : Nat) : State :=
  let c := s.ctx n
  let s1 := match c.logical with
    | some l =>
      if s.spiking n then s
      else (s.modCtx n (fun c => { c with logical := some (max l v) })).setNat (Ob.logicalTime n) (max l v)
    | none => s
  let s2 := (s1.endEvaluation n).swapTheta n
  (s2.modCtx n (fun c => { c with boundLost := false, watermarked := true })).beginSwap n

/-! ## Slot 7 -/

/-- `n` bytes of the scratchpad of tile `t` from address `a` on. -/
def scratchBytes (mem : List Host.Cell) (t a n : Nat) : List Byte :=
  (List.range n).map (fun i => Memory.read mem (scratchAddr t (a % 0x100000 + i)))

/-- The record bytes of a submission (R217). -/
def State.submit (s : State) (mem : List Host.Cell) (n t a : Nat) : State :=
  let bytes := scratchBytes mem t a 64
  { s with market := { s.market with submissions := s.market.submissions ++ [⟨n, bytes⟩] } }

/-- The records of a context whose credit is out: on their way to the Square or held there as early (R217: 32 credits). -/
def State.inFlight (s : State) (n : Nat) : Nat :=
  (s.market.submissions.filter (fun x => x.ctx == n)).length + (s.square.held.filter (fun x => x.1 == n)).length

/-- Why slot 7 has to hold its bundle now, if it has to (R113, Table 4-1). -/
def State.syncHold (s : State) (t : Nat) (o : Tile) (sl : SyncSlot) : Hold :=
  let n := s.tileCtx t
  if !o.predOn sl.pred then .none
  else match sl.op with
    | .wait id target => if syncReached (o.obj id.toNat) target.toNat then .none else .wait id.toNat target.toNat
    | .kerbPost _ _ _ => if s.kerbFree t then .none else .kerbRate
    | .submit _ => if s.inFlight n < 32 then .none else .submitCredit
    | .resultPost _ _ _ => if !s.posting n ∨ (s.queue n).posts.length < 8 then .none else .resultCredit
    | _ => .none

/-- Whether a context's result records depend only on layers that are not executed (R138). -/
def Context.emptyResult (c : Context) : Bool :=
  match c.pkg with
  | some p => p.resultLayers != [] && p.resultLayers.all (fun l => (unexecuted p.layers).contains l)
  | none => false

/-- The effect of slot 7; `mem` is memory as it was before the bundle (R103). A result record that depends only on layers that are not
executed has no payload (R138). -/
def State.runSync (s : State) (mem : List Host.Cell) (t : Nat) (o : Tile) (sl : SyncSlot) : State :=
  let n := s.tileCtx t
  if !o.predOn sl.pred then s
  else match sl.op with
    | .nop => s
    | .wait _ _ => s
    | .neuron op => s.runNeuron t o op
    | .post id count => if count = 0 then s else s.sendPost t id.toNat count.toNat
    | .test id target dst =>
      let d := signed 32 ((o.obj id.toNat + 2 ^ 32 - target.toNat) % 2 ^ 32)
      s.modTile t (fun tl => tl.setG dst (BitVec.ofInt 64 d))
    | .set id value =>
      if id = 255 then s else s.modTile t (fun tl => { tl with sync := tl.sync.set id.toNat value.toNat })
    | .release k => s.modTile t (fun tl => { tl with ringHeld := tl.ringHeld - min k.toNat tl.ringHeld })
    | .watermark src => s.watermark n (o.greg src).toNat
    | .sleep => (s.modTile t (fun tl => { tl with asleep := true, wake := false })).setNat (Ob.tileState t) 1
    | .kerbPost k level width => s.tileKerbPost t k.val s.time width.toNat level
    | .submit addr => s.submit mem n t (o.greg addr).toNat
    | .resultPost stamp addr length =>
      let len := if (s.ctx n).emptyResult then 0 else min 4080 (o.greg length).toNat
      (s.postResult n 0 (o.greg stamp).toNat (scratchBytes mem t (o.greg addr).toNat len)).getD s

/-! ## Flow (R104) -/

/-- The loops that a branch to `target` leaves active: leaving a loop ends it and every loop inside it. Innermost first. -/
def loopsAfterBranch (target : Nat) (loops : List HwLoop) : List HwLoop :=
  (loops.reverse.takeWhile (fun l => decide (l.first ≤ target ∧ target ≤ l.last))).reverse

/-- Where a tile goes after the bundle at `pc` without a branch: loops end at no cost. -/
def flowOn (pc : Nat) : List HwLoop → Nat × List HwLoop
  | [] => ((pc + 1) % 1024, [])
  | l :: ls =>
    if pc = l.last then
      if 1 < l.left then (l.first, { l with left := l.left - 1 } :: ls) else flowOn pc ls
    else ((pc + 1) % 1024, l :: ls)

/-- The branch a bundle takes, if it takes one: only slot 0 branches. -/
def branchTarget (o : Tile) (sl : ScalarSlot) : Option Nat :=
  if o.predOn sl.pred ∧ sl.op = .branch then some ((scalarB sl o).toNat % 1024) else none

/-- The loops with the one that slot 1 begins: at most four. -/
def loopsBegun (o : Tile) (sl : ScalarSlot) : List HwLoop :=
  match sl.op with
  | .loop it last =>
    if o.predOn sl.pred ∧ 1 ≤ it.toNat ∧ it.toNat ≤ 65536 ∧ o.loops.length < 4 then
      ⟨(o.pc + 1) % 1024, last.toNat, it.toNat⟩ :: o.loops
    else o.loops
  | _ => o.loops

/-- A program counter moved past the bundles of layers that are not executed (R138). -/
def skipTo : List (Nat × Nat) → Nat → Nat
  | [], pc => pc
  | r :: rs, pc => skipTo rs (if r.1 ≤ pc ∧ pc ≤ r.2 then (r.2 + 1) % 1024 else pc)

/-- Program counter and loops after a bundle. -/
def nextFlow (o : Tile) (b : Bundle) : Nat × List HwLoop :=
  let loops := loopsBegun o b.s1
  match branchTarget o b.s0 with
  | some tgt => (skipTo o.skips tgt, loopsAfterBranch tgt loops)
  | none =>
    let f := flowOn o.pc loops
    (skipTo o.skips f.1, f.2)

/-! ## The bundle -/

/-- The eight slots of a bundle on the tile `o`, which took `fd` from its generators: slot 2 before slot 3 before slot 4 for the rounding
generator (R119), SET and POST of slot 7 after the other registers, and the writes to the scratchpad last, ag2 before the scalar store
(R101, R103). -/
def State.runBundle (s : State) (t : Nat) (o : Tile) (b : Bundle) (fd : Feeds) : State :=
  let s0 := s.modTile t (fun tl => { tl with ags := fd.ags })
  let s1 := (s0.runScalar t o b.s0).runScalar t o b.s1
  let s2 := (s1.runVector t o b.s2 fd.v2).runVector t o b.s3 fd.v3
  let s3 := s2.runMac t o b.s4 fd.mac
  let s4 := if fd.out = [] then s3 else s3.acceptRow t fd.out
  let s5 := (s4.runAg s.mem t o false b.s5).runAg s.mem t o true b.s6
  let f := nextFlow o b
  let s6 := s5.modTile t (fun tl => { tl with pc := f.1, loops := f.2, hold := .none })
  ((s6.count 64 (Ob.bundlesRetired t) 1).runSync s.mem t o b.s7).runStore t o b.s0

/-- BUNDLE_ISSUE: a tile of a RUNNING context that is neither asleep nor held by its transactions issues the bundle at its
program counter; a bundle whose interlock, wait or credit is not met holds (R102, R103, R109, R113). -/
def execBundleIssue (t : Nat) (tile : Fin 64) (s0 : State) : Host.Outcome State Fault Refusal :=
  let s := s0.advance t
  let o := s.tile tile
  if !s.tileRuns tile ∨ o.asleep ∨ o.hold = .transactions then ok s
  else
    let b := o.code.get Bundle.nop o.pc
    match s.syncHold tile o b.s7, s.feeds tile o b with
    | .none, some fd =>
      let s1 := if o.hold = .none then s else s.setNat (Ob.tileState tile) 2
      ok ((s1.runBundle tile o b fd).progress tile)
    | .none, none => ok (s.holdTile tile (.generator b.s4.input.toNat))
    | h, _ => ok (s.holdTile tile h)

end Sys2Proof.Machine
end

