-- ==== Sys2Proof/Machine/Contexts.lean ====
section
/-! DEFINITION. Context commands (R329, Table 13-2, Table 4-8), the weight swap (R428, R429), lag (R127), and the adaptive
loops of the tiles (R164 to R171). -/

namespace Sys2Proof.Machine

/-! ## Weights and objects of a package -/

/-- The placement a context was loaded with. -/
def Context.content (c : Context) : Option Placement := c.pkg.bind (fun p => p.placements[c.placement]?)

/-- The weight blocks of a placement written into a partition (R428). -/
def State.writeWeights (s : State) (n : Nat) (p : Placement) : State :=
  p.weights.foldl (fun s w => s.store (scratchAddr (nth 0 (s.ctxTiles n) w.1) w.2.1) w.2.2) s

/-- The keys of the objects held with context `n` (R345). -/
def ctxKey (n k : Nat) : Bool := k / 256 == 0x2410 + n || k / 256 == 0x2510 + n || k / 256 == 0x2610 + n

/-- An object of section 7 put into the object of context `n` it is moved to; only objects a master may write take a value (R419;
log entry 54). A DOMAIN's bytes are the number's, least significant first. -/
def State.writeCtxObject (s : State) (n index sub v : Nat) : State :=
  let k := (index + n) * 256 + sub
  match objRow k with
  | some r =>
    if ctxKey n k && r.acc == .rw then
      match r.ty, r.rng with
      | .dom, .dom size => s.setDom k (leBytes size v)
      | _, _ => s.setNat k v
    else s
  | none => s

/-- The context objects of a package (section 7): each index moved to context `n` (R419). -/
def State.writeCtxObjects (s : State) (n : Nat) (p : Package) : State :=
  p.objects.foldl (fun s o => s.writeCtxObject n o.1 o.2.1 o.2.2) s

/-- The security version of the package a context runs, kept for the loader's check (R407). -/
def State.noteRan (s : State) (n : Nat) : State :=
  match (s.ctx n).pkg with
  | some p => { s with loader := { s.loader with versions := s.loader.versions.set n p.securityVersion } }
  | none => s

/-- The staged weights applied: weights and context objects, and an exact first evaluation (R428). -/
def State.applySwap (s : State) (n : Nat) : State :=
  match (s.ctx n).staged with
  | none => s
  | some p =>
    let fresh := fun (q : Package) =>
      { q with placements := q.placements.zipWith (fun a b => { a with weights := b.weights }) p.placements, layers := p.layers,
               objects := p.objects, securityVersion := p.securityVersion }
    let s0 := s.modCtx n (fun c =>
      { c with staged := none, swapAccepted := false, swapping := false, exactNow := true, pkg := c.pkg.map fresh })
    let s1 := match (s0.ctx n).content with
      | some pl => s0.writeWeights n pl
      | none => s0
    let s3 := s1.writeCtxObjects n p
    let s2 := if s.ctxState n = 2 then s3.noteRan n else s3
    if s.nat Ob.commitPending = 2 then s2.setNat Ob.commitPending 0 else s2

/-- A committed swap of a context whose tiles have halted is applied (R429). -/
def State.swapIfCommitted (s : State) (n : Nat) : State := if (s.ctx n).swapAccepted then s.applySwap n else s

/-- WEIGHT_SWAP_COMPLETE: the staged weights stand in the halted tiles, which resume (R428). -/
def execWeightSwapComplete (t : Nat) (n : Fin 8) (s0 : State) : Host.Outcome State Fault Refusal :=
  let s := s0.advance t
  if (s.ctx n).swapping then ok (s.applySwap n) else ok s

/-! ## Starting and stopping -/

/-- The pinned range of routes loaded into ways 0 and 1 of every set (R198). -/
def State.pinnedCache (s : State) (first : Nat) : SMap CacheLine :=
  (List.range 1024).foldl (fun m i =>
    let line := first / 8 + i
    let way := if (m.find? (4 * (line % 512))).isNone then 0 else 1
    m.set (4 * (line % 512) + way) ⟨line, true, s.routeLine line⟩) []

/-- A neuron unit at the start of its context: generator seeded, cache invalidated, no step released (R181, R198). -/
def NeuronUnit.start (u : NeuronUnit) (seed : Nat) (cache : SMap CacheLine) : NeuronUnit :=
  { u with gen := BitVec.ofNat 64 seed, cache := cache, plru := [], walks := [], misses := [], released := none,
           dynDone := none, done := none, injSeq := [], pinBack := [] }

/-- A tile at the start of its context: bundle 0, sync objects 0, generator seeded, delivery ring empty (R112, R119). -/
def Tile.start (tl : Tile) (roundSeed neuronSeed : Nat) (cache : SMap CacheLine) : Tile :=
  { tl with pc := skipTo tl.skips 0, loops := [], sync := [], gen := BitVec.ofNat 64 roundSeed, ringNext := 0, ringHeld := 0, hold := .none,
            asleep := false, wake := false, unit_ := tl.unit_.start neuronSeed cache }

/-- A LOADED context starts (Table 13-2): RUNNING, arithmetic mode START where Start Evaluations is above 0, no logical
time, Context Status 0 (R112, R119, R128, R158, R162, R181, R198), and each tile at its starting clock and voltage (Table 15-2). -/
def State.startContext (s : State) (n : Nat) : State :=
  let k := s.nat (Ob.startEvaluations n)
  let pin := match (s.ctx n).pkg.bind (·.pinned) with
    | some off => s.pinnedCache (s.nat (Ob.routeBase n) + off)
    | none => []
  let s1 := (s.noteRan n).modCtx n (fun c =>
    { c with
        logical := none, exactNow := true, exactNext := false, needRewrite := false, lateStep := none, startLeft := k,
        opened := none, current := none, doneTiles := [], boundLost := false, watermarked := false, pausing := false })
  let s2 := s1.setAll [(Ob.contextState n, 2), (Ob.arithmeticMode n, bnat (decide (0 < k))), (Ob.contextStatus n, 0),
    (Ob.logicalTime n, 0), (Ob.lag n, 0)]
  (s2.ctxTiles n).foldl (fun s t =>
    ((s.modTile t (fun tl => tl.start (s.nat (Ob.roundingSeed t)) (s.nat (Ob.neuronSeed n)) pin)).setAll
      [(Ob.tileState t, 2), (Ob.inputMark t, 0), (Ob.stepPhase t, 0)]).startVolt t) (s2.showBounds n)

/-- A RUNNING or PAUSED context stops: LOADED, its tiles halted (Table 13-2). A committed swap is applied (R429). -/
def State.stopContext (s : State) (n : Nat) : State :=
  let s1 := if s.ctxState n = 2 then s.leaveRunning n else s
  let s2 := ((s1.setAll [(Ob.contextState n, 1), (Ob.lag n, 0)]).setMode n 0).stopTiles n 0
  (s2.modCtx n (fun c => { c with pausing := false, swapping := false, rewriting := false, needRewrite := false })).swapIfCommitted n

/-- A PAUSED context runs on, its first evaluation exact (R158); Context Status 0 (R128). -/
def State.runOn (s : State) (n : Nat) : State :=
  let s1 := (s.noteRan n).modCtx n (fun c => { c with exactNow := true, exactNext := false, pausing := false, rewriting := false, needRewrite := false })
  (s1.setAll [(Ob.contextState n, 2), (Ob.contextStatus n, 0)]).setTileStates n 2

/-- RESUME: after fault 0x0302 or 0x0307 the image is rewritten first (R128). -/
def State.resumeContext (s : State) (n : Nat) : State :=
  if (s.ctx n).needRewrite then (s.modCtx n (fun c => { c with rewriting := true })).setNat (Ob.contextStatus n) 0
  else s.runOn n

/-- The objects held with a context returned to their defaults (R345). -/
def State.clearCtxObjects (s : State) (n : Nat) : State :=
  { s with objs := s.objs.filter (fun e => !ctxKey n e.1), doms := s.doms.filter (fun e => !ctxKey n e.1) }

/-- The loader's firewall regions of a context freed (R413): regions 16 to 31 whose masks name it. -/
def State.freeRegions (s : State) (n : Nat) : State :=
  let clear := fun (i : Nat) => decide (16 ≤ i) && s.fwNat i 20 1 % 2 = 1 && bitAt (s.fwNat i 16 2) n
  s.setDom Ob.dramFirewall ((List.range 1024).map (fun k => if clear (k / 32) then 0 else s.domByte Ob.dramFirewall k))

/-- A context becomes EMPTY (Table 13-2): partition freed, tiles asleep, result queue emptied, route and DRAM ranges freed,
its staged set and its commit discarded (R413, R428, R429). -/
def State.unloadContext (s : State) (n : Nat) : State :=
  let ts := s.ctxTiles n
  let cnt := s.nat (Ob.routeCount n)
  let held := sumNat (ts.map (fun t => s.nat (Ob.tileNeuronsResident t)))
  let mine := fun (t : Nat) => ts.contains t
  let s1 := ts.foldl (fun s t =>
    (s.modTile t (fun _ => Tile.init)).setAll [(Ob.tileState t, 1), (Ob.tileContext t, 0xFF), (Ob.tileNeuronsResident t, 0),
      (Ob.outstandingTransactions t, 0), (Ob.stepPhase t, 0), (Ob.farListFill t, 0), (Ob.orderedListFill t, 0)]) s
  let pend := s.nat Ob.commitPending
  let s2 := s1.setAll [(Ob.routeEntriesFree, s.num Ob.routeEntriesFree + cnt), (Ob.neuronsResident, s.num Ob.neuronsResident - held),
    (Ob.commitPending, if pend = 2 ∧ (s.ctx n).swapAccepted then 0 else pend)]
  let s3 := ((s2.freeRegions n).emptyQueue n).clearCtxObjects n
  let s4 := s3.modCtx n (fun _ => Context.init)
  { s4 with market := { s4.market with posts := s4.market.posts.filter (fun p => !mine p.tile),
                                       spikes := s4.market.spikes.filter (fun m => !mine m.fromTile) } }

/-- CONTEXT_PAUSE_DONE: the outstanding transactions of a pausing context have ended and its tiles stop (R126); a committed
swap is applied (R429). -/
def execContextPauseDone (t : Nat) (n : Fin 8) (s0 : State) : Host.Outcome State Fault Refusal :=
  let s := s0.advance t
  if (s.ctx n).pausing ∧ s.quiet n then
    ok (((s.modCtx n (fun c => { c with pausing := false })).stopTiles n 4).swapIfCommitted n)
  else ok s

/-- Instruction stores, scratchpad contents with descriptors, and weights of a placement written into the tiles of a
partition (R128, R419). -/
def State.writeImage (s : State) (n : Nat) (p : Placement) : State :=
  let ts := s.ctxTiles n
  let s1 := (List.range ts.length).foldl (fun s i =>
    match p.tiles[i]? with
    | some im =>
      let code := (List.range im.code.length).filterMap (fun k => ((im.code[k]?).bind decodeBundle).map (fun b => (k, b)))
      im.scratch.foldl (fun s b => s.store (scratchAddr (nth 0 ts i) b.1) b.2) (s.modTile (nth 0 ts i) (fun tl => { tl with code := code }))
    | none => s) s
  s1.writeWeights n p

/-- IMAGE_REWRITE_DONE: instruction store, weights and descriptors stand again as in the context's DRAM image, and the
context resumes (R128). -/
def execImageRewriteDone (t : Nat) (n : Fin 8) (s0 : State) : Host.Outcome State Fault Refusal :=
  let s := s0.advance t
  if !(s.ctx n).rewriting then ok s
  else match (s.ctx n).content with
    | none => ok s
    | some p => ok ((s.writeImage n p).runOn n)

/-! ## Lag (R12, R127) -/

/-- The lag of a context: device time minus logical time, saturated; 0 without a logical time. -/
def State.lagOf (s : State) (n : Nat) : Nat :=
  match (s.ctx n).logical with
  | some l => satNat (2 ^ 32 - 1) (s.time - l)
  | none => 0

/-- LAG_PUBLISH: the lag of every RUNNING context that is not being swapped goes to the sampled register (R12, R127). -/
def execLagPublish (t : Nat) (s0 : State) : Host.Outcome State Fault Refusal :=
  let s := s0.advance t
  let live := (List.range 8).filter (fun n => s.ctxState n = 2 && !(s.ctx n).swapping)
  let s1 := live.foldl (fun s n => s.setNat (Ob.lag n) (s.lagOf n)) s
  ok { s1 with gate := { s1.gate with lags := live.map (fun n => (n, s.lagOf n)), lagStamp := s.time } }

/-! ## Voltage and clock (R164 to R170) -/

/-- Input Power measured; Input Energy counts what the power measured before brought since then (Table 14-6; log entry 89). -/
def State.meter (s : State) (power : Nat) : State :=
  let e := s.power.energyRest + s.nat Ob.inputPower * (s.time - s.power.meteredAt)
  let s1 := { s with power := { s.power with meteredAt := s.time, energyRest := e % 10000000000 } }
  (s1.count 64 Ob.inputEnergy (e / 10000000000)).setNat Ob.inputPower (satNat 600 power)

/-- VOLTAGE_LOOP_TICK: the voltage and clock loop of a running tile (R169, R170); `power` is the measured Input Power. -/
def execVoltageLoopTick (t : Nat) (tile : Fin 64) (canaries power : Nat) (s0 : State) :
    Host.Outcome State Fault Refusal :=
  let s := s0.advance t
  if !s.tileRuns tile then ok s
  else
    let s1 := (s.count 64 (Ob.lowCanaryCount tile) canaries).meter power
    if s.nat (Ob.loopMode tile) = 1 then
      let clock := min (s.nat (Ob.pinnedClock tile)) s.power.cap
      let mv := s.nat (Ob.pinnedVoltage tile)
      let excess := satNat 65535 (power - s.nat Ob.powerCap)
      let s2 := (s1.setVolt tile clock mv).setNat (Ob.powerPredictedExcess tile) excess
      ok (s2.raiseIf (decide (s.nat (Ob.powerPredictedExcess tile) = 0 ∧ 0 < excess)) 0x0502 tile)
    else
      let r := s.voltStep tile canaries power
      let s2 := (s1.setVolt tile r.1 r.2.1).modTile tile (fun tl => { tl with cut := r.2.2.1, periods := r.2.2.2.1 })
      ok (s2.raiseIf r.2.2.2.2 0x0506 tile)

/-- GUARD_CANARY_ERROR: the tile's voltage target becomes Vsafe(f) + 15 mV; the third event of a context within 1 s
withdraws its tolerance (R166). -/
def execGuardCanaryError (t : Nat) (tile : Fin 64) (s0 : State) : Host.Outcome State Fault Refusal :=
  let s := s0.advance t
  let n := s.tileCtx tile
  let clock := s.nat (Ob.tileClock tile)
  let s1 := (s.setVolt tile clock (s.vsafeOf tile clock + 15)).count 32 (Ob.guardCanaryCount tile) 1
  let s2 := s1.modTile tile (fun tl => { tl with periods := 0 })
  if n < 8 then
    let recent := s.time :: (s.ctx n).guards.filter (fun g => decide (s.time < g + 1000000000))
    let s3 := ((s2.count 32 (Ob.boundBreachCount n) 1).raise 0x0503 tile).modCtx n (fun c => { c with boundLost := true, guards := recent })
    if 3 ≤ recent.length ∧ !s.on (Ob.toleranceLocked n) then
      let s4 := (s3.setNat (Ob.toleranceLocked n) 1).raise 0x0504 n
      ok ((s4.holdVolts n).showBounds n)
    else ok s3
  else ok (s2.raise 0x0503 tile)

/-! ## The delta-threshold loop (R168, R171) -/

/-- θ lowered by max(1, θ / 4): in codes, or in BF16 ulps for a BF16 θ (R171). -/
def thetaDown (l : LayerInfo) (th : Nat) : Nat :=
  if 2 ≤ l.format then min (th - 1) (bf16.encode .nearest true (.fin false (thetaValue l th * 3 / 4)))
  else th - max 1 (th / 4)

/-- θ after an audit (R171), with the count of audits below half the target. -/
def thetaAfter (l : LayerInfo) (lo hi th low : Nat) (error target : Rat) : Nat × Nat :=
  if target < error then (max lo (thetaDown l th), 0)
  else if error < target / 2 then (if low + 1 = 4 then (min hi (th + 1), 0) else (th, low + 1))
  else (th, 0)

/-- The largest difference that the audits of a layer's tiles found (R171). -/
def auditError (samples : List AuditSample) : Rat :=
  (samples.map (fun x => absRat (x.exact - x.reused))).foldl max 0

/-- Whether an audit of a layer is due with these findings: every Audit Interval evaluations, up to 16 positions on each tile of the
context (R171). -/
def State.auditDue (s : State) (n layer : Nat) (samples : List AuditSample) : Bool :=
  let c := s.ctx n
  decide (s.ctxState n = 2 ∧ s.nat (Ob.auditInterval n) ≠ 0 ∧ layer < 256 ∧ 0 < c.evals ∧ c.evals % s.nat (Ob.auditInterval n) = 0)
    && decide (c.lastAudit.get 0 layer ≠ c.evals)
    && samples.all (fun x => (s.ctxTiles n).contains x.tile.val && decide ((samples.filter (fun y => y.tile == x.tile)).length ≤ 16))

/-- Theta Predicted Excess of a context whose θ is pinned (Table 6-3): the bound at the pinned θ above the target, in 1/16 LSB. -/
def State.thetaExcess (s : State) (n : Nat) (l : LayerInfo) (th : Nat) : Nat :=
  let excess := s.boundAt n l th - (s.nat (Ob.targetError n) : Rat) / 16
  if 0 < excess then satNat (2 ^ 32 - 1) (floorRat (excess * 16)).toNat else 0

/-- DELTA_AUDIT: the observed error of a delta-capable layer is reported, breaks the bound where it exceeds it, and moves its θ (R168,
R169, R171). The recomputed outputs are the tile programs' (log entry 86). -/
def execDeltaAudit (t : Nat) (n : Fin 8) (layer : Nat) (samples : List AuditSample) (s0 : State) : Host.Outcome State Fault Refusal :=
  let s := s0.advance t
  match (s.deltaLayers n).find? (fun l => l.number == layer) with
  | none => ok s
  | some l =>
    if !s.auditDue n layer samples then ok s
    else
      let th := (s.ctx n).theta.get 0 layer
      let error := auditError samples
      let target : Rat := (s.nat (Ob.targetError n) : Rat) / 16
      let bound := s.boundAt n l th
      let row := leBytes 4 (real32Bits bound) ++ leBytes 4 (real32Bits error)
      let s1 := (s.setDom (Ob.boundReport n) (putBytes (s.domBytes (Ob.boundReport n) 0 2048) (8 * layer) row)).modCtx n (fun c =>
        { c with lastAudit := c.lastAudit.set layer c.evals })
      let s2 := if bound < error then (s1.count 32 (Ob.boundBreachCount n) 1).raise 0x0505 n else s1
      if s.nat (Ob.thetaMode n) = 0 then
        let r := thetaAfter l (s.thetaRange n l).1 (s.thetaRange n l).2 th ((s.ctx n).lowAudits.get 0 layer) error target
        ok (s2.modCtx n (fun c => { c with thetaNext := c.thetaNext.set layer r.1, lowAudits := c.lowAudits.set layer r.2 }))
      else
        let excess := s.thetaExcess n l th
        ok ((s2.setNat (Ob.thetaPredictedExcess n) excess).raiseIf
          (decide (s.nat (Ob.thetaPredictedExcess n) = 0 ∧ 0 < excess)) 0x0502 n)

end Sys2Proof.Machine
end

