-- ==== Sys2Proof/Machine/Inputs.lean ====
section
/-! DEFINITION. Analog channels, inertial ports and encoders (R73 to R94, R269). -/

namespace Sys2Proof.Machine

/-! ## Access -/

/-- Channel `n`. -/
def State.chan (s : State) (n : Nat) : AnalogChan := s.inputs.chans.get AnalogChan.init n
/-- Channel `n` replaced. -/
def State.setChan (s : State) (n : Nat) (c : AnalogChan) : State :=
  { s with inputs := { s.inputs with chans := s.inputs.chans.set n c } }
/-- Inertial port `m`. -/
def State.inert (s : State) (m : Nat) : InertialPort := s.inputs.inertial.get InertialPort.init m
/-- Inertial port `m` replaced. -/
def State.setInert (s : State) (m : Nat) (c : InertialPort) : State :=
  { s with inputs := { s.inputs with inertial := s.inputs.inertial.set m c } }
/-- Encoder `e`. -/
def State.enc (s : State) (e : Nat) : Encoder := s.inputs.encoders.get Encoder.init e
/-- Encoder `e` replaced. -/
def State.setEnc (s : State) (e : Nat) (c : Encoder) : State :=
  { s with inputs := { s.inputs with encoders := s.inputs.encoders.set e c } }
/-- Sample ring `i`. -/
def State.ring (s : State) (i : Nat) : SampleRing := s.inputs.rings.get SampleRing.init i
/-- Sample ring `i` replaced. -/
def State.setRing (s : State) (i : Nat) (r : SampleRing) : State :=
  { s with inputs := { s.inputs with rings := s.inputs.rings.set i r } }

/-! ## Tables 3-1 and 3-2 -/

/-- Output period of a channel in ns (Table 3-2): preset 0 FAST to 3 STILL, mode 1 SETTLE. -/
def outputPeriod (preset mode : Nat) : Nat := 100 * 4 ^ preset * (if mode = 1 then 4 else 1)

/-- Base group delay in ps (Table 3-2): (107 R − 2) or (N − 3)/2 modulator samples of 6.25 ns. -/
def baseDelayPs (preset mode : Nat) : Nat :=
  if mode = 1 then (64 * 4 ^ preset - 3) * 3125 else (107 * (4 * 4 ^ preset) - 2) * 6250

/-- Boxcar steps L1 + L2 + L3 − 3 of a channel (R77). -/
def State.boxSteps (s : State) (n : Nat) : Nat :=
  s.nat (Ob.boxcarLength n 0) + s.nat (Ob.boxcarLength n 1) + s.nat (Ob.boxcarLength n 2) - 3

/-- Group Delay in ps (R77). -/
def State.groupDelayPs (s : State) (n : Nat) : Nat :=
  let pr := s.nat (Ob.preset n)
  let md := s.nat (Ob.filterMode n)
  baseDelayPs pr md + outputPeriod pr md * 500 * s.boxSteps n

/-- Settling count in samples (R77, Table 3-2). -/
def State.settlingCount (s : State) (n : Nat) : Nat :=
  (if s.on (Ob.filterMode n) then 2 else 55) + s.boxSteps n

/-- A value saturated to 24 bits (R76). -/
def sat24 (x : Int) : Int := clampInt (-8388608) 8388607 x

/-- A sample in whole LSB; one that is not whole is free (log entry 25). -/
def wholeOf (x : Rat) : Int := if x.den = 1 then x.num else Config.wholeSample x

/-- The sliding means of `len` values over a list, newest first, of the places that have `len` values. -/
def slide (len : Nat) : List Rat → List Rat
  | [] => []
  | x :: xs => if len ≤ xs.length + 1 then sumRat ((x :: xs).take len) / (len : Nat) :: slide len xs else []

/-- A list of values cut or padded with zeros to `n`. -/
def padRat (n : Nat) (l : List Rat) : List Rat := (List.range n).map (fun i => l.getD i 0)

/-- A cascade of boxcars over modulator samples, newest first: its latest output (R74). -/
def cascade : List Nat → List Rat → Rat
  | [], l => l.headD 0
  | len :: lens, l => cascade lens (slide len l)

/-- A filter of given taps over values, newest first. -/
def taps (n : Nat) (h : Nat → Rat) (l : List Rat) : Rat := sumRat ((List.range n).map (fun i => h i * l.getD i 0))

/-- Modulator samples in an output period: 4 R in normal mode, N in SETTLE (R74, Table 3-2). -/
def modsPerOutput (preset mode : Nat) : Nat := 16 * 4 ^ preset * (if mode = 1 then 4 else 1)

/-- Tap `i` of 95 of the final FIR in force: the device mirrors taps 0 to 46 (R82). -/
def State.finalTap (s : State) (n i : Nat) : Rat :=
  let j := if i < 48 then i else 94 - i
  if s.on (Ob.firSet n) then (signed 32 (s.domNat (Ob.customFir n) (4 * j) 4) : Rat) / 4194304 else Config.factoryFir j

/-- The decimating filter over one output period of modulator samples, oldest first: the channel's filter state after it and its output
(R74). Normal mode: a sinc⁴ CIC by R, the half-band by 2, the final FIR by 2; SETTLE: boxcars of N/4, N/4 and N/2. -/
def State.decimate (s : State) (n : Nat) (c : AnalogChan) (xs : List Int) : AnalogChan × Int :=
  let preset := s.nat (Ob.preset n)
  let mode := s.nat (Ob.filterMode n)
  let per := modsPerOutput preset mode
  let block := (padRat per (xs.map (fun (x : Int) => (x : Rat)))).reverse
  if mode = 1 then
    let all := block ++ c.mods
    ({ c with mods := all.take per },
      wholeOf (cascade [per / 4, per / 4, per / 2] (padRat (per - 2) all)))
  else
    let r := per / 4
    let all := block ++ c.mods
    let cic := (List.range 4).map (fun i => cascade [r, r, r, r] (padRat (4 * r - 3) (all.drop (i * r)))) ++ c.cic
    let half := (List.range 2).map (fun i => taps 23 Config.halfBand (cic.drop (2 * i))) ++ c.half
    ({ c with mods := all.take (4 * r), cic := cic.take 23, half := half.take 95 }, wholeOf (taps 95 (s.finalTap n) half))

/-- A mean of whole numbers; one that is not whole is free (log entry 25). -/
def meanOf (sum : Int) (n : Nat) : Int := if sum % (n : Int) = 0 then sum / (n : Int) else Config.mean sum n

/-- One boxcar step: the new history, newest first, and the average over its length (R74). -/
def boxStep (len : Nat) (hist : List Int) (x : Int) : List Int × Int :=
  let h := (x :: hist).take len
  (h, meanOf (sumInt h) len)

/-- The three boxcars in turn. -/
def boxcars : List Nat → List (List Int) → Int → List (List Int) × Int
  | l :: ls, h :: hs, x =>
    let r := boxStep l h x
    let rest := boxcars ls hs r.2
    (r.1 :: rest.1, rest.2)
  | _, _, x => ([], x)

/-- π to 30 digits. -/
def piRat : Rat := 3141592653589793238462643383280 / 1000000000000000000000000000000

/-- 1 − exp(−u) by its series, for the small u of R79. -/
def oneMinusExp (u : Rat) : Rat :=
  u - u ^ 2 / 2 + u ^ 3 / 6 - u ^ 4 / 24 + u ^ 5 / 120 - u ^ 6 / 720 + u ^ 7 / 5040 - u ^ 8 / 40320

/-- k_q32 = round(2^32 (1 − exp(−2π fc/fs))) with fc in mHz and the output period in ns (R79). -/
def dcGain (fcMilli period : Nat) : Int :=
  roundRat (4294967296 * oneMinusExp (2 * piRat * (fcMilli : Nat) * (period : Nat) / 1000000000000))

/-- The DC estimate after a sample (R79). -/
def dcStep (x dc k : Int) : Int := dc + (x * 2 ^ 32 - dc) * k / 2 ^ 32

/-- The DC estimate in LSB; R79 names no rule for a tie, and the model rounds it to even (log entry 84). -/
def dcLsb (dc : Int) : Int := divRoundNE dc (2 ^ 32)

/-- An analog entry (Table 3-4). -/
def analogEntry (y : Int) (interp overrun unsettled frozen : Bool) (stamp : Nat) : BitVec 64 :=
  BitVec.ofNat 64 (put 40 24 (unsigned 24 y) + put 39 1 (bnat interp) + put 38 1 (bnat overrun) + put 37 1 (bnat unsettled)
    + put 36 1 (bnat frozen) + put 0 10 (stamp % 1000))

/-- Whether a channel runs: enabled, with the device in STANDBY, READY or RUN (R73). -/
def State.chanRuns (s : State) (n : Nat) : Bool := s.on (Ob.channelEnable n) && s.evaluating

/-- A sample delivered: DC blocker, flags, entry (R79, R83). `x` is the boxcar output; an interpolated sample is `y` as
given and holds the estimate. -/
def State.deliverSample (s : State) (n : Nat) (x : Int) (overrun interp : Bool) (box : List (List Int)) : State :=
  let c := s.chan n
  let unsettled := decide (s.nat (Ob.channelState n) = 1)
  let dcOn := s.on (Ob.dcBlockerEnable n)
  let hold := s.on (Ob.dcFreeze n) || overrun || unsettled || interp
  let k := dcGain (s.nat (Ob.dcCorner n)) (outputPeriod (s.nat (Ob.preset n)) (s.nat (Ob.filterMode n)))
  let dc := if dcOn && !hold then dcStep x c.dc k else c.dc
  let y := if interp then x else if dcOn then sat24 (x - dcLsb dc) else x
  let e := analogEntry y interp overrun unsettled (dcOn && hold) s.time
  let s1 := s.setChan n { c with
    dc := dc, box := box, settleLeft := c.settleLeft - 1, periods := c.periods + 1, y1 := y, y2 := c.y1, entries := c.entries ++ [(s.time, e)], recent := ((s.time, y) :: c.recent).take 4096 }
  let s2 := (s1.setNat (Ob.lastSample n) e.toNat).setNum (Ob.dcEstimate n) (sat24 (dcLsb dc))
  if overrun then s2.count 32 (Ob.overrangeCount n) 1 else s2

/-- The estimate a channel starts from (R80). -/
def State.dcStart (s : State) (n : Nat) (held : Option Int) : Int :=
  match s.on (Ob.dcPreloadSource n), held with
  | true, some d => d
  | _, _ => s.num (Ob.dcPreload n) * 2 ^ 32

/-- The chain restarted in SETTLING (R76, R78, R80). -/
def State.restartChan (s : State) (n : Nat) : State :=
  let c := s.chan n
  let dc := s.dcStart n c.dcHeld
  ((s.setChan n { c with
      mods := [], cic := [], half := [], periods := 0, dc := dc, box := [[], [], []], settleLeft := s.settlingCount n, y1 := 0, y2 := 0 }).setNat
    (Ob.channelState n) 1).setNum (Ob.dcEstimate n) (sat24 (dcLsb dc))

/-! ## Commands of the analog channels -/

/-- MODULATOR_OVERLOAD: the integrators reset, the channel goes to SETTLING, the code holds at the overload's side (R76,
R78, R85). -/
def execModulatorOverload (t : Nat) (n : Fin 8) (positive : Bool) (s0 : State) : Host.Outcome State Fault Refusal :=
  let s := s0.advance t
  if !s.chanRuns n then ok s
  else
    let s1 := (s.restartChan n).count 32 (Ob.modulatorResetCount n) 1
    let q := if positive then 7 else 0
    let s2 := (s1.setChan n { s1.chan n with quant := [q, q, q, q] }).setNat (Ob.coarseCode n) q
    ok (s2.evalRules (s2.rulesOf (· == 64 + n.val)) s.time none false)

/-- DECIMATED_SAMPLE: the modulator samples of an output period, in LSB and oldest first, pass the decimating filter, the offset
correction, the boxcars and the DC blocker (R74, R79, R269). A period that measures the offset has no such sample. -/
def execDecimatedSample (t : Nat) (n : Fin 8) (mods : List Int) (overrange : Bool) (s0 : State) : Host.Outcome State Fault Refusal :=
  let s := s0.advance t
  if !s.chanRuns n ∨ s.measuringOffset n then ok s
  else
    let r := s.decimate n (s.chan n) mods
    let s1 := s.setChan n r.1
    let x1 := sat24 (sat24 r.2 - s.num (Ob.offsetCorrection n))
    let b := boxcars [s.nat (Ob.boxcarLength n 0), s.nat (Ob.boxcarLength n 1), s.nat (Ob.boxcarLength n 2)] r.1.box x1
    ok (s1.deliverSample n b.2 overrange false b.1)

/-- SETTLING_DONE: after the settling count the channel goes to RUNNING (R78). -/
def execSettlingDone (t : Nat) (n : Fin 8) (s0 : State) : Host.Outcome State Fault Refusal :=
  let s := s0.advance t
  if s.nat (Ob.channelState n) = 1 ∧ (s.chan n).settleLeft = 0 then ok (s.setNat (Ob.channelState n) 2) else ok s

/-- OFFSET_CAL_PERIOD: the output period in every 64 that measures the offset; its sample is interpolated, and every 256 measurements the
correction moves by at most 4 LSB toward their mean (R269). -/
def execOffsetCalPeriod (t : Nat) (n : Fin 8) (measured : Int) (s0 : State) : Host.Outcome State Fault Refusal :=
  let s := s0.advance t
  if !(s.chanRuns n && s.measuringOffset n) then ok s
  else
    let c := s.chan n
    let s1 := s.deliverSample n (sat24 (2 * c.y1 - c.y2)) false true c.box
    let sum := c.measSum + measured
    if c.measCount + 1 < 256 then ok (s1.setChan n { s1.chan n with measSum := sum, measCount := c.measCount + 1 })
    else
      let corr := s.num (Ob.offsetCorrection n)
      let corr' := corr + clampInt (-4) 4 (meanOf sum 256 - corr)
      ok ((s1.setChan n { s1.chan n with measSum := 0, measCount := 0, corr := some corr' }).setNum (Ob.offsetCorrection n)
        (sat24 corr'))

/-- Channel Enable (R73, R78, R80): 1 starts a stopped channel, 0 stops it and holds its estimate. -/
def State.applyChannelEnable (s : State) (n v : Nat) : State :=
  if v = 1 then
    if s.on (Ob.channelEnable n) then s
    else
      let s1 := s.setNat (Ob.channelEnable n) 1
      (s1.setChan n { s1.chan n with discontinuous := true }).restartChan n
  else if s.on (Ob.channelEnable n) then
    let c := s.chan n
    (s.setChan n { c with dcHeld := some c.dc, stoppedAt := some s.time }).setAll [(Ob.channelEnable n, 0), (Ob.channelState n, 0)]
  else s

/-- Whether a Custom FIR is in range (R82). -/
def customFirOk (bs : List Byte) : Bool :=
  let h := fun i => signed 32 (leAt bs (4 * i) 4)
  let sum := 2 * sumInt ((List.range 47).map h) + h 47
  (List.range 48).all (fun i => decide (-8388608 ≤ h i ∧ h i ≤ 8388607)) && decide (Int.natAbs (sum - 4194304) ≤ 4096)

/-! ## Inertial ports -/

/-- Whether a cause starts reads of a port now: the edge that Read Trigger names, or its timer at a whole multiple of Sample Period
(R87). -/
def State.readStarts (s : State) (m : Nat) (cause : ReadCause) : Bool :=
  decide (s.nat (Ob.readTrigger m) = cause.code) && (cause != .timer || decide (s.time % s.nat (Ob.samplePeriod m) = 0))

/-- INERTIAL_READ_TRIGGER: a read starts at its trigger; a DRDY edge during a read is missed, and one ends SILENT (R87, R89). -/
def execInertialReadTrigger (t : Nat) (r : ReadStart) (s0 : State) : Host.Outcome State Fault Refusal :=
  let s := s0.advance t
  let m := r.port.val
  if !(s.on (Ob.inertialEnable m) && s.evaluating && s.readStarts m r.cause) then ok s
  else
    let c := { s.inert m with silentAt := none, lastDrdy := s.time }
    let s1 := (s.setNat (Ob.inertialState m) 1).setInert m c
    match c.reading with
    | some _ =>
      if r.cause = .timer then ok s else ok ((s1.setInert m { c with missed := true }).count 32 (Ob.missedCount m) 1)
    | none => ok (s1.setInert m { c with reading := some s.time, preceded := c.missed, missed := false })

/-- Field `i` of the read data, raw and sign-extended, by the read program (R88, Table 3-3); an unused field is 0. -/
def State.inertialField (s : State) (m i : Nat) (data : List Byte) : Int :=
  let b := fun o => s.domNat (Ob.readProgram m) (8 + 8 * i + o) 1
  if b 2 = 0 then 0
  else
    let w := if b 1 % 2 = 0 then 2 else 3
    let raw := bytesAt data (b 0) w
    signed (8 * w) (if b 1 / 2 % 2 = 0 then ofBeBytes raw else ofLeBytes raw)

/-- An inertial entry (Table 3-4). -/
def inertialEntry (stamp : Nat) (missed : Bool) (fields : List Int) : List Byte :=
  leBytes 8 stamp ++ leBytes 8 (bnat missed) ++ fields.flatMap (fun f => leBytes 4 (unsigned 32 f))

/-- The time a read takes in ns, rounded up: (cmd_len + read_len) × 8 / f_SPI + 250 ns (R87). -/
def readTimeNs (cmdLen readLen khz : Nat) : Nat := ((cmdLen + readLen) * 8 * 1000000 + khz - 1) / khz + 250

/-- The read time of a port (R87). -/
def State.readTime (s : State) (m : Nat) : Nat :=
  readTimeNs (s.domNat (Ob.readProgram m) 0 1) (s.domNat (Ob.readProgram m) 1 1) (s.nat (Ob.spiClock m))

/-- INERTIAL_READ_COMPLETE: no earlier than the read time after its trigger, the read_len bytes clocked in give the read's sample,
stamped with the trigger instant minus Sensor Latency (R87), and flagged where an edge was missed before its read began (R89). -/
def execInertialReadComplete (t : Nat) (m : Fin 2) (data : List Byte) (s0 : State) : Host.Outcome State Fault Refusal :=
  let s := s0.advance t
  let c := s.inert m
  match c.reading with
  | none => ok s
  | some tr =>
    let fields := (List.range 8).map (fun i => s.inertialField m i (data.take (s.domNat (Ob.readProgram m) 1 1)))
    let stamp := tr - s.nat (Ob.sensorLatency m)
    let e := inertialEntry stamp c.preceded fields
    if s.time < tr + s.readTime m then ok s
    else ok ((s.setInert m { c with
      reading := none, preceded := false, entries := c.entries ++ [(s.time, e)], recent := ((stamp, fields) :: c.recent).take 1024 }).count 64 (Ob.readCount m) 1)

/-- DRDY_SILENCE: no DRDY edge for 16 expected periods; never under the timer trigger (R89). -/
def execDrdySilence (t : Nat) (m : Fin 2) (s0 : State) : Host.Outcome State Fault Refusal :=
  let s := s0.advance t
  if s.nat (Ob.inertialState m) = 1 ∧ s.nat (Ob.readTrigger m) ≠ 2 ∧ (s.inert m).lastDrdy + 16 * s.nat (Ob.samplePeriod m) ≤ s.time then
    ok ((s.setNat (Ob.inertialState m) 2).setInert m
      { s.inert m with silentAt := some s.time })
  else ok s

/-- Inertial Enable starts or stops the port (R81). -/
def State.applyInertialEnable (s : State) (m v : Nat) : State :=
  if v = 1 then
    if s.on (Ob.inertialEnable m) then s
    else (s.setInert m { InertialPort.init with
      discontinuous := true, entries := (s.inert m).entries, stoppedAt := (s.inert m).stoppedAt, lastDrdy := s.time }).setAll
      [(Ob.inertialEnable m, 1), (Ob.inertialState m, 1)]
  else if s.on (Ob.inertialEnable m) then
    (s.setInert m { s.inert m with reading := none, stoppedAt := some s.time }).setAll [(Ob.inertialEnable m, 0), (Ob.inertialState m, 0)]
  else s

/-- Whether a Read Program is in range (R88, Table 3-3), with the port's SPI Clock, mode, trigger and Sample Period. -/
def State.readProgramOk (s : State) (m : Nat) (bs : List Byte) : Bool :=
  let b := fun o => leAt bs o 1
  decide (b 0 ≤ 4 ∧ 1 ≤ b 1 ∧ b 1 ≤ 28 ∧ leAt bs 6 2 = 0) &&
    (List.range 8).all (fun i =>
      decide (b (9 + 8 * i) < 4 ∧ b (10 + 8 * i) ≤ 7 ∧ b (11 + 8 * i) = 0) &&
        (decide (b (10 + 8 * i) = 0) || decide (b (8 + 8 * i) + (if b (9 + 8 * i) % 2 = 0 then 2 else 3) ≤ b 1))) &&
    (decide (s.nat (Ob.readTrigger m) ≠ 2) || decide (readTimeNs (b 0) (b 1) (s.nat (Ob.spiClock m)) ≤ s.nat (Ob.samplePeriod m)))

/-! ## Encoders -/

/-- The signed step of an edge in a count mode (R90; the sense of rotation is log entry 26): previous and new levels. -/
def encoderStep (mode : Nat) (a b a' b' : Bool) : Int :=
  let aEdge := a != a'
  let bEdge := b != b'
  let up : Bool := if aEdge then a' != b else b' == a
  let sg : Int := if up then 1 else -1
  if mode = 3 then (if aEdge && a' then (if b' then 1 else -1) else 0)
  else if aEdge && bEdge then 0
  else if mode = 0 then (if aEdge || bEdge then sg else 0)
  else if mode = 1 then (if aEdge then sg else 0)
  else (if aEdge && a' then sg else 0)

/-- An edge entry (Table 3-4). -/
def edgeEntry (illegal up : Bool) (line stamp : Nat) : BitVec 16 :=
  BitVec.ofNat 16 (put 15 1 (bnat illegal) + put 14 1 (bnat up) + put 12 2 line + put 0 10 (stamp % 1000))

/-- Whether an encoder counts: enabled and without a line fault. -/
def State.encRuns (s : State) (e : Nat) : Bool := decide (s.nat (Ob.encoderState e) = 1) && s.evaluating

/-- The level of an encoder's line after its glitch filter: the new one where it stands for Glitch Filter cycles (R90). -/
def State.filtered1 (s : State) (e : Nat) (old : Bool) (l : Level) : Bool := if s.nat (Ob.glitchFilter e) ≤ l.stable then l.high else old

/-- ENCODER_EDGE: the levels of A and B, each through its glitch filter (R90, R91). -/
def execEncoderEdge (t : Nat) (e : Fin 4) (la lb : Level) (s0 : State) : Host.Outcome State Fault Refusal :=
  let s := s0.advance t
  let c := s.enc e
  let a := s.filtered1 e c.a la
  let b := s.filtered1 e c.b lb
  if a = c.a ∧ b = c.b then ok s
  else if !s.encRuns e then ok (s.setEnc e { c with a := a, b := b })
  else
    let mode := s.nat (Ob.countMode e)
    let illegal := decide (mode ≠ 3) && (c.a != a) && (c.b != b)
    let st := encoderStep mode c.a c.b a b
    let st' := if s.on (Ob.directionInvert e) then -st else st
    let sense := if mode = 3 then st else encoderStep 0 c.a c.b a b
    let up := decide (0 < (if s.on (Ob.directionInvert e) then -sense else sense))
    let entry := edgeEntry illegal up (if c.a != a then 0 else 1) s.time
    let s1 := s.setEnc e { c with a := a, b := b, edges := c.edges ++ [(s.time, entry)] }
    let s2 := s1.setNat (Ob.position e) (unsigned 32 (s.num (Ob.position e) + st'))
    ok (if illegal then s2.count 32 (Ob.illegalTransitionCount e) 1 else s2)

/-- INDEX_EDGE: a rising edge of Z whose level stands for at least Glitch Filter cycles (R90, R91). -/
def execIndexEdge (t : Nat) (z : IndexRise) (s0 : State) : Host.Outcome State Fault Refusal :=
  let s := s0.advance t
  let e := z.encoder.val
  let mode := s.nat (Ob.indexMode e)
  if z.stable < s.nat (Ob.glitchFilter e) ∨ !s.encRuns e ∨ mode = 0 then ok s
  else
    let s1 := (s.setNat (Ob.indexLatch e) (s.nat (Ob.position e))).setEnc e
      { s.enc e with edges := (s.enc e).edges ++ [(s.time, edgeEntry false false 2 s.time)] }
    ok (if mode = 2 then s1.setNat (Ob.position e) (s.nat (Ob.positionPreset e)) else s1)

/-- ENCODER_LINE_FAULT: position holds and edges are dropped (R92). -/
def execEncoderLineFault (t : Nat) (e : Fin 4) (s0 : State) : Host.Outcome State Fault Refusal :=
  let s := s0.advance t
  if s.nat (Ob.encoderState e) = 1 then ok ((s.setNat (Ob.encoderState e) 2).count 32 (Ob.lineFaultCount e) 1) else ok s

/-- ENCODER_LINE_RESTORE: after 100 µs of valid signal the encoder runs again; its first block is discontinuous (R92). -/
def execEncoderLineRestore (t : Nat) (e : Fin 4) (s0 : State) : Host.Outcome State Fault Refusal :=
  let s := s0.advance t
  if s.nat (Ob.encoderState e) = 2 then
    ok ((s.setNat (Ob.encoderState e) 1).setEnc e { s.enc e with discontinuous := true })
  else ok s

/-- Encoder Enable: 1 starts at Position Preset (Table 15-2), 0 stops. -/
def State.applyEncoderEnable (s : State) (e v : Nat) : State :=
  if v = 1 then
    if s.on (Ob.encoderEnable e) then s
    else
      let p := s.nat (Ob.positionPreset e)
      (s.setEnc e { s.enc e with loadPending := false, posStart := p, discontinuous := true }).setAll
        [(Ob.encoderEnable e, 1), (Ob.encoderState e, 1), (Ob.position e, (p : Nat))]
  else if s.on (Ob.encoderEnable e) then
    (s.setEnc e { s.enc e with stoppedAt := some s.time }).setAll [(Ob.encoderEnable e, 0), (Ob.encoderState e, 0)]
  else s

/-- Encoder Command 1: Position Preset is loaded at the next slot boundary (R91). -/
def State.applyEncoderCommand (s : State) (e : Nat) : State := s.setEnc e { s.enc e with loadPending := true }

/-- A table cut to its last `n` entries. -/
def keepLast {α : Type} (n : Nat) (l : SMap α) : SMap α := l.drop (l.length - n)

/-- The encoders at a slot boundary: the position of the new slot's start is taken, then a waiting preset is loaded as the
slot's first change (R91, R92). An encoder stopped during the slot that ends still has that slot's block to come (R93). -/
def State.encoderBoundary (s : State) : State :=
  (List.range 4).foldl (fun s e =>
    let c := s.enc e
    if s.on (Ob.encoderEnable e) || c.loadPending || c.stoppedAt.isSome then
      let s1 := s.setEnc e { c with
        posPrev := c.posStart, latchPrev := s.nat (Ob.indexLatch e), posStart := s.nat (Ob.position e), loadPending := false,
        hist := keepLast 600 (c.hist.set (slotOf s.time) (s.nat (Ob.position e))) }
      if c.loadPending then s1.setNat (Ob.position e) (s.nat (Ob.positionPreset e)) else s1
    else s) s

/-! ## Blocks (R93, R94) -/

/-- The number of an input's sample ring. -/
def ringIndex : InputId → Nat
  | .analog n => n
  | .inertial m => 8 + m
  | .encoder e => 10 + e

/-- What a block holds: kind, number, discontinuous, stopped during the slot, entries and their count (Table 3-4). -/
structure Block where
  kind : Nat
  number : Nat
  disc : Bool
  stopped : Bool
  count : Nat
  payload : List Byte
  deriving DecidableEq, Repr

/-- The bytes of a block: head, entries, padding to 16 (Table 3-4). -/
def blockBytes (k : Nat) (b : Block) : List Byte :=
  let n := roundUp b.payload.length 16
  leBytes 16 (put 64 64 (1000 * k) + put 60 4 b.kind + put 56 4 b.number + put 48 1 (bnat b.disc) + put 49 1 (bnat b.stopped)
    + put 32 16 b.count + put 0 32 n) ++ padTo n b.payload

/-- Whether an instant lies in a slot. -/
def inSlot (k : Nat) (st : Nat) : Bool := slotOf st == k

/-- The block of an input for slot `k`, or none where the input neither is enabled nor stopped during the slot. -/
def State.blockOf (s : State) (input : InputId) (k : Nat) : Option Block :=
  match input with
  | .analog n =>
    let c := s.chan n
    let es := c.entries.filter (fun e => inSlot k e.1)
    let stopped := c.stoppedAt.any (inSlot k)
    if s.on (Ob.channelEnable n) || stopped then
      some ⟨1, n, c.discontinuous, stopped, es.length, es.flatMap (fun e => leBytes 8 e.2.toNat)⟩
    else none
  | .inertial m =>
    let c := s.inert m
    let es := c.entries.filter (fun e => inSlot k e.1)
    let stopped := c.stoppedAt.any (inSlot k)
    if s.on (Ob.inertialEnable m) || stopped then some ⟨2, m, c.discontinuous, stopped, es.length, es.flatMap (·.2)⟩ else none
  | .encoder e =>
    let c := s.enc e
    let es := c.edges.filter (fun x => inSlot k x.1)
    let stopped := c.stoppedAt.any (inSlot k)
    if s.on (Ob.encoderEnable e) || stopped then
      some ⟨3, e, c.discontinuous, stopped, es.length + 1,
        leBytes 8 (put 32 32 c.posPrev + put 0 32 c.latchPrev) ++ es.flatMap (fun x => leBytes 2 x.2.toNat)⟩
    else none

/-- The entries of slots up to `k` forgotten, and the block's flags spent. -/
def State.forgetBlock (s : State) (input : InputId) (k : Nat) : State :=
  let later := fun (st : Nat) => decide (k < slotOf st)
  match input with
  | .analog n =>
    let c := s.chan n
    s.setChan n { c with entries := c.entries.filter (fun e => later e.1), discontinuous := false, stoppedAt := c.stoppedAt.filter later }
  | .inertial m =>
    let c := s.inert m
    s.setInert m { c with entries := c.entries.filter (fun e => later e.1), discontinuous := false, stoppedAt := c.stoppedAt.filter later }
  | .encoder e =>
    let c := s.enc e
    s.setEnc e { c with edges := c.edges.filter (fun x => later x.1), discontinuous := false, stoppedAt := c.stoppedAt.filter later }

/-- The sensor port whose replay ring carries an input's blocks (R93). -/
def replayPortOf : InputId → Nat
  | .analog n => n / 2
  | .inertial m => m
  | .encoder e => e

/-- SLOT_BLOCK_WRITE: the block of the slot that ended last, into the input's sample ring and into a replay ring (R93). -/
def execSlotBlockWrite (t : Nat) (input : InputId) (s0 : State) : Host.Outcome State Fault Refusal :=
  let s := s0.advance t
  let k := slotOf s.lastBoundary - 1
  match s.blockOf input k with
  | none => ok s
  | some b =>
    if s.fenced then ok s
    else
      let i := ringIndex input
      let r := s.ring i
      let bytes := blockBytes k b
      let off := if 0x40000 < r.next + bytes.length then 64 else r.next
      let s1 := s.store (s.nat (Ob.sampleRingBase i) + off) bytes
      let s2 := s1.setRing i { r with next := off + bytes.length, open_ := some (k, off) }
      ok ((s2.forgetBlock input k).appendRing (replayPortOf input) (1000 * (k + 1)) false 0 0 b.kind bytes)

/-! ## Filing in the Arcade (R84, R216, R222) -/

/-- Effective instant of a sample in ns (R84): stamp minus group delay, to the nearest nanosecond; R84 names no rule for a tie, and the
model rounds it to even (log entry 84). -/
def State.effectiveAt (s : State) (n stamp : Nat) : Int := divRoundNE (1000 * (stamp : Int) - s.groupDelayPs n) 1000

/-- A late sample discarded (R226). -/
def State.lateDiscard (s : State) : State := (s.count 64 Ob.lateDiscarded 1).raise 0x0601 noUnit

/-- The first slot whose fusion starts after this instant (R226). -/
def State.nextFusion (s : State) : Nat :=
  match s.square.open_.find? (fun o => s.square.fusing.all (fun f => f.k != o.k)) with
  | some o => o.k
  | none => match s.square.top with
    | some k => k + 1
    | none => 0

/-- Whether an analog sample of a stamp is too late for its slot (R84): the slot that contains its effective instant has closed, and lies
further back than the late window. -/
def State.analogTooLate (s : State) (n stamp : Nat) : Bool :=
  let j := slotOf (s.effectiveAt n stamp).toNat
  s.driving && s.square.top.any (fun m => decide (j ≤ m)) && s.square.open_.all (fun o => o.k != j || o.closed) &&
    decide (s.nat Ob.lateWindow + j < s.nextFusion)

/-- The samples of a channel's block of slot `k` filed under the slots of their effective instants: one too late is discarded (R84, R222,
R226; log entry 28). -/
def State.fileAnalog (s : State) (n k : Nat) : State :=
  let c := s.chan n
  let drop := fun (e : Nat × Int) => slotOf e.1 == k && s.analogTooLate n e.1
  (c.recent.filter drop).foldl (fun s _ => s.lateDiscard) (s.setChan n { c with recent := c.recent.filter (fun e => !drop e) })

/-- What a complete block of slot `k` means for the Arcade: the watermark of its stream, which stops while an inertial port is SILENT
(R84, R87, R89, R216), and the filing of its samples. -/
def State.arcadeBlock (s : State) (input : InputId) (k : Nat) : State :=
  let fin := 1000 * (k + 1) - 1
  match input with
  | .analog n => (s.raiseWatermark (8 + n) ((1000 * fin - s.groupDelayPs n) / 1000)).fileAnalog n k
  | .inertial m =>
    if s.nat (Ob.inertialState m) = 2 then s
    else s.raiseWatermark (16 + m) (fin - s.nat (Ob.sensorLatency m) - s.readTime m)
  | .encoder e => s.raiseWatermark (18 + e) fin

/-- BLOCK_COMPLETE: the ring's head takes the offset of its newest complete block (R94), and the Arcade sees the block (R216). -/
def execBlockComplete (t : Nat) (input : InputId) (s0 : State) : Host.Outcome State Fault Refusal :=
  let s := s0.advance t
  let i := ringIndex input
  let r := s.ring i
  match r.open_ with
  | none => ok s
  | some (k, off) =>
    ok (((s.store (s.nat (Ob.sampleRingBase i)) (leBytes 8 off)).setRing i { r with open_ := none, newestSlot := some k, newest := off }).arcadeBlock
      input k)

end Sys2Proof.Machine
end

