-- ==== Sys2Proof/Machine/Projection.lean ====
section
/-! DEFINITION. Sensor frames and projection (R205 to R208, R218). Formulas are computed over the rationals; a REAL32 result
is that of Numeric (log entry 8). -/

namespace Sys2Proof.Machine

/-! ## Functions without a closed rational value (log entry 8) -/

/-- sine; exact at 0. -/
def sinOf (x : Rat) : Rat := if x = 0 then 0 else Config.sinReal x
/-- cosine; exact at 0. -/
def cosOf (x : Rat) : Rat := if x = 0 then 1 else Config.cosReal x
/-- The square root; exact on squares of rationals. -/
def sqrtOf (x : Rat) : Rat :=
  let n := Nat.sqrt x.num.toNat
  let d := Nat.sqrt x.den
  if 0 ≤ x ∧ n * n = x.num.toNat ∧ d * d = x.den then ((n : Nat) : Rat) / ((d : Nat) : Rat) else Config.sqrtReal x
/-- The angle of (x, y); exact on the positive x axis. -/
def atan2Of (y x : Rat) : Rat := if y = 0 ∧ 0 < x then 0 else Config.atan2Real y x
/-- exp; exact at 0. -/
def expOf (x : Rat) : Rat := if x = 0 then 1 else Config.expReal x
/-- An angle wrapped to (−π, π] (R232). -/
def wrapAngle (x : Rat) : Rat :=
  if -piRat < x ∧ x ≤ piRat then x else x + 2 * piRat * ((floorRat ((piRat - x) / (2 * piRat)) : Int) : Rat)

/-! ## Projection sets -/

/-- The set given by the bytes of its objects. -/
def projOf (intr dist ext plane : List Byte) (size : Nat) (fixed : Bool) : ProjSet :=
  { intr := realsAt intr 0 4, dist := realsAt dist 0 5, ext := realsAt ext 0 12, plane := realsAt plane 0 4,
    width := field size 0 13, height := field size 16 13, fixed := fixed }

/-- Bytes in force of a DOMAIN. -/
def State.forceBytes (s : State) (k n : Nat) : List Byte := (List.range n).map (s.forceByte k)

/-- The projection set of a frame in force (R206). -/
def State.projNow (s : State) (f : Nat) : ProjSet :=
  projOf (s.forceBytes (Ob.intrinsics f) 16) (s.forceBytes (Ob.distortion f) 20) (s.forceBytes (Ob.extrinsic f) 48)
    (s.forceBytes (Ob.plane f) 16) (s.forceNat (Ob.imageSize f)) (s.forceNat (Ob.arithmetic f) = 1)

/-- The projection set the next slot will have with extrinsic `ext`: host writes staged now commit at the next boundary (R206,
R212). -/
def State.projNext (s : State) (f : Nat) (ext : List Byte) : ProjSet :=
  projOf (s.domBytes (Ob.intrinsics f) 0 16) (s.domBytes (Ob.distortion f) 0 20) ext
    (s.domBytes (Ob.plane f) 0 16) (s.nat (Ob.imageSize f)) (s.on (Ob.arithmetic f))

/-- The set of a frame for an epoch, where the Square holds it: the current epoch's or the previous one's (R206). -/
def State.projFor (s : State) (e f : Nat) : Option ProjSet :=
  if e = s.nat Ob.epoch then some (s.projNow f)
  else if s.square.prevEpoch = some e then s.square.prevSets[f]?
  else none

/-- Whether the Square holds the sets of an epoch. -/
def State.holdsEpoch (s : State) (e : Nat) : Bool := e = s.nat Ob.epoch || s.square.prevEpoch == some e

/-- Whether the intrinsics are in range (R206). -/
def intrinsicsOk (bs : List Byte) : Bool :=
  !zeroOrLess (leAt bs 0 4) && !zeroOrLess (leAt bs 4 4)

/-- Whether the extrinsic's rotation is orthonormal within 10^−3 (R206). -/
def extrinsicOk (bs : List Byte) : Bool :=
  let e := realsAt bs 0 12
  (List.range 12).all (fun i => i % 4 == 3 || isReal32 (leAt bs (4 * i) 4)) &&
    (List.range 3).all (fun i => (List.range 3).all (fun j =>
      let v := sumRat ((List.range 3).map (fun r => mat e 4 r i * mat e 4 r j))
      decide (absRat (v - if i = j then 1 else 0) ≤ 1 / 1000)))

/-- Whether the norm of three REAL32 values lies within 10^−3 of 1 (R206, Table 9-6). -/
def unitOk (bs : List Byte) : Bool :=
  let n := realsAt bs 0 3
  (List.range 3).all (fun i => isReal32 (leAt bs (4 * i) 4)) && decide ((999 / 1000 : Rat) ^ 2 ≤ dot n n ∧ dot n n ≤ (1001 / 1000 : Rat) ^ 2)

/-- Whether the plane is in range (R206). -/
def planeOk (bs : List Byte) : Bool := unitOk bs

/-- Whether an image size lies within 1 to 4,096 on both axes (R206). -/
def sizeOk (v : Nat) : Bool :=
  let w := v % 65536
  let h := v / 65536
  decide (1 ≤ w ∧ w ≤ 4096 ∧ 1 ≤ h ∧ h ≤ 4096)

namespace Proj

/-- fx. -/
def fx (p : ProjSet) : Rat := vat p.intr 0
/-- fy. -/
def fy (p : ProjSet) : Rat := vat p.intr 1
/-- cx. -/
def cx (p : ProjSet) : Rat := vat p.intr 2
/-- cy. -/
def cy (p : ProjSet) : Rat := vat p.intr 3

/-- Whether a value is one of the frame's format (R208): a REAL32, or a Q16.16 of 32 bits. -/
def inFormat (p : ProjSet) (x : Rat) : Bool :=
  if p.fixed then decide ((x * 65536).den = 1 ∧ -32768 ≤ x ∧ x < 32768) else inReal32 x

/-- The error of a forward result in pixels (R208): 2^−12 floating, 2^−8 fixed. -/
def pixelError (p : ProjSet) : Rat := if p.fixed then 1 / 256 else 1 / 4096

/-- A result in the frame's format (R208): `x` where the format holds it, else some value of the format no further from it than `tol`
(log entry 8); the nearest in the format where the free value is not such a one. -/
def result (p : ProjSet) (tol x : Rat) : Rat :=
  let y := Config.real32Near x
  if inFormat p x then x
  else if inFormat p y && decide (absRat (y - x) ≤ tol) then y
  else if p.fixed then ((clampInt (-2147483648) 2147483647 (roundRat (x * 65536)) : Int) : Rat) / 65536
  else real32 (real32Bits x)

/-- A pixel coordinate of a forward projection: within the error of R208 up to 4,096 px, open beyond. -/
def pixel (p : ProjSet) (x : Rat) : Rat := result p (if absRat x ≤ 4096 then pixelError p else absRat x) x

/-- The distorted (a, b) (R207). -/
def distort (p : ProjSet) (a b : Rat) : Rat × Rat :=
  let k := vat p.dist
  let r2 := a * a + b * b
  let rad := 1 + k 0 * r2 + k 1 * r2 * r2 + k 2 * r2 * r2 * r2
  (a * rad + 2 * k 3 * a * b + k 4 * (r2 + 2 * a * a), b * rad + k 3 * (r2 + 2 * b * b) + 2 * k 4 * a * b)

/-- Its Jacobian, row by row. -/
def distortJac (p : ProjSet) (a b : Rat) : List Rat :=
  let k := vat p.dist
  let r2 := a * a + b * b
  let rad := 1 + k 0 * r2 + k 1 * r2 * r2 + k 2 * r2 * r2 * r2
  let dr := k 0 + 2 * k 1 * r2 + 3 * k 2 * r2 * r2
  [rad + 2 * a * a * dr + 2 * k 3 * b + 6 * k 4 * a, 2 * a * b * dr + 2 * k 3 * a + 2 * k 4 * b,
   2 * a * b * dr + 2 * k 3 * a + 2 * k 4 * b, rad + 2 * b * b * dr + 6 * k 3 * b + 2 * k 4 * a]

/-- The inverse of a 2 × 2 matrix, where it has one. -/
def inv2 (m : List Rat) : Option (List Rat) :=
  let d := vat m 0 * vat m 3 - vat m 1 * vat m 2
  if d = 0 then none else some [vat m 3 / d, -vat m 1 / d, -vat m 2 / d, vat m 0 / d]

/-- The forward projection of a point to pixel (u, v) (R207). -/
def forward (p : ProjSet) (x : List Rat) : Option (Rat × Rat) :=
  let c := (List.range 3).map (fun i => sumRat ((List.range 3).map (fun j => mat p.ext 4 i j * vat x j)) + mat p.ext 4 i 3)
  if vat c 2 < 1 / 1000000 then none
  else
    let d := distort p (vat c 0 / vat c 2) (vat c 1 / vat c 2)
    some (pixel p (fx p * d.1 + cx p), pixel p (fy p * d.2 + cy p))

/-- Four Newton steps of the undistortion (R207); a singular Jacobian fails. -/
def newton (p : ProjSet) (ad bd : Rat) : Nat → Rat × Rat → Option (Rat × Rat)
  | 0, ab => some ab
  | n + 1, ab =>
    match inv2 (distortJac p ab.1 ab.2) with
    | none => none
    | some j =>
      let d := distort p ab.1 ab.2
      let ra := d.1 - ad
      let rb := d.2 - bd
      newton p ad bd n (ab.1 - (vat j 0 * ra + vat j 1 * rb), ab.2 - (vat j 2 * ra + vat j 3 * rb))

/-- R_fᵀ applied to a camera vector. -/
def rotBack (p : ProjSet) (c : List Rat) : List Rat :=
  (List.range 3).map (fun i => sumRat ((List.range 3).map (fun r => mat p.ext 4 r i * vat c r)))

/-- The inverse projection of (u, v) onto the frame's plane (R207): the point, each coordinate within the pixel error plus the
undistortion residual mapped to the plane (R208), and its derivatives by u and by v. -/
def inverse (p : ProjSet) (u v : Rat) : Option (List Rat × List Rat × List Rat) :=
  let ad := (u - cx p) / fx p
  let bd := (v - cy p) / fy p
  match newton p ad bd 4 (ad, bd) with
  | none => none
  | some (a, b) =>
    let e := distort p a b
    let ru := fx p * (e.1 - ad)
    let rv := fy p * (e.2 - bd)
    if 1 / 400 < ru * ru + rv * rv then none
    else match inv2 (distortJac p a b) with
      | none => none
      | some j =>
        let n := p.plane.take 3
        let h := vat p.plane 3
        let d := rotBack p [a, b, 1]
        let o := vScale (-1) (rotBack p [mat p.ext 4 0 3, mat p.ext 4 1 3, mat p.ext 4 2 3])
        let nd := dot n d
        if absRat nd < 1 / 1000000 then none
        else
          let sc := (h - dot n o) / nd
          if sc ≤ 0 then none
          else
            let der := fun (da db : Rat) =>
              let dd := rotBack p [da, db, 0]
              vScale sc (vSub dd (vScale (dot n dd / nd) d))
            let du := der (vat j 0 / fx p) (vat j 2 / fx p)
            let dv := der (vat j 1 / fy p) (vat j 3 / fy p)
            let px := pixelError p + absRat ru + absRat rv
            let x := vAdd o (vScale sc d)
            some ((List.range 3).map (fun i => result p ((absRat (vat du i) + absRat (vat dv i)) * px) (vat x i)), du, dv)

/-- The point of the frame's plane over the position (px, py), where the plane has one (R219, R266). -/
def onPlane (p : ProjSet) (px py : Rat) : Option (List Rat) :=
  let n := p.plane
  if vat n 2 = 0 then none else some [px, py, (vat n 3 - vat n 0 * px - vat n 1 * py) / vat n 2]

end Proj

/-! ## Measurement records (Table 8-4) -/

/-- Value or variance `i` of a record, in the format its frame and its fixed flag select (R208). -/
def recordValue (bs : List Byte) (fixed : Bool) (off i : Nat) : Rat :=
  let raw := leAt bs (off + 4 * i) 4
  if fixed then (signed 32 raw : Rat) / 65536 else real32 raw

/-- What a record measures: its rows, vector, pixel and variances, image half-extent (R218, R235; log entry 29). -/
structure Measured where
  rows : List (Nat × Rat × Rat)
  vec : List Rat
  pix : List Rat
  half : Rat
  deriving DecidableEq, Repr

/-- Rows whose variance is not 0 (R235). -/
def measuredRows (l : List (Nat × Rat × Rat)) : List (Nat × Rat × Rat) := l.filter (fun r => r.2.2 ≠ 0)

/-- A pixel with its variances on the plane: point, rows of px and py, the Jacobian of the point, row by row. -/
def pixelOnPlane (p : ProjSet) (u v vu vv : Rat) : Option (List Rat × List (Nat × Rat × Rat) × List Rat) :=
  (Proj.inverse p u v).map (fun r =>
    let x := r.1
    let j := [vat r.2.1 0, vat r.2.2 0, vat r.2.1 1, vat r.2.2 1, vat r.2.1 2, vat r.2.2 2]
    let vx := r32 (vat j 0 * vat j 0 * vu + vat j 1 * vat j 1 * vv)
    let vy := r32 (vat j 2 * vat j 2 * vu + vat j 3 * vat j 3 * vv)
    (x, if vu = 0 ∨ vv = 0 then [] else [(0, vat x 0, vx), (1, vat x 1, vy)], j))

/-- What a record of kinds 1 to 4 measures; none where its projection fails (R207, R218). -/
def measureRecord (p : ProjSet) (bs : List Byte) : Option Measured :=
  let fixed := leAt bs 14 1 % 2 = 1 || (p.fixed && leAt bs 8 1 ≠ 2)
  let z := recordValue bs fixed 16
  let va := recordValue bs fixed 36
  let kind := leAt bs 8 1
  if kind = 2 then
    some ⟨measuredRows [(0, z 0, va 0), (1, z 1, va 1), (4, z 2, va 2), (5, z 3, va 3), (6, wrapAngle (z 4), va 4)], [z 0, z 1, 0], [], 0⟩
  else (pixelOnPlane p (z 0) (z 1) (va 0) (va 1)).map (fun r =>
    let j := r.2.2
    let pix := [z 0, z 1, va 0, va 1]
    if kind = 4 then
      let vel := fun (i : Nat) => r32 (vat j (2 * i) * z 2 + vat j (2 * i + 1) * z 3)
      let vr := fun (i : Nat) => r32 (vat j (2 * i) ^ 2 * va 2 + vat j (2 * i + 1) ^ 2 * va 3)
      ⟨if va 2 = 0 ∨ va 3 = 0 then [] else [(2, vel 0, vr 0), (3, vel 1, vr 1)], [vel 0, vel 1, vel 2], pix ++ [vr 0, vr 1], 0⟩
    else if kind = 3 then ⟨r.2.1, r.1, pix, 0⟩
    else
      let c := cosOf (z 4)
      let n := sinOf (z 4)
      let ax := vat j 0 * c + vat j 1 * n
      let ay := vat j 2 * c + vat j 3 * n
      let bx := vat j 1 * c - vat j 0 * n
      let byy := vat j 3 * c - vat j 2 * n
      let l2 := ax * ax + ay * ay
      let w2 := bx * bx + byy * byy
      let det := vat j 0 * vat j 3 - vat j 1 * vat j 2
      ⟨r.2.1 ++ measuredRows [(4, r32 (z 2 * sqrtOf l2), r32 (va 2 * l2)), (5, r32 (z 3 * sqrtOf w2), r32 (va 3 * w2)),
          (6, wrapAngle (r32 (atan2Of ay ax)), if l2 = 0 then 0 else r32 (va 4 * det * det / (l2 * l2)))],
        r.1, pix, (if z 2 < z 3 then z 3 else z 2) / 2⟩)

end Sys2Proof.Machine
end

