-- ==== Sys2Proof/Machine/Ego.lean ====
section
/-! DEFINITION. Ego-motion and de-rotation sets (R210 to R214) and the epoch of the next slot (R255). -/

namespace Sys2Proof.Machine

/-! ## Quaternions -/

/-- The product of two quaternions w, x, y, z. -/
def qMul (a b : List Rat) : List Rat :=
  let p := vat a
  let q := vat b
  [p 0 * q 0 - p 1 * q 1 - p 2 * q 2 - p 3 * q 3, p 0 * q 1 + p 1 * q 0 + p 2 * q 3 - p 3 * q 2,
   p 0 * q 2 - p 1 * q 3 + p 2 * q 0 + p 3 * q 1, p 0 * q 3 + p 1 * q 2 - p 2 * q 1 + p 3 * q 0]

/-- exp of a pure quaternion. -/
def qExp (v : List Rat) : List Rat :=
  let n := sqrtOf (dot v v)
  if n = 0 then [1, 0, 0, 0] else cosOf n :: vScale (sinOf n / n) v

/-- A quaternion normalised. -/
def qNorm (q : List Rat) : List Rat :=
  let n := sqrtOf (dot q q)
  if n = 0 then q else (vScale (1 / n) q).map r32

/-- The rotation matrix R(q). -/
def qMat (q : List Rat) : List Rat :=
  let w := vat q 0
  let x := vat q 1
  let y := vat q 2
  let z := vat q 3
  [1 - 2 * (y * y + z * z), 2 * (x * y - w * z), 2 * (x * z + w * y), 2 * (x * y + w * z), 1 - 2 * (x * x + z * z),
   2 * (y * z - w * x), 2 * (x * z - w * y), 2 * (y * z + w * x), 1 - 2 * (x * x + y * y)]

/-- A vector rotated by q. -/
def qRot (q v : List Rat) : List Rat := matMul 3 3 1 (qMat q) v

/-- The angle of q about an axis (R234). -/
def qTwist (q n : List Rat) : Rat := 2 * atan2Of (dot (q.drop 1) n) (vat q 0)

/-- The attitude carried over `dt` seconds at rate w (R211). -/
def qStep (q w : List Rat) (dt : Rat) : List Rat := qNorm (qMul q (qExp (vScale (dt / 2) w)))

/-! ## Epochs -/

/-- The host-written objects that bear an epoch (R255): projection sets, Encoder Scale, Gyro Bias. -/
def epochKey (k : Nat) : Bool :=
  (decide (0x2700 ≤ k / 256 ∧ k / 256 < 0x2710) && decide (2 ≤ k % 256 ∧ k % 256 ≤ 7)) || k == Ob.encoderScale || k == Ob.gyroBias

/-- Whether a Calibrated Offset waits to start its slew (R255, R265). -/
def State.offsetStarts (s : State) (p : Nat) : Bool :=
  decide (s.num (Ob.calibratedOffset p) ≠ s.num (Ob.appliedOffset p)) && !s.cal.slewing.contains p

/-- Whether a staged loop commit bears an epoch (R255): every one but an offset that redirects a slew on its way or starts none (R265). -/
def State.commitBears (s : State) (c : LoopCommit) : Bool :=
  decide (4 ≤ c.loop) || (!s.cal.slewing.contains c.loop && decide (c.value ≠ s.num (Ob.appliedOffset c.loop)))

/-- Whether a host change commits as an epoch at the next boundary (R255, R256). -/
def State.hostEpoch (s : State) : Bool :=
  s.heldNum.any (fun e => epochKey e.1) || s.heldDom.any (fun e => epochKey e.1) || (List.range 4).any s.offsetStarts

/-- The effective Epoch Spacing (R256). -/
def State.epochSpacing (s : State) : Nat := max (s.nat Ob.epochSpacing) (s.nat Ob.lateWindow)

/-- Whether the staged loop commits go into force at the boundary that opens slot `k` (R256, R272). -/
def State.loopsCommit (s : State) (k : Nat) : Bool :=
  s.cal.staged ≠ [] && !s.on Ob.calibrationFreeze &&
    (s.hostEpoch || (match s.cal.lastEpoch with
      | none => true
      | some j => decide (j + s.epochSpacing ≤ k)))

/-- Whether slot `k` opens a new epoch (R255). -/
def State.opensEpoch (s : State) (k : Nat) : Bool := s.hostEpoch || (s.loopsCommit k && s.cal.staged.any s.commitBears)

/-- The extrinsic of a frame that slot `k` will have: that of a loop commit that goes into force there, else what is staged or in
force (R206, R256). -/
def State.extrinsicAt (s : State) (k f : Nat) : List Byte :=
  match if s.loopsCommit k then s.cal.staged.find? (fun c => c.loop == 16 + f) else none with
  | some c => c.data
  | none => s.domBytes (Ob.extrinsic f) 0 48

/-- The epoch that slot `k` will have (R212, R255). -/
def State.epochAt (s : State) (k : Nat) : Nat :=
  if s.opensEpoch k then (s.nat Ob.epoch + 1) % 65536 else s.nat Ob.epoch

/-! ## Sources -/

/-- Role of an encoder: 0 unused, 1 line, 2 to 4 gantry x, y, z (R210). -/
def State.encRole (s : State) (e : Nat) : Nat := field (s.nat Ob.encoderRoles) (4 * e) 4

/-- Encoder Scale, in metres per count, and Gyro Bias in force. -/
def State.egoNow (s : State) : List Rat × List Rat :=
  (realsAt (s.forceBytes Ob.encoderScale 16) 0 4, realsAt (s.forceBytes Ob.gyroBias 12) 0 3)

/-- Encoder Scale and Gyro Bias of an epoch: a slot of the previous epoch keeps its own (R225). -/
def State.egoSet (s : State) (epoch : Nat) : List Rat × List Rat :=
  if epoch ≠ s.nat Ob.epoch ∧ s.square.prevEpoch = some epoch then s.square.prevEgo else s.egoNow

/-- The epoch of microsecond `k`, of the last two (R255). -/
def State.microEpoch (s : State) (k : Nat) : Nat :=
  match s.cal.lastEpoch, s.square.prevEpoch with
  | some j, some e => if k < j then e else s.nat Ob.epoch
  | _, _ => s.nat Ob.epoch

/-- The line encoder, if one has the role. -/
def State.lineEncoder (s : State) : Option Nat := (List.range 4).find? (fun e => s.encRole e = 1)

/-- The inertial port in use, if any. -/
def State.inertialPort (s : State) : Option Nat := if s.nat Ob.inertialSource = 0 then none else some (s.nat Ob.inertialSource - 1)

/-- The sources whose absence R211 notices and that are absent: the line encoder in LINE_FAULT, the inertial port in
SILENT (numbered 4 on). -/
def State.absentNow (s : State) : List Nat :=
  (match s.lineEncoder with
    | some e => if s.nat (Ob.encoderState e) = 2 then [e] else []
    | none => []) ++
  (match s.inertialPort with
    | some m => if s.nat (Ob.inertialState m) = 2 then [4 + m] else []
    | none => [])

/-- Position of an encoder at the start of slot `k`; the present one where none is held. -/
def State.posAt (s : State) (e k : Nat) : Nat := ((s.enc e).hist.find? k).getD (s.nat (Ob.position e))

/-- A sample's values of kinds `base` to `base + 2` (1 rate, 4 acceleration), scaled and in the module frame (R88, R210). -/
def State.inertialVec (s : State) (m base : Nat) (fields : List Int) : List Rat :=
  let axis := fun (c : Nat) => match (List.range 8).find? (fun i => s.domNat (Ob.readProgram m) (10 + 8 * i) 1 = base + c) with
    | some i => ((nth 0 fields i : Int) : Rat) * real32 (s.domNat (Ob.readProgram m) (12 + 8 * i) 4)
    | none => 0
  let ext := realsAt (s.domBytes Ob.inertialExtrinsic 0 36) 0 9
  matMul 3 3 1 ext [axis 0, axis 1, axis 2]

/-- Rate and acceleration at an instant, linear between the samples that bracket it, else the latest held; whether they
are held (R211). -/
def State.inertialAt (s : State) (m tm : Nat) : List Rat × List Rat × Bool :=
  let l := (s.inert m).recent
  let v := fun (f : List Int) => (s.inertialVec m 1 f, s.inertialVec m 4 f)
  match l.find? (fun e => decide (e.1 ≤ tm)), (l.reverse.find? (fun e => decide (tm ≤ e.1))), l.head? with
  | some a, some b, _ =>
    let x := v a.2
    let y := v b.2
    if a.1 = b.1 then (x.1, x.2, false)
    else
      let r : Rat := ((tm - a.1 : Nat) : Rat) / ((b.1 - a.1 : Nat) : Rat)
      (vAdd x.1 (vScale r (vSub y.1 x.1)), vAdd x.2 (vScale r (vSub y.2 x.2)), false)
  | _, _, some h => ((v h.2).1, (v h.2).2, true)
  | _, _, none => ([0, 0, 0], [0, 0, 0], true)

/-- Rate w and acceleration before gravity for slot `k`, with the flags of Table 8-1; an absent port holds its last values
for 1 ms and then counts as still, w = 0 and no acceleration (R211; log entry 30). The last item: the values are those of a
still mount. -/
def State.motionAt (s : State) (k : Nat) : List Rat × List Rat × Nat × Bool :=
  match s.inertialPort with
  | none => ([0, 0, 0], [0, 0, 0], 0, true)
  | some m =>
    if s.nat (Ob.inertialState m) = 2 then
      let since := ((s.inert m).silentAt).getD s.time
      if since + 1000000 ≤ 1000 * k + 500 then ([0, 0, 0], [0, 0, 0], 8, true)
      else match (s.inert m).recent.head? with
        | some h => (s.inertialVec m 1 h.2, s.inertialVec m 4 h.2, 10, false)
        | none => ([0, 0, 0], [0, 0, 0], 10, true)
    else
      let r := s.inertialAt m (1000 * k + 500)
      (r.1, r.2.1, if r.2.2 then 2 else 0, (s.inert m).recent = [])

/-! ## Integration -/

/-- 1 µs in seconds. -/
def dtSlot : Rat := 1 / 1000000

/-- Line advance of slot `k` in nm with the flag of Table 8-1; `known`: the position at the end of the slot is at hand, else
the line goes on at its last speed (R211, R212). `sc`: Encoder Scale. -/
def State.lineAdvance (s : State) (sc : List Rat) (e : Ego) (k : Nat) (known : Bool) : Int × Nat :=
  match s.lineEncoder with
  | none => (0, 0)
  | some n =>
    if s.nat (Ob.encoderState n) = 2 then (roundRat (e.speed * 1000), 4)
    else if !known then (roundRat (e.speed * 1000), 0)
    else
      let dn := signed 32 (s.posAt n (k + 1) + 2 ^ 32 - s.posAt n k)
      (roundRat ((dn : Rat) * vat sc n * 1000000000), 0)

/-- Vibration displacement plus gantry axes (R211). -/
def State.displacement (s : State) (sc p : List Rat) (k : Nat) : List Rat :=
  (List.range 4).foldl (fun d e =>
    let role := s.encRole e
    if 2 ≤ role then setNth d (role - 2) (r32 (vat d (role - 2) + (signed 32 (s.posAt e k) : Rat) * vat sc e)) else d) p

/-- Ego-motion after slot `k` (R211), and its record. `set`: Encoder Scale and Gyro Bias of the slot (R225). -/
def State.egoStep (s : State) (set : List Rat × List Rat) (e : Ego) (k : Nat) (known : Bool) (epoch settledFlag : Nat) : Ego × EgoRec :=
  let m := s.motionAt k
  let w := if m.2.2.2 then [0, 0, 0] else (vSub m.1 set.2).map r32
  let q := if m.2.2.2 then e.q else qStep e.q w dtSlot
  let g := realsAt (s.domBytes Ob.gravityReference 0 12) 0 3
  let a := if m.2.2.2 then [0, 0, 0] else (vSub (qRot q m.2.1) g).map r32
  let lk := 2 * piRat * ((s.nat Ob.mountHpCorner : Nat) : Rat) / 1000 * dtSlot
  let v := ((List.range 3).map (fun i => vat e.v i + vat a i * dtSlot - vat e.v i * lk)).map r32
  let p := ((List.range 3).map (fun i => vat e.p i + vat v i * dtSlot - vat e.p i * lk)).map r32
  let adv := s.lineAdvance set.1 e k known
  let line := e.sLine + adv.1
  let nw := s.nat Ob.speedWindow
  let old := if k < nw then 0 else e.lines.get 0 (k - nw)
  let speed := if s.lineEncoder.isNone then 0 else r32 (((line - old : Int) : Rat) / ((nw : Nat) * 1000 : Rat))
  let e' : Ego := { e with q := q, v := v, p := p, sLine := line, lines := keepLast 4097 (e.lines.set k line), speed := speed, w := w, a := a }
  (e', ⟨k, line, speed, q, w, s.displacement set.1 p k, settledFlag + m.2.2.1 + adv.2, epoch⟩)

/-- The record of a slot while Ego Enable is 0: identity, nothing moves. -/
def restRec (k epoch settledFlag : Nat) : EgoRec := ⟨k, 0, 0, [1, 0, 0, 0], [0, 0, 0], [0, 0, 0], settledFlag, epoch⟩

/-- The bytes of an ego-motion record (Table 8-1). -/
def egoBytes (r : EgoRec) : List Byte :=
  leBytes 8 (1000 * r.slot) ++ leBytes 8 (unsigned 64 r.line) ++ realsOut [r.speed]
    ++ r.q.flatMap (fun x => leBytes 4 (unsigned 32 (clampInt (-2147483648) 2147483647 (roundRat (x * 1073741824)))))
    ++ realsOut r.w ++ realsOut r.disp ++ leBytes 1 r.flags ++ [0] ++ leBytes 2 r.epoch

/-- The Square's ego-motion replaced. -/
def State.setEgo (s : State) (e : Ego) : State := { s with square := { s.square with ego := e } }

/-- Absent sources noticed once per entry (R211). -/
def State.noteAbsent (s : State) : State :=
  let now := s.absentNow
  let fresh := now.filter (fun n => !s.square.ego.noted.contains n)
  let s1 := fresh.foldl (fun s _ => s.raise 0x0605 noUnit) s
  s1.setEgo { s1.square.ego with noted := now }

/-- Microsecond `k` settled (R211): integrated, recorded, shown in Ego State Settled. -/
def State.settle (s : State) (k epoch : Nat) : State :=
  let e := s.square.ego
  let r := if s.on Ob.egoEnable then s.egoStep (s.egoSet epoch) e k true epoch 1 else (e, restRec k epoch 1)
  let recs := keepLast 600 (e.records.set k r.2)
  let s1 := (s.setEgo { r.1 with settled := some k, records := recs, last := some r.2 }).setDom Ob.egoStateSettled (egoBytes r.2)
  if s.on Ob.egoEnable then s1.noteAbsent else s1

/-- The epoch slot `k` was opened with, where the Square still knows it. -/
def State.slotEpochOf (s : State) (k : Nat) : Option Nat :=
  match s.square.open_.find? (fun o => o.k == k) with
  | some o => some o.epoch
  | none => (s.square.hist.find? (fun h => h.k == k)).map (·.epoch)

/-- The settled record of slot `k`, if it has been settled. -/
def State.settledRec (s : State) (k : Nat) : Option EgoRec := s.square.ego.records.find? k

/-- The microseconds before slot `k` that are not yet settled, and were not closed as slots, settled (R211): those between the last
settled in READY and the first slot of RUN. -/
def State.settleGap (s : State) (k : Nat) : State :=
  match s.square.ego.settled with
  | some j => if s.on Ob.egoEnable then (List.range (k - (j + 1))).foldl (fun s i => s.settle (j + 1 + i) (s.microEpoch (j + 1 + i))) s else s
  | none => s

/-- The next microsecond to settle where no slot is to close for it, whose blocks are complete at 1000(k + 1) + 1,500 ns (R211). -/
def State.nextMicro (s : State) : Nat :=
  let k := (s.time - 2500) / 1000
  match s.square.ego.settled with
  | some j => if s.on Ob.egoEnable then min k (j + 1) else k
  | none => k

/-- EGO_SETTLE: in RUN the oldest closed slot not yet settled, or a microsecond before the first slot of RUN; in READY the next
microsecond whose blocks are complete (R211). -/
def execEgoSettle (t : Nat) (s0 : State) : Host.Outcome State Fault Refusal :=
  let s := s0.advance t
  if s.dev = 4 then
    match s.square.open_.find? (fun o => o.closed && (s.settledRec o.k).isNone) with
    | some o => ok ((s.settleGap o.k).settle o.k o.epoch)
    | none =>
      if 2500 ≤ s.time ∧ s.on Ob.egoEnable ∧ (s.settledRec s.nextMicro).isNone ∧ s.square.open_.all (fun o => decide (s.nextMicro < o.k)) then
        ok (s.settle s.nextMicro (s.microEpoch s.nextMicro))
      else ok s
  else if s.dev = 3 ∧ 2500 ≤ s.time then
    if (s.settledRec s.nextMicro).isSome then ok s else ok (s.settle s.nextMicro (s.microEpoch s.nextMicro))
  else ok s

/-- The causal state for slot `k + 1`: the latest settled state carried forward to 1000(k + 1) ns (R212). -/
def State.causalFor (s : State) (k : Nat) : EgoRec :=
  let e := s.square.ego
  let from_ := match e.settled with
    | some j => j + 1
    | none => k
  let steps := (List.range (k + 1 - from_)).map (from_ + ·)
  let ep := s.epochAt (k + 1)
  let r := steps.foldl (fun (acc : Ego × EgoRec) i => s.egoStep s.egoNow acc.1 i (decide (i < k)) ep 0)
    (e, ⟨k, e.sLine, e.speed, e.q, e.w, s.displacement s.egoNow.1 e.p k, 0, ep⟩)
  { r.2 with slot := k + 1 }

/-- K of a set, row by row, and its inverse. -/
def kMat (p : ProjSet) : List Rat := [Proj.fx p, 0, Proj.cx p, 0, Proj.fy p, Proj.cy p, 0, 0, 1]
/-- The inverse of K. -/
def kInv (p : ProjSet) : List Rat := [1 / Proj.fx p, 0, -Proj.cx p / Proj.fx p, 0, 1 / Proj.fy p, -Proj.cy p / Proj.fy p, 0, 0, 1]
/-- The rotation of a set. -/
def rMat (p : ProjSet) : List Rat := mkMat 3 3 (fun i j => mat p.ext 4 i j)

/-- K · Rᵀ · M · R · K⁻¹ (R214). -/
def homography (p : ProjSet) (m : List Rat) : List Rat :=
  matMul 3 3 3 (kMat p) (matMul 3 3 3 (transpose 3 3 (rMat p)) (matMul 3 3 3 m (matMul 3 3 3 (rMat p) (kInv p))))

/-- The matrix of a cross product with w. -/
def skew (w : List Rat) : List Rat := [0, -vat w 2, vat w 1, vat w 2, 0, -vat w 0, -vat w 1, vat w 0, 0]

/-- The de-rotation set of a port (R214). -/
def derotSet (p : ProjSet) (r : EgoRec) : DerotSet :=
  let m := qMat r.q
  ⟨r.slot, r.epoch, (homography p m).map r32, (homography p (matMul 3 3 3 m (skew r.w))).map r32⟩

/-- EGO_CAUSAL_PUBLISH: at 1000k + 500 ns the causal state and the de-rotation sets for slot k + 1 (R212, R214). -/
def execEgoCausalPublish (t : Nat) (s0 : State) : Host.Outcome State Fault Refusal :=
  let s := s0.advance t
  if !(s.on Ob.egoEnable && (s.dev = 3 || s.dev = 4)) then ok s
  else
    let k := slotOf s.time
    let r := s.causalFor k
    let s1 := (s.setEgo { s.square.ego with causal := some r }).setDom Ob.egoStateCausal (egoBytes r)
    let s2 := { s1 with gate := { s1.gate with egoStamp := 1000 * (k + 1) } }
    ok ((List.range 4).foldl (fun s p =>
      s.modPort p (fun q => { q with derot := (derotSet (s.projNext p (s.extrinsicAt (k + 1) p)) r :: q.derot.filter (fun d => d.slot ≠ r.slot)).take 2 })) s2)

/-- Ego-motion begins from identity (R210). -/
def State.egoStart (s : State) : State := s.setEgo Ego.init

/-- Reference Reset waits for the next slot boundary (R211). -/
def State.applyReferenceReset (s : State) : State := s.setEgo { s.square.ego with resetPending := true }

/-- The slot boundary's part: a waiting Reference Reset (R211). -/
def State.egoBoundary (s : State) : State :=
  let e := s.square.ego
  if e.resetPending then s.setEgo { e with q := [1, 0, 0, 0], v := [0, 0, 0], p := [0, 0, 0], sLine := 0, resetPending := false } else s

end Sys2Proof.Machine
end

