-- ==== Sys2Proof/Machine/Tracks.lean ====
section
/-! DEFINITION. The track filter (R232 to R237): prediction, innovation, update, the settings it reads, sensors and their
steps (R245 to R248). -/

namespace Sys2Proof.Machine

/-! ## Settings in force (R251) -/

/-- A REAL32 object in force. -/
def State.forceReal (s : State) (k : Nat) : Rat := real32 (s.forceNat k)

/-- REAL32 values in force of a DOMAIN. -/
def State.forceReals (s : State) (k n : Nat) : List Rat := realsAt (s.forceBytes k (4 * n)) 0 n

/-- Line Direction's plane components while Line-Borne is 1. -/
def State.lineDir (s : State) : Option (Rat × Rat) :=
  if s.forceNat Ob.lineborne = 1 then
    let u := s.forceReals Ob.lineDirection 3
    some (vat u 0, vat u 1)
  else none

/-! ## The filter -/

/-- The column that feeds a row of the transition F: velocity into position, rate into angle (R233). -/
def feedsRow (i : Nat) : Option Nat := if i = 0 then some 2 else if i = 1 then some 3 else if i = 6 then some 7 else none

/-- F applied to a vector, `dt` in seconds. -/
def transitionVec (dt : Rat) (x : List Rat) : List Rat :=
  (List.range 8).map (fun i => match feedsRow i with
    | some j => vat x i + dt * vat x j
    | none => vat x i)

/-- F · P · Fᵀ. -/
def transitionCov (dt : Rat) (c : List Rat) : List Rat :=
  let l := mkMat 8 8 (fun i j => match feedsRow i with
    | some r => mat c 8 i j + dt * mat c 8 r j
    | none => mat c 8 i j)
  mkMat 8 8 (fun i j => match feedsRow j with
    | some r => mat l 8 i j + dt * mat l 8 i r
    | none => mat l 8 i j)

/-- Q(dt) for q_a, q_s, q_alpha (R233). -/
def noiseCov (q : List Rat) (dt : Rat) : List Rat :=
  let pair := fun (g : Rat) (lo i j : Nat) (hi : Nat) =>
    if i = lo ∧ j = lo then g * dt ^ 3 / 3 else if i = hi ∧ j = hi then g * dt
    else if (i = lo ∧ j = hi) ∨ (i = hi ∧ j = lo) then g * dt ^ 2 / 2 else 0
  mkMat 8 8 (fun i j =>
    pair (vat q 0) 0 i j 2 + pair (vat q 0) 1 i j 3 + pair (vat q 2) 6 i j 7
      + (if i = j ∧ (i = 4 ∨ i = 5) then vat q 1 * dt else 0))

/-- A state with its angle wrapped, a REAL32 like the others (R232). -/
def wrapState (x : List Rat) : List Rat := setNth x 6 (r32 (wrapAngle (vat x 6)))

/-- A prediction over `n` slots with line advance `ds` in nm: state and covariance (R233). `noise`: q_a, q_s, q_alpha, f3. -/
def predict (noise : List Rat) (u : Option (Rat × Rat)) (n : Nat) (ds : Int) (x c : List Rat) : List Rat × List Rat :=
  if n = 0 then (x, c)
  else
    let dt : Rat := ((n : Nat) : Rat) / 1000000
    let x1 := transitionVec dt x
    let x2 := match u with
      | some (ux, uy) => setNth (setNth x1 0 (vat x1 0 + ux * ds / 1000000000)) 1 (vat x1 1 + uy * ds / 1000000000)
      | none => x1
    (wrapState (x2.map r32), (vAdd (transitionCov dt c) (vScale (vat noise 3) (noiseCov noise dt))).map r32)

/-- One elimination step of a Gauss–Jordan inversion on rows; none where the pivot is not above 0. -/
def eliminate (rows : List (List Rat)) (k : Nat) : Option (List (List Rat)) :=
  let pr := rows.getD k []
  let p := vat pr k
  if p ≤ 0 then none
  else
    let pr' := vScale (1 / p) pr
    some ((List.range rows.length).map (fun i =>
      let r := rows.getD i []
      if i = k then pr' else vSub r (vScale (vat r k) pr')))

/-- All elimination steps from column `k` on. -/
def eliminateFrom : Nat → Nat → List (List Rat) → Option (List (List Rat))
  | 0, _, rows => some rows
  | n + 1, k, rows => (eliminate rows k).bind (eliminateFrom n (k + 1))

/-- The inverse of a symmetric matrix of size `m`, where it is positive definite (R236). -/
def invSym (m : Nat) (a : List Rat) : Option (List Rat) :=
  let aug := (List.range m).map (fun i => (List.range (2 * m)).map (fun j =>
    if j < m then mat a m i j else if j = m + i then 1 else 0))
  (eliminateFrom m 0 aug).map (fun rows => mkMat m m (fun i j => vat (rows.getD i []) (m + j)))

/-- vᵀ · A · v. -/
def quadForm (m : Nat) (a v : List Rat) : Rat :=
  sumRat ((List.range m).map (fun i => sumRat ((List.range m).map (fun j => vat v i * mat a m i j * vat v j))))

/-- The innovation of measured rows against a state: y, S, S⁻¹, the gating distance d2 and nis (R236, R237). `w` scales the
declared variances. -/
structure Innovation where
  y : List Rat
  s : List Rat
  si : List Rat
  d2 : Rat
  nis : Rat
  deriving DecidableEq, Repr

/-- H·P·Hᵀ + diag(var)·w. -/
def innovCov (c : List Rat) (rows : List (Nat × Rat × Rat)) (w : Rat) : List Rat :=
  let idx := fun (i : Nat) => (rows.getD i (0, 0, 0)).1
  mkMat rows.length rows.length (fun i j =>
    mat c 8 (idx i) (idx j) + (if i = j then (rows.getD i (0, 0, 0)).2.2 * w else 0))

/-- The innovation, none where S is not positive definite (R236). -/
def innovation (x c : List Rat) (rows : List (Nat × Rat × Rat)) (w : Rat) : Option Innovation :=
  let m := rows.length
  let y := rows.map (fun r => if r.1 = 6 then wrapAngle (r.2.1 - vat x 6) else r.2.1 - vat x r.1)
  let s := innovCov c rows w
  match invSym m s with
  | none => none
  | some si =>
    let nis := match invSym m (innovCov c rows 1) with
      | some s1 => if m = 0 then Config.real32Near 0 else quadForm m s1 y / ((m : Nat) : Rat)
      | none => 0
    some ⟨y, s, si, quadForm m si y, nis⟩

/-- The gain P·Hᵀ·S⁻¹, 8 × m. -/
def gain (c : List Rat) (rows : List (Nat × Rat × Rat)) (si : List Rat) : List Rat :=
  let m := rows.length
  mkMat 8 m (fun i j => sumRat ((List.range m).map (fun l => mat c 8 i (rows.getD l (0, 0, 0)).1 * mat si m l j)))

/-- A covariance made symmetric, each diagonal element at least 10^−12 (R236). -/
def settleCov (c : List Rat) : List Rat :=
  mkMat 8 8 (fun i j =>
    let v := (mat c 8 i j + mat c 8 j i) / 2
    r32 (if i = j ∧ v < 1 / 1000000000000 then 1 / 1000000000000 else v))

/-- A state and covariance updated with measured rows (R236). -/
def applyUpdate (x c : List Rat) (rows : List (Nat × Rat × Rat)) (w : Rat) (inn : Innovation) : List Rat × List Rat :=
  let m := rows.length
  let k := gain c rows inn.si
  let x1 := (List.range 8).map (fun i => r32 (vat x i + sumRat ((List.range m).map (fun j => mat k m i j * vat inn.y j))))
  let ikh := mkMat 8 8 (fun i j => (if i = j then 1 else 0)
    - sumRat ((List.range m).map (fun l => if (rows.getD l (0, 0, 0)).1 = j then mat k m i l else 0)))
  let joseph := matMul 8 8 8 (matMul 8 8 8 ikh c) (transpose 8 8 ikh)
  let krk := mkMat 8 8 (fun i j => sumRat ((List.range m).map (fun l => mat k m i l * ((rows.getD l (0, 0, 0)).2.2 * w) * mat k m j l)))
  (wrapState x1, settleCov (vAdd joseph krk))

/-! ## Tracks -/

/-- A disputed track's weighted mean and the covariance that spans both hypotheses (R244). -/
def disputeView (d : Dispute) : List Rat × List Rat :=
  let df := setNth (vSub d.xb d.xa) 6 (wrapAngle (vat d.xb 6 - vat d.xa 6))
  (wrapState ((vAdd d.xa (vScale d.wb df)).map r32),
   (mkMat 8 8 (fun i j => d.wa * mat d.ca 8 i j + d.wb * mat d.cb 8 i j + d.wa * d.wb * vat df i * vat df j)).map r32)

/-- A track changed in the slot it stands at: later slots predict it from here (R233). -/
def Track.rebase (tr : Track) : Track := { tr with base := ⟨tr.at_, tr.sAt, tr.x, tr.cov, tr.dispute⟩ }

/-- A track predicted from its last change to slot `k`, whose settled line position is `line`, in one step (R233); its hypotheses
with it. -/
def Track.predictTo (tr : Track) (noise : List Rat) (u : Option (Rat × Rat)) (k : Nat) (line : Int) : Track :=
  if k ≤ tr.at_ then tr
  else
    let n := k - tr.base.k
    let ds := line - tr.base.sAt
    match tr.base.dispute with
    | none =>
      let r := predict noise u n ds tr.base.x tr.base.cov
      { tr with x := r.1, cov := r.2, at_ := k, sAt := line }
    | some d =>
      let ra := predict noise u n ds d.xa d.ca
      let rb := predict noise u n ds d.xb d.cb
      let d' := { d with xa := ra.1, ca := ra.2, xb := rb.1, cb := rb.2 }
      { tr with x := (disputeView d').1, cov := (disputeView d').2, at_ := k, sAt := line, dispute := some d' }

/-- The tracks replaced. -/
def State.setTracks (s : State) (ts : SMap Track) : State := { s with square := { s.square with tracks := ts } }

/-- A track put. -/
def State.putTrack (s : State) (i : Nat) (tr : Track) : State := s.setTracks (s.square.tracks.set i tr)

/-! ## Sensors -/

/-- A sensor. -/
def State.sensor (s : State) (i : Nat) : SensorStep := s.square.sensors.get SensorStep.init i

/-- A sensor replaced, with the objects that show it (Table 9-6). -/
def State.setSensor (s : State) (i : Nat) (x : SensorStep) : State :=
  ({ s with square := { s.square with sensors := s.square.sensors.set i x } }).setAll
    [(Ob.sensorStep i, (x.step : Nat)), (Ob.innovationHistory i, (real32Bits x.h : Nat))]

/-- A sensor's floor in force (R248). -/
def State.floorOf (s : State) (i : Nat) : Nat := s.forceNat (Ob.sensorStepFloor i)

/-- The factor on a sensor's variances: Demotion Factor at D1 (R236). -/
def State.demotion (s : State) (i : Nat) : Rat := if (s.sensor i).step = 1 then s.forceReal Ob.demotionFactor else 1

/-- Innovation history refreshed (R237). -/
def State.refreshNis (s : State) (i : Nat) (nis : Rat) : State :=
  let x := s.sensor i
  s.setSensor i { x with h := r32 (x.h + (nis - x.h) / 256) }

/-- A sensor raised to a step: fault 0x0704 (R247). -/
def State.raiseSensor (s : State) (i step : Nat) : State :=
  let x := s.sensor i
  if step ≤ x.step then s
  else ((s.setSensor i { x with step := step, below := 0 }).count 32 (Ob.demotions i) 1).raise 0x0704 i

/-- One demotion: one step up, D2 at most (R247). -/
def State.demote (s : State) (i : Nat) : State := s.raiseSensor i (min 2 ((s.sensor i).step + 1))

/-- A sensor at its floor with h_s = 1 (R246). -/
def State.sensorToFloor (s : State) (i : Nat) : State := s.setSensor i ⟨s.floorOf i, 1, 0⟩

/-- Whether a sensor is engaged (R245). -/
def State.engaged (s : State) (i : Nat) : Bool :=
  if i < 16 then s.on (Ob.frameEnable i) else s.ctxState (i - 16) = 2

/-- A sensor's step at the end of a slot's fusion (Table 9-2). `old` is the step at which the slot was fused, since steps decided
in a fusion take effect with the next slot (R245); one that rose in this fusion counts its Restore Slots from the next. A
sensor that delivered nothing in the slot, as `got` says, keeps its step (R246; log entry 82). -/
def State.sensorSlotEnd (old : Nat → Nat) (got : Nat → Bool) (s : State) (i : Nat) : State :=
  let lim := s.forceReal Ob.nisLimit
  let x := s.sensor i
  let s1 :=
    if old i = 0 ∧ lim < x.h then s.raiseSensor i 1
    else if old i = 1 ∧ 2 * lim < x.h then s.raiseSensor i 2
    else s
  let y := s1.sensor i
  if y.step = 0 ∨ old i < y.step then s1
  else
    let below := if y.h < lim / 2 then y.below + 1 else 0
    if got i ∧ s.forceNat Ob.restoreSlots ≤ below ∧ s.floorOf i < y.step then s1.setSensor i { y with step := y.step - 1, below := 0 }
    else s1.setSensor i { y with below := below }

/-! ## The device step (Table 9-2) -/

/-- The configured ego sources, encoders by number and inertial ports from 4 on, and whether each is missing (R245). -/
def State.egoSources (s : State) : List (Nat × Bool) :=
  if !s.on Ob.egoEnable then []
  else
    ((List.range 4).filter (fun e => s.encRole e ≠ 0)).map (fun e => (e, decide (s.nat (Ob.encoderState e) = 2))) ++
    (match s.inertialPort with
      | some m => [(4 + m, decide (s.nat (Ob.inertialState m) = 2))]
      | none => [])

/-- The conditions of D3 to D5 after a slot (Table 9-2). `delivered`: an awaited context or feed stream had delivered. -/
def State.devAfter (s : State) (delivered : Bool) : DevStep :=
  let d := s.square.dev
  let src := s.egoSources
  let some_ := src.any (·.2)
  let all := some_ && src.all (·.2)
  let miss := s.forceNat Ob.egoMissingSlots
  let missing : SMap Nat := src.foldl (fun m e => if e.2 then m.set e.1 (d.missing.get 0 e.1 + 1) else m) []
  let allMissing := if all then d.allMissing + 1 else 0
  let present := if some_ then 0 else d.present + 1
  let d3 := (!all && missing.any (fun e => decide (miss ≤ e.2))) || (d.d3 && decide (present < 1024))
  let eng := (List.range 24).filter s.engaged
  let allD2 := eng ≠ [] && eng.all (fun i => (s.sensor i).step == 2)
  let coast := if delivered then 0 else d.coast + 1
  let back := if delivered && eng.any (fun i => decide ((s.sensor i).step < 2)) then d.deliver + 1 else 0
  let d4 := decide (s.forceNat Ob.coastSlots ≤ coast) || allD2 || (d.d4 && decide (back < 64))
  let inD4 := if d4 then d.inD4 + 1 else 0
  let egoGone := decide (miss ≤ allMissing)
  let cond5 := decide (s.forceNat Ob.freezeSlots ≤ inD4) || egoGone
  let clear := if d4 || cond5 then 0 else d.clear + 1
  let d5 := cond5 || (d.d5 && decide (clear < 1024))
  ⟨missing, allMissing, present, coast, back, inD4, clear, d3, d4, d5⟩

/-- The device step the conditions give (R245). -/
def State.stepFor (s : State) (d : DevStep) : Nat :=
  let steps := (List.range 24).map (fun i => (s.sensor i).step)
  if d.d5 then 5 else if d.d4 then 4 else if d.d3 then 3
  else if steps.contains 2 then 2 else if steps.contains 1 then 1 else 0

/-- The device step set: entries counted, fault 0x0705 on a rise (R247). -/
def State.setDevStep (s : State) (n : Nat) : State :=
  let old := s.nat Ob.deviceStep
  if n = old then s
  else
    let c := s.domNat Ob.stepEntries (8 * n) 8
    let dom := s.domBytes Ob.stepEntries 0 (8 * n) ++ leBytes 8 (c + 1) ++ s.domBytes Ob.stepEntries (8 * n + 8) (40 - 8 * n)
    ((s.setDom Ob.stepEntries dom).setNat Ob.deviceStep n).raiseIf (decide (old < n)) 0x0705 noUnit

/-- The conditions of the device step after a Degradation Reset: D5 has ended (R246). -/
def DevStep.endD5 (d : DevStep) : DevStep := { d with d5 := false, inD4 := 0, allMissing := 0 }

/-- The sensors of a restore at their floors: one, or with 24 every sensor (R246). -/
def State.restoreSensors (s : State) (i : Nat) : State :=
  if i < 24 then s.sensorToFloor i else (List.range 24).foldl State.sensorToFloor s

/-- Restores that take effect, and are no longer waiting: their sensors (R246). -/
def State.takeRestores (s : State) (due : List (Nat × Nat)) : State :=
  let s1 := due.foldl (fun s r => s.restoreSensors r.1) s
  { s1 with square := { s1.square with restores := s.square.restores.filter (fun r => !due.contains r) } }

/-- Whether a Degradation Reset is among restores. -/
def resetAmong (due : List (Nat × Nat)) : Bool := due.any (fun r => r.1 == 24)

/-- The conditions of the device step set, and the step they give (R245, R247). -/
def State.setConditions (s : State) (d : DevStep) : State :=
  let s1 := { s with square := { s.square with dev := d } }
  s1.setDevStep (s1.stepFor d)

/-- At a boundary, the restores whose slot has been fused or never opened take effect (R246), and the device step follows. -/
def State.restoresDue (s : State) (k : Nat) : State :=
  let due := s.square.restores.filter (fun r => decide (r.2 < k) &&
    (s.dev ≠ 4 || s.square.open_.all (fun o => decide (r.2 < o.k))))
  let s1 := s.takeRestores due
  s1.setConditions (if resetAmong due then s1.square.dev.endD5 else s1.square.dev)

/-- Sensor Restore (or 24, Degradation Reset) waits for the next boundary (R246). -/
def State.applyRestore (s : State) (i : Nat) : State :=
  { s with square := { s.square with restores := s.square.restores ++ [(i, slotOf s.time)] } }

/-- Floors above a sensor's step raise it at the boundary (R248). -/
def State.floorsBoundary (s : State) : State :=
  (List.range 24).foldl (fun s i => s.raiseSensor i (s.nat (Ob.sensorStepFloor i))) s

end Sys2Proof.Machine
end

