-- ==== Sys2Proof/Machine/Arcade.lean ====
section
/-! DEFINITION. The Arcade up to fusion (R216 to R223, R226), the event-level feed (R219) and the wait-limit loop (R173). -/

namespace Sys2Proof.Machine

/-- The Square replaced. -/
def State.setSquare (s : State) (q : Square) : State := { s with square := q }

/-! ## Streams (Table 8-3) -/

/-- The slot of the newest complete block of a sample ring. -/
def State.newestBlock (s : State) (i : Nat) : Option Nat := (s.ring i).newestSlot

/-- The watermark of a stream; 0 before the first (R216). Those of inputs and ports are kept from their latest complete block or
committed packet on. -/
def State.watermarkOf (s : State) (i : Nat) : Nat :=
  if i < 8 then min (s.square.declared.get 0 i) s.time else s.square.marks.get 0 i

/-- Stream Watermarks, 26 × 8 bytes (Table 8-6). -/
def State.watermarkBytes (s : State) : List Byte := (List.range 26).flatMap (fun i => leBytes 8 (s.watermarkOf i))

/-- Whether a stream has delivered for slot `k` (Table 8-3). -/
def State.delivered (s : State) (i k : Nat) : Bool :=
  if 8 ≤ i ∧ i < 16 then
    decide (1000 * k + 500 + outputPeriod (s.nat (Ob.preset (i - 8))) (s.nat (Ob.filterMode (i - 8))) ≤ s.watermarkOf i)
  else decide (1000 * k + 999 ≤ s.watermarkOf i)

/-- Whether a stream is awaited (R223). -/
def State.awaited (s : State) (i : Nat) : Bool :=
  bitAt (s.nat Ob.awaitMask) i &&
    (if i < 8 then s.ctxState i = 2
     else if i < 16 then s.on (Ob.channelEnable (i - 8))
     else if i < 18 then s.on (Ob.inertialEnable (i - 16)) && s.nat (Ob.inertialState (i - 16)) ≠ 2
     else if i < 22 then s.on (Ob.encoderEnable (i - 18)) && s.nat (Ob.encoderState (i - 18)) ≠ 2
     else s.on (Ob.portEnable (i - 22)) && s.on (Ob.feedEnable (i - 22)))

/-- The streams awaited now. -/
def State.awaitedStreams (s : State) : List Nat := (List.range 26).filter s.awaited

/-! ## Aligned analog values (R221) -/

/-- The aligned entry of a channel for slot `k`, from the samples its complete blocks hold (R221, R249). -/
def State.alignedEntry (s : State) (n k : Nat) : Nat :=
  if !bitAt (s.nat Ob.analogAlignmentMask) n then 0
  else
    let l : List (Nat × Int) := match s.newestBlock n with
      | some j => (s.chan n).recent.filter (fun e => decide (slotOf e.1 ≤ j))
      | none => []
    let tm : Int := 1000 * k + 500
    let entry := fun (y : Int) (stale : Bool) => put 40 24 (unsigned 24 y) + put 39 1 (bnat stale) + put 38 1 1
    match l.find? (fun e => decide (s.effectiveAt n e.1 ≤ tm)), l.reverse.find? (fun e => decide (tm ≤ s.effectiveAt n e.1)), l.head? with
    | some a, some b, _ =>
      let ta := s.effectiveAt n a.1
      let tb := s.effectiveAt n b.1
      if ta = tb then entry a.2 false
      else entry (meanOf (a.2 * (tb - tm) + b.2 * (tm - ta)) (tb - ta).toNat) false
    | _, _, some h => entry h.2 true
    | _, _, none => entry 0 true

/-- The analog block of slot `k` (R249). -/
def State.analogBlock (s : State) (k : Nat) : List Byte := (List.range 8).flatMap (fun n => leBytes 8 (s.alignedEntry n k))

/-! ## Filing (R217, R222, R226) -/

/-- A record rejected (R207, R217). -/
def State.rejectRecord (s : State) : State := (s.count 64 Ob.recordsRejected 1).raise 0x0602 noUnit

/-- A measurement that finds the filing store of 16,384 full: dropped and counted as in R220 (Table 12-1). -/
def State.storeFull (s : State) : State := (s.count 64 Ob.updatesDropped 1).raise 0x0603 noUnit

/-- The sensor of a record: its frame, or its context for kind 2 (R231). -/
def recordSensor (n : Nat) (bs : List Byte) : Nat := if leAt bs 8 1 = 2 then 16 + n else leAt bs 9 1

/-- Whether R217 rejects a record: a reserved field that is not zero, a kind or frame that does not exist, a disabled frame. -/
def State.recordBad (s : State) (bs : List Byte) : Bool :=
  let kind := leAt bs 8 1
  decide (4 ≤ leAt bs 14 1) || decide (4 < kind) ||
    (decide (kind = 1 ∨ kind = 3 ∨ kind = 4) && (decide (16 ≤ leAt bs 9 1) || !s.on (Ob.frameEnable (leAt bs 9 1))))

/-- The measurement of a record projected with the sets of an epoch: `none` where the epoch's sets are not held; the inner
`none` where the projection fails. A kind 2 record needs no set (R218). -/
def State.measure (s : State) (n : Nat) (bs : List Byte) (epoch : Nat) : Option (Option Meas) :=
  (if leAt bs 8 1 = 2 then some (s.projNow 0) else s.projFor epoch (leAt bs 9 1 % 16)).map (fun p =>
    (measureRecord p bs).map (fun m =>
      { stamp := leAt bs 0 8, stream := n, seq := s.square.filed, kind := leAt bs 8 1, frame := leAt bs 9 1, sensor := recordSensor n bs,
        cls := leAt bs 10 2, conf := leAt bs 15 1, hint := leAt bs 12 2, slot := slotOf (leAt bs 0 8), epoch := epoch, rows := m.rows,
        vec := m.vec, normal := if leAt bs 8 1 = 2 then [] else p.plane.take 3, pix := m.pix, half := m.half }))

/-- A track becomes followed, or is renewed (R219). -/
def State.follow (s : State) (i : Nat) : State :=
  if (s.square.tracks.find? i).isNone then s
  else if (s.square.followed.find? i).isSome ∨ s.square.followed.length < 256 then
    let f := s.square.followed.set i (slotOf s.time)
    (s.setSquare { s.square with followed := f }).setNat Ob.followedTracks f.length
  else s.raise 0x0606 noUnit

/-- A wait-limit count of a measurement (R173). -/
def State.waitCount (s : State) (late : Bool) : State :=
  let w := s.square.wait
  s.setSquare { s.square with wait := { w with total := w.total + 1, late := w.late + bnat late } }

/-- Whether slot `k` was fused in D5, or is being so: its measurements never become late samples (R248). -/
def State.frozenSlot (s : State) (k : Nat) : Bool :=
  s.square.hist.any (fun h => h.k == k && h.frozen) || s.square.fusing.any (fun f => f.k == k && f.entry.frozen)

/-- A record of a slot that has been opened: projected and filed, or put into the late queue (R222, R226). -/
def State.fileRecord (s : State) (n : Nat) (bs : List Byte) : State :=
  let k := slotOf (leAt bs 0 8)
  let s1 := if bitAt (leAt bs 14 1) 1 ∧ leAt bs 8 1 ≤ 2 ∧ leAt bs 12 2 ≠ 0xFFFF then s.follow (leAt bs 12 2) else s
  let s2 := (s1.setSquare { s1.square with filed := s1.square.filed + 1 }).progress 64
  match s2.square.open_.find? (fun o => o.k == k && !o.closed) with
  | some o =>
    match s2.measure n bs o.epoch with
    | none => s2.rejectRecord
    | some none => s2.rejectRecord
    | some (some m) =>
      if 16384 ≤ sumNat (s2.square.open_.map (fun o => o.meas.length)) then s2.storeFull else
      (s2.setSquare { s2.square with open_ := s2.square.open_.map (fun o => if o.k = k then { o with meas := o.meas ++ [m] } else o) }).waitCount false
  | none =>
    let s3 := s2.waitCount (s2.square.open_.all (fun o => o.k ≠ k))
    if s3.frozenSlot k then s3
    else match s3.slotEpochOf k with
      | none => s3.lateDiscard
      | some e =>
        if !s3.holdsEpoch e then s3.lateDiscard
        else match s3.measure n bs e with
        | none => s3.lateDiscard
        | some none => s3.rejectRecord
        | some (some m) =>
          if 256 ≤ s3.square.late.length then s3.lateDiscard
          else (s3.setSquare { s3.square with late := s3.square.late ++ [m] }).setNat Ob.lateQueueFill (s3.square.late.length + 1)

/-- A record that reaches the Square from context `n` (R217, R222). -/
def State.receiveRecord (s : State) (n : Nat) (bs : List Byte) : State :=
  let stamp := leAt bs 0 8
  if s.recordBad bs then s.rejectRecord
  else
    let w := if leAt bs 56 8 < s.watermarkOf n then s.square.declared.get 0 n else leAt bs 56 8
    let s1 := s.setSquare { s.square with declared := s.square.declared.set n w }
    if leAt bs 8 1 = 0 then s1
    else if !s.driving ∨ s.time + 1000 < stamp then (s1.count 64 Ob.earlyOrFutureDiscards 1).raise 0x0604 noUnit
    else if (match s.square.top with
        | some k => decide (k < slotOf stamp)
        | none => true) then s1.setSquare { s1.square with held := s1.square.held ++ [(n, bs)] }
    else s1.fileRecord n bs

/-- MEASUREMENT_FILED: the `i`-th record on its way reaches the Square; its credit returns unless it is held as early.
A fenced Square refuses it (Table 16-2). -/
def execMeasurementFiled (t : Nat) (i : Nat) (s0 : State) : Host.Outcome State Fault Refusal :=
  let s := s0.advance t
  match s.market.submissions[i]? with
  | none => ok s
  | some x =>
    if s.fenced then ok s
    else
    let s1 := { s with market := { s.market with submissions := dropNth s.market.submissions i } }
    ok (s1.receiveRecord x.ctx x.bytes)

/-! ## Slots (R222, R223) -/

/-- The wait limit of slots that open now: the loop's, within 2 µs to 255 µs (R173, R222). -/
def State.waitNow (s : State) : Nat := max 2000 (min 255000 (s.nat Ob.waitLimit))

/-- The wait limit with bounds and pins as they are at RUN entry, where the loop's first period begins (R169; log entry 80). -/
def State.startWaitLoop (s : State) : State :=
  if s.on Ob.waitLimitMode then s.setNat Ob.waitLimit (max 2000 (min 255000 (s.nat Ob.pinnedWaitLimit)))
  else s.setNat Ob.waitLimit (max (max 2000 (s.nat Ob.waitLimitMin)) (min (min 255000 (s.nat Ob.waitLimitMax)) (s.nat Ob.waitLimit)))

/-- Slots Open shown (Table 8-6). -/
def State.showSlots (s : State) : State := s.setNat Ob.slotsOpen (s.square.open_.filter (fun o => !o.closed)).length

/-- The oldest slot still open, whose predecessors have closed (R223). -/
def State.nextToClose (s : State) : Option OpenSlot := s.square.open_.find? (fun o => !o.closed)

/-- Slot `k` closed (R221, R223). -/
def State.closeSlot (s : State) (k : Nat) (byDeadline : Bool) : State :=
  let got := (s.awaitedStreams.filter (fun i => i < 8 || 22 ≤ i)).any (fun i => s.delivered i k)
  let w := s.square.wait
  let done : Int := (s.time : Int) - (1000 * (k + 1) : Nat)
  (s.setSquare { s.square with
      open_ := s.square.open_.map (fun o => if o.k = k then
        { o with closed := true, byDeadline := byDeadline, delivered := got, analog := s.analogBlock k } else o),
      wait := { w with latest := if byDeadline then w.latest else max w.latest done, deadline := w.deadline || byDeadline } }).showSlots.progress 64

/-- A slot closed by its deadline (R223). -/
def State.closeLate (s : State) (k : Nat) : State := (s.closeSlot k true).count 64 Ob.closedByDeadline 1

/-- The slots 256 before slot `k` or earlier whose deadline has come close before it opens (R223); `n` at most. -/
def State.closeBefore (k : Nat) : Nat → State → State
  | 0, s => s
  | n + 1, s =>
    match s.nextToClose with
    | some o => if o.k + 256 ≤ k ∧ o.deadline ≤ s.time then State.closeBefore k n (s.closeLate o.k) else s
    | none => s

/-- Tracks not renewed for 4,096 slots are no longer followed (R219). -/
def State.dropFollowed (s : State) : State :=
  let k := slotOf s.time
  let f := s.square.followed.filter (fun e => decide (k < e.2 + 4096) && (s.square.tracks.find? e.1).isSome)
  (s.setSquare { s.square with followed := f }).setNat Ob.followedTracks f.length

/-- The slot that begins at the present boundary opens in RUN, unless the device is leaving it (R327), and the records held for it are
filed (R222). -/
def State.openSlot (s0 : State) : State :=
  let s := (State.closeBefore (slotOf s0.time) s0.square.open_.length s0).dropFollowed
  if !s.driving then s
  else
    let k := slotOf s.time
    let e := s.nat Ob.epoch
    let c := match s.square.ego.causal with
      | some r => (r.q, r.w)
      | none => ([1, 0, 0, 0], [0, 0, 0])
    let o : OpenSlot := ⟨k, e, decide (e ≠ s.square.slotEpoch), 1000 * (k + 1) + s.waitNow, [], false, false, false, [], c.1, c.2⟩
    let due := s.square.held.filter (fun h => decide (slotOf (leAt h.2 0 8) ≤ k))
    let s1 := s.setSquare { s.square with open_ := s.square.open_ ++ [o], top := some k, slotEpoch := e,
                                          held := s.square.held.filter (fun h => decide (k < slotOf (leAt h.2 0 8))) }
    (due.foldl (fun s h => s.fileRecord h.1 h.2) s1).showSlots

/-- SLOT_CLOSE: every awaited stream has delivered for the oldest open slot (R223). -/
def execSlotClose (t : Nat) (s0 : State) : Host.Outcome State Fault Refusal :=
  let s := s0.advance t
  match s.nextToClose with
  | some o => if s.awaitedStreams.all (fun i => s.delivered i o.k) then ok (s.closeSlot o.k false) else ok s
  | none => ok s

/-- SLOT_DEADLINE: the oldest open slot has reached its deadline (R223). -/
def execSlotDeadline (t : Nat) (s0 : State) : Host.Outcome State Fault Refusal :=
  let s := s0.advance t
  match s.nextToClose with
  | some o => if o.deadline ≤ s.time then ok (s.closeLate o.k) else ok s
  | none => ok s

/-! ## The event-level feed (R219) -/

/-- The windows a followed track has in a port: its predicted centre at the middle of the next 8 slots, half-size the image
half-extent plus 4 px. -/
def State.windowOf (s : State) (p i : Nat) (tr : Track) : Option FeedWindow :=
  let k := slotOf s.time + 4
  let line := s.square.ego.sLine + roundRat (s.square.ego.speed * 4000)
  let x := (tr.predictTo [0, 0, 0, 0] s.lineDir k line).x
  let set := s.projNow p
  ((Proj.onPlane set (vat x 0) (vat x 1)).bind (Proj.forward set)).map (fun uv => ⟨i, uv.1, uv.2, tr.half.get 0 p + 4⟩)

/-- Whether the interval from `a` to `b` reaches into part `i` of the 64 equal parts of `size` pixels. -/
def inPart (size : Nat) (a b : Rat) (i : Nat) : Bool := decide (64 * a < (size * (i + 1) : Nat) ∧ ((size * i : Nat) : Rat) ≤ 64 * b)

/-- Whether a window reaches into the cell at column `cx`, row `cy` of the 64 × 64 into which an image is cut (R219). -/
def inCell (width height : Nat) (w : FeedWindow) (cx cy : Nat) : Bool :=
  inPart width (w.u - w.half) (w.u + w.half) cx && inPart height (w.v - w.half) (w.v + w.half) cy

/-- A window entered in the cells it reaches; a cell takes at most 8 (R219). -/
def enterWindow (p width height : Nat) (w : FeedWindow) (m : SMap (List FeedWindow)) : SMap (List FeedWindow) :=
  (List.range 64).foldl (fun m cy => (List.range 64).foldl (fun m cx =>
    let key := 4096 * p + 64 * cy + cx
    let l := m.get [] key
    if inCell width height w cx cy ∧ l.length < 8 then m.set key (l ++ [w]) else m) m) m

/-- FEED_WINDOW_REFRESH: every 8 slots the windows of the followed tracks are placed anew (R219). -/
def execFeedWindowRefresh (t : Nat) (s0 : State) : Host.Outcome State Fault Refusal :=
  let s := s0.advance t
  if s.dev ≠ 4 then ok s
  else
    let s1 := s.dropFollowed
    let cells := (List.range 4).foldl (fun m p =>
      let set := s1.projNow p
      s1.square.followed.foldl (fun m e => match s1.square.tracks.find? e.1 with
        | some tr => match s1.windowOf p e.1 tr with
          | some w => enterWindow p set.width set.height w m
          | none => m
        | none => m) m) []
    ok (s1.setSquare { s1.square with cells := cells })

/-- The device time nearest `now` whose low 30 bits are `low` (Table 8-2). -/
def nearestTime (now low : Nat) : Nat :=
  let m := 2 ^ 30
  let c := now / m * m + low
  if c + m / 2 < now then c + m else if now + m / 2 < c ∧ m ≤ c then c - m else c

/-- The window a feed word falls into: containing it, nearest centre, ties to the lower track ID (R219). -/
def windowFor (x y : Rat) (l : List FeedWindow) : Option FeedWindow :=
  let d := fun (w : FeedWindow) => (w.u - x) ^ 2 + (w.v - y) ^ 2
  (l.filter (fun w => decide (absRat (w.u - x) ≤ w.half ∧ absRat (w.v - y) ≤ w.half))).foldl (fun best w => match best with
    | none => some w
    | some b => if d w < d b ∨ (d w = d b ∧ w.track < b.track) then some w else some b) none

/-- Moments with one more word. -/
def Moments.add (m : Moments) (x y : Int) : Moments :=
  ⟨m.n + 1, m.sx + x, m.sy + y, m.sxx + x * x, m.syy + y * y, m.sxy + x * y⟩

/-- The key of the moments of a slot, track and port. -/
def momentKey (k track p : Nat) : Nat := (k * 4096 + track) * 4 + p

/-- Whether a feed word is discarded for its set: its parity is not that of its slot and the set used, the next slot's
where one is published, else the one before, is of another epoch (R219; log entry 32). -/
def State.feedForeign (s : State) (k parity : Nat) (epoch : Nat) : Bool :=
  if k % 2 = parity then false
  else
    let other := match s.square.ego.causal with
      | some r => if k < r.slot then (if r.slot = k + 1 then some r.epoch else s.slotEpochOf (k + 1)) else s.slotEpochOf (k - 1)
      | none => s.slotEpochOf (k - 1)
    other ≠ some epoch

/-- FEED_WORD: the oldest word of the feed queue is added to the moments of its window, while its slot is open (R219). A parity error
discards the word, which the Market has or has not got by itself: no GAP reports it (R60, R215; log entry 83). -/
def execFeedWord (r : FeedRead) (s0 : State) : Host.Outcome State Fault Refusal :=
  let s := s0.advance r.time
  match s.gate.feed with
  | [] => ok s
  | w :: rest =>
    let s1 := { s with gate := { s.gate with feed := rest } }
    let n := w.toNat
    let p := field n 62 2
    let x := signed 15 (field n 46 15)
    let y := signed 15 (field n 31 15)
    let k := slotOf (nearestTime s.time (field n 0 30))
    if r.parityError then ok ((s1.portCount p 13 1).raise 0x0106 p) else
    match s1.square.open_.find? (fun o => o.k == k && !o.closed) with
    | none => ok s1
    | some o =>
      if s1.feedForeign k (field n 30 1) o.epoch ∨ x < 0 ∨ y < 0 then ok s1
      else
        let set := s1.projNow p
        let cx := 32 * x.toNat / set.width
        let cy := 32 * y.toNat / set.height
        let cell := if cx < 64 ∧ cy < 64 then s1.square.cells.get [] (4096 * p + 64 * cy + cx) else []
        match windowFor ((x : Rat) / 2) ((y : Rat) / 2) cell with
        | none => ok s1
        | some win =>
          let key := momentKey k win.track p
          ok ((s1.setSquare { s1.square with moments := s1.square.moments.set key ((s1.square.moments.get Moments.init key).add x y) }).count 64
            (Ob.eventsAccumulated p) 1)

/-! ## The wait-limit loop (R173) -/

/-- WAIT_LIMIT_LOOP_TICK: every 1,024 slots W moves by the late fraction; pinned, it publishes the excess (R169, R173). -/
def execWaitLimitLoopTick (t : Nat) (s0 : State) : Host.Outcome State Fault Refusal :=
  let s := s0.advance t
  if s.dev ≠ 4 then ok s
  else
    let l := s.square.wait
    let frac := if l.total = 0 then 0 else l.late * 65536 / l.total
    let target := s.nat Ob.lateTarget
    let s1 := s.setSquare { s.square with wait := ⟨0, 0, 0, false⟩ }
    let w := s.nat Ob.waitLimit
    if s.on Ob.waitLimitMode then
      let ex := satNat 65535 (frac - target)
      let pin := max 2000 (min 255000 (s.nat Ob.pinnedWaitLimit))
      ok (((s1.setNat Ob.waitLimit pin).setNat Ob.latePredictedExcess ex).raiseIf
        (decide (s.nat Ob.latePredictedExcess = 0 ∧ 0 < ex)) 0x0502 noUnit)
    else
      let moved := if target * l.total < l.late * 65536 then w + max 1000 (w / 8)
        else if l.late = 0 ∧ !l.deadline ∧ l.latest + 2000 < (w : Int) then w - 1000 else w
      let lo := max 2000 (s.nat Ob.waitLimitMin)
      let hi := min 255000 (s.nat Ob.waitLimitMax)
      ok ((s1.setNat Ob.waitLimit (max lo (min hi moved))).setNat Ob.latePredictedExcess 0)

end Sys2Proof.Machine
end

