-- ==== Sys2Proof/Machine/Crypto.lean ====
section
/-! DEFINITION. The functions of FIPS 180-4, FIPS 198-1 and the curve P-384 that R403, R409 and Table 17-5 name: SHA-256, SHA-384,
HMAC-SHA-256, the curve equation. -/

namespace Sys2Proof.Machine

/-- The whole `r`-th root of `n`, bit by bit from bit `b` down. -/
def rootFrom (r n : Nat) : Nat → Nat → Nat
  | 0, acc => if (acc + 1) ^ r ≤ n then acc + 1 else acc
  | b + 1, acc => rootFrom r n b (if (acc + 2 ^ (b + 1)) ^ r ≤ n then acc + 2 ^ (b + 1) else acc)

/-- The first `w` bits of the fraction of the `r`-th root of `p`. -/
def rootFraction (r w p : Nat) : Nat := rootFrom r (p * 2 ^ (r * w)) (w + 5) 0 % 2 ^ w

/-- Whether a number is prime, by trial division. -/
def isPrimeBy (n : Nat) : Bool := (List.range 21).all (fun d => d < 2 || n ≤ d || n % d ≠ 0)

/-- The first 80 primes. -/
def primes80 : List Nat := ((List.range 410).filter (fun n => decide (2 ≤ n) && isPrimeBy n)).take 80

/-- A word rotated right. -/
def rotr {w : Nat} (x : BitVec w) (n : Nat) : BitVec w := x.rotateRight n

/-- The constants of one of the two hash functions: the word width, the schedule length, the rotations and shifts of its four
sigma functions, its round constants and its initial value. -/
structure ShaKind where
  w : Nat
  rounds : Nat
  big0 : List Nat
  big1 : List Nat
  small0 : List Nat
  small1 : List Nat
  k : List Nat
  init : List Nat

/-- SHA-256. -/
def sha256Kind : ShaKind :=
  { w := 32, rounds := 64, big0 := [2, 13, 22], big1 := [6, 11, 25], small0 := [7, 18, 3], small1 := [17, 19, 10],
    k := (primes80.take 64).map (rootFraction 3 32), init := (primes80.take 8).map (rootFraction 2 32) }

/-- SHA-384. -/
def sha384Kind : ShaKind :=
  { w := 64, rounds := 80, big0 := [28, 34, 39], big1 := [14, 18, 41], small0 := [1, 8, 7], small1 := [19, 61, 6],
    k := primes80.map (rootFraction 3 64), init := ((primes80.drop 8).take 8).map (rootFraction 2 64) }

/-- A sigma function of three rotations. -/
def bigSigma {w : Nat} (r : List Nat) (x : BitVec w) : BitVec w := rotr x (nth 0 r 0) ^^^ rotr x (nth 0 r 1) ^^^ rotr x (nth 0 r 2)

/-- A sigma function of two rotations and a shift. -/
def smallSigma {w : Nat} (r : List Nat) (x : BitVec w) : BitVec w := rotr x (nth 0 r 0) ^^^ rotr x (nth 0 r 1) ^^^ (x >>> nth 0 r 2)

/-- The message schedule, newest word first, from its first 16 words on. -/
def schedule (h : ShaKind) : Nat → List (BitVec h.w) → List (BitVec h.w)
  | 0, ws => ws
  | n + 1, ws =>
    let x := smallSigma h.small1 (nth 0 ws 1) + nth 0 ws 6 + smallSigma h.small0 (nth 0 ws 14) + nth 0 ws 15
    schedule h n (x :: ws)

/-- One round on the eight working variables. -/
def shaRound (h : ShaKind) (v : List (BitVec h.w)) (kw : BitVec h.w) : List (BitVec h.w) :=
  let x := fun i => nth 0 v i
  let t1 := x 7 + bigSigma h.big1 (x 4) + ((x 4 &&& x 5) ^^^ (~~~ x 4 &&& x 6)) + kw
  let t2 := bigSigma h.big0 (x 0) + ((x 0 &&& x 1) ^^^ (x 0 &&& x 2) ^^^ (x 1 &&& x 2))
  [t1 + t2, x 0, x 1, x 2, x 3 + t1, x 4, x 5, x 6]

/-- One block. -/
def shaBlock (h : ShaKind) (v : List (BitVec h.w)) (block : List Byte) : List (BitVec h.w) :=
  let b := h.w / 8
  let ws := (List.range 16).map (fun i => BitVec.ofNat h.w (ofBeBytes (bytesAt block (b * i) b)))
  let sched := (schedule h (h.rounds - 16) ws.reverse).reverse
  let kw := (List.range h.rounds).map (fun i => nth 0 sched i + BitVec.ofNat h.w (nth 0 h.k i))
  let r := kw.foldl (shaRound h) v
  (List.range 8).map (fun i => nth 0 v i + nth 0 r i)

/-- The digest of a message: padded, hashed block by block, the first `out` bytes. -/
def shaDigest (h : ShaKind) (out : Nat) (m : List Byte) : List Byte :=
  let b := 2 * h.w
  let lenBytes := h.w / 4
  let zeros := (b - (m.length + 1 + lenBytes) % b) % b
  let padded := m ++ [0x80] ++ List.replicate zeros 0 ++ (leBytes lenBytes (8 * m.length)).reverse
  let v := (List.range (padded.length / b)).foldl (fun v i => shaBlock h v (bytesAt padded (b * i) b)) (h.init.map (BitVec.ofNat h.w))
  (v.flatMap (fun x => (leBytes (h.w / 8) x.toNat).reverse)).take out

/-- SHA-256. -/
def sha256 (m : List Byte) : List Byte := shaDigest sha256Kind 32 m

/-- SHA-384. -/
def sha384 (m : List Byte) : List Byte := shaDigest sha384Kind 48 m

/-- HMAC-SHA-256 with a key of at most 64 bytes (R409). -/
def hmac256 (key m : List Byte) : List Byte :=
  let k := padTo 64 key
  sha256 (k.map (· ^^^ 0x5C) ++ sha256 (k.map (· ^^^ 0x36) ++ m))

/-- The prime of P-384. -/
def p384Prime : Nat := 2 ^ 384 - 2 ^ 128 - 2 ^ 96 + 2 ^ 32 - 1

/-- The constant b of P-384. -/
def p384B : Nat := 0xB3312FA7E23EE7E4988E056BE3F82D19181D9C6EFE8141120314088F5013875AC656398D8A2ED19D2A85C8EDD3EC2AEF

/-- Whether an entry of Package Keys is in range: empty, or an uncompressed point on the curve (R403). -/
def packageKeyOk (e : List Byte) : Bool :=
  let x := ofBeBytes (bytesAt e 1 48)
  let y := ofBeBytes (bytesAt e 49 48)
  e.all (· == 0) ||
    (decide (leAt e 0 1 = 4 ∧ x < p384Prime ∧ y < p384Prime) &&
      y * y % p384Prime == (x * x * x + p384B + (p384Prime - 3) * x) % p384Prime)

end Sys2Proof.Machine
end

