-- ==== Sys2Proof/Machine/Calibration.lean ====
section
/-! DEFINITION. The calibration loops (R253 to R273): epochs, the residual ring, the loops' windows, limits and states. -/

namespace Sys2Proof.Machine

/-- The loops' state replaced. -/
def State.setCal (s : State) (c : Cal) : State := { s with cal := c }

/-- Loop number of the extrinsics of a frame. -/
def extLoop (f : Nat) : Nat := 16 + f
/-- Loop number of the encoder scale. -/
def scaleLoop : Nat := 32

/-- Whether the calibration runtime works: Calibration Context names a RUNNING context that is not in REPLAY (R258). -/
def State.runtimeOn (s : State) : Bool :=
  let n := s.nat Ob.calibrationContext
  decide (n < 8) && s.ctxState n = 2 && s.nat (Ob.arithmeticMode n) ≠ 3

/-- Whether a loop is stopped (R271). -/
def State.loopStopped (s : State) (l : Nat) : Bool := s.cal.stopped.contains l

/-- Whether the extrinsic loop of a frame has started (R266, R273). -/
def State.extStarted (s : State) (f : Nat) : Bool :=
  s.on (Ob.refineEnable f) && f ≠ s.nat Ob.extrinsicAnchor && s.dev = 4 && s.on (Ob.frameEnable f)
    && s.on (Ob.frameEnable (s.nat Ob.extrinsicAnchor))

/-- Whether the scale loop has started (R273). -/
def State.scaleStarted (s : State) : Bool :=
  s.on Ob.scaleEnable && s.dev = 4 && (match s.lineEncoder with
    | some e => s.nat (Ob.encoderState e) = 1
    | none => false)

/-- Whether the time-offset loop of a port has started (R273). -/
def State.offsetStarted (s : State) (p : Nat) : Bool :=
  s.on (Ob.timeOffsetEnable p) && s.nat (Ob.portState p) = 2 && !s.on (Ob.coldFlag p) && s.on Ob.egoEnable &&
    (match s.inertialPort with
      | some m => s.nat (Ob.inertialState m) = 1
      | none => false)

/-- Whether a Gate loop of a port has started: its port streams with the cold flag clear (R273). -/
def State.gateLoopStarted (s : State) (p : Nat) : Bool := s.nat (Ob.portState p) = 2 && !s.on (Ob.coldFlag p)

/-- A loop state: 0 off, 1 holding, 2 running, 3 stopped (R273). -/
def loopState (enabled stopped running : Bool) : Nat := if !enabled then 0 else if stopped then 3 else if running then 2 else 1

/-- Loop States of a port (Table 10-4). -/
def State.loopStatesOf (s : State) (p : Nat) : Nat :=
  loopState (s.on (Ob.refractoryLearningEnable p)) false (s.gateLoopStarted p)
    + 4 * loopState (s.on (Ob.biasTrimEnable p)) false (s.gateLoopStarted p)
    + 16 * loopState (s.on (Ob.timeOffsetEnable p)) (s.loopStopped p) (s.offsetStarted p && s.runtimeOn && !s.on Ob.calibrationFreeze)

/-- Extrinsic Loop State of a frame. -/
def State.extStateOf (s : State) (f : Nat) : Nat :=
  loopState (s.on (Ob.refineEnable f) && f ≠ s.nat Ob.extrinsicAnchor) (s.loopStopped (extLoop f))
    (s.extStarted f && s.runtimeOn && !s.on Ob.calibrationFreeze && s.nat Ob.deviceStep < 4)

/-- Scale Loop State. -/
def State.scaleStateOf (s : State) : Nat :=
  loopState (s.on Ob.scaleEnable) (s.loopStopped scaleLoop)
    (s.scaleStarted && s.runtimeOn && !s.on Ob.calibrationFreeze && s.nat Ob.deviceStep < 4)

/-! ## The residual ring (R260) -/

/-- A residual record (Table 10-2). -/
def residualBytes (slot epoch kind frame track : Nat) (v m va : List Rat) : List Byte :=
  leBytes 8 (1000 * slot) ++ leBytes 2 epoch ++ [BitVec.ofNat 8 kind, BitVec.ofNat 8 frame] ++ leBytes 2 track ++ [0, 0]
    ++ realsOut v ++ realsOut m ++ realsOut va ++ [0, 0, 0, 0]

/-- A residual record written after the 64-byte head; an unread one it overwrites is lost (R260; log entry 33). -/
def State.writeResidual (s : State) (bs : List Byte) : State :=
  let base := s.nat Ob.residualRingBase
  let off := 64 + 48 * (s.cal.written % 32768)
  let s1 := (s.store (base + off) bs).store base (leBytes 8 off)
  let unread := if s.runtimeOn then 0 else s.cal.unread + 1
  let s2 := s1.setCal { s1.cal with written := s1.cal.written + 1, unread := min 32768 unread }
  if 32768 < unread then (s2.count 64 Ob.residualsLost 1).raiseSlow 0x0803 noUnit else s2

/-- A position residual of a frame gathered by the runtime (R266). -/
def State.gatherPosition (s : State) (f : Nat) : State :=
  if s.runtimeOn then s.setCal { s.cal with residuals := s.cal.residuals.upd 0 f (· + 1) } else s

/-- A flow residual gathered by the runtime: velocity along the line times line speed, and line speed squared (R267). -/
def State.gatherFlow (s : State) (vu speed : Rat) : State :=
  if s.runtimeOn then
    s.setCal { s.cal with scaleTop := s.cal.scaleTop + vu * speed, scaleSq := s.cal.scaleSq + speed * speed,
                          scaleCount := s.cal.scaleCount + 1 }
  else s

/-- Partial windows discarded: on entry to D4 (R268), and at an epoch change, whose earlier records the runtime discards
(R260). -/
def State.dropWindows (s : State) : State :=
  s.setCal { s.cal with residuals := [], scaleTop := 0, scaleSq := 0, scaleCount := 0 }

/-- The scale loop's window emptied. -/
def State.dropScale (s : State) : State := s.setCal { s.cal with scaleTop := 0, scaleSq := 0, scaleCount := 0 }

/-! ## Commits and epochs (R255, R256, R265) -/

/-- A loop commit staged; a later one of the same loop takes its place (R254). -/
def State.stageCommit (s : State) (l : Nat) (v : Int) (data : List Byte) : State :=
  s.setCal { s.cal with staged := s.cal.staged.filter (fun c => c.loop ≠ l) ++ [⟨l, v, data, false⟩] }

/-- A loop commit goes into the object it writes. -/
def State.commitLoop (s : State) (c : LoopCommit) : State :=
  if c.loop < 4 then s.setNum (Ob.calibratedOffset c.loop) c.value
  else if c.loop = scaleLoop then s.setDom Ob.encoderScale c.data
  else s.setDom (Ob.extrinsic (c.loop - 16)) c.data

/-- Frames whose projection set changes at the boundary. -/
def State.framesChanged (s : State) (loops : Bool) : List Nat :=
  (List.range 16).filter (fun f =>
    s.heldNum.any (fun e => e.1 / 256 == 0x2700 + f && epochKey e.1) || s.heldDom.any (fun e => e.1 / 256 == 0x2700 + f && epochKey e.1)
      || (loops && s.cal.staged.any (fun c => c.loop == extLoop f)))

/-- Applied Offset one step of 1 ns nearer to Calibrated Offset, while it slews (R265). -/
def State.slewOffset (s : State) (p : Nat) : State :=
  let v := s.num (Ob.calibratedOffset p)
  let a := s.num (Ob.appliedOffset p)
  if !s.cal.slewing.contains p then s
  else
    let a' := if a < v then a + 1 else if v < a then a - 1 else a
    let s1 := s.setNum (Ob.appliedOffset p) a'
    if a' = v then s1.setCal { s1.cal with slewing := s1.cal.slewing.filter (· ≠ p) } else s1

/-- Commits held by the spacing are noticed once each (R256). -/
def State.noteHeld (s : State) : State :=
  if s.on Ob.calibrationFreeze then s
  else
    let fresh := s.cal.staged.filter (fun c => !c.noted)
    let s1 := fresh.foldl (fun s _ => s.raise 0x0804 noUnit) s
    s1.setCal { s1.cal with staged := s1.cal.staged.map (fun c => { c with noted := true }) }

/-- The slot boundary's part that opens slot `k`, before held writes come into force: an epoch where an epoch-bearing change
commits (R255, R256), then the offsets' slew (R265). -/
def State.calBoundary (s : State) (k : Nat) : State :=
  let loops := s.loopsCommit k
  let s1 :=
    if s.opensEpoch k then
      let e := s.nat Ob.epoch
      let changed := s.framesChanged loops
      let starts := (List.range 4).filter s.offsetStarts
      let sets := (List.range 16).map s.projNow
      let s1 : State := { s with square := { s.square with prevSets := sets, prevEpoch := some e, prevEgo := s.egoNow } }
      let s2 := if loops then s1.cal.staged.foldl State.commitLoop s1 else s1
      let loopStarts := if loops then (s.cal.staged.filter (fun c => c.loop < 4)).map (·.loop) else []
      let s3 := (s2.setNat Ob.epoch ((e + 1) % 65536)).count 64 Ob.epochChanges 1
      let s4 := changed.foldl (fun s f => s.setNat (Ob.frameEpoch f) ((e + 1) % 65536)) s3
      (s4.setCal { s4.cal with staged := if loops then [] else s4.cal.staged, lastEpoch := some k,
                               slewing := (starts ++ loopStarts).foldl (fun l p => if l.contains p then l else p :: l) s4.cal.slewing }).dropWindows
    else if loops then
      let s1 := s.cal.staged.foldl State.commitLoop s
      s1.setCal { s1.cal with staged := [], slewing := (s.cal.staged.map (·.loop)).foldl (fun l p => if l.contains p then l else p :: l) s1.cal.slewing }
    else if s.cal.staged = [] then s else s.noteHeld
  (List.range 4).foldl State.slewOffset s1

/-! ## The Gate's loops (R261 to R264) -/

/-- The bin R261 picks: the first above the peak whose count is below a quarter of the largest count. -/
def learnedBin (l : List Nat) : Option Nat :=
  let cmax := l.foldl max 0
  let peak := (l.takeWhile (fun c => c ≠ cmax)).length
  (List.range l.length).find? (fun b => decide (peak < b ∧ 4 * nth 0 l b < cmax))

/-- REFRACTORY_LEARN_WINDOW_END: the learned bin's lower edge becomes the Refractory Period (R261). -/
def execRefractoryLearnWindowEnd (t : Nat) (p : Fin 4) (s0 : State) : Host.Outcome State Fault Refusal :=
  let s := s0.advance t
  if !(s.on (Ob.refractoryLearningEnable p) && s.gateLoopStarted p)
      ∨ s.time < (s.port p).learnFrom + 1000000 * s.nat (Ob.refractoryLearnWindow p) then ok s
  else
    let s1 := s.modPort p (fun q => { q with learn := List.replicate 16 0, learnFrom := s.time })
    match learnedBin (s.port p).learn with
    | none => ok s1
    | some b =>
      ok (s1.deferNum (Ob.refractoryPeriod p)
        (max (s.nat (Ob.refractoryMin p)) (min (s.nat (Ob.refractoryMax p)) (if b = 0 then 0 else 2 ^ b)) : Nat))

/-- The code a bias step goes to, or none where the limit blocks it (R262). -/
def biasStep (up : Bool) (code lo hi step : Nat) : Option Nat :=
  if up then (if code + step ≤ hi then some (code + step) else none)
  else if lo + step ≤ code then some (code - step) else none

/-- The transfer of a bias code: the template with the code at its offset, most significant byte first (R262). -/
def biasTransfer (prog : List Byte) (code : Nat) : List Byte :=
  let len := leAt prog 0 1
  let off := leAt prog 1 1
  let w := leAt prog 2 1
  (List.range len).map (fun i =>
    if off ≤ i ∧ i < off + w then BitVec.ofNat 8 (code / 256 ^ (w - 1 - (i - off))) else prog.getD (16 + i) 0)

/-- BIAS_WINDOW_END: the rate of the window against its band moves the bias code by one step (R262). -/
def execBiasWindowEnd (t : Nat) (p : Fin 4) (s0 : State) : Host.Outcome State Fault Refusal :=
  let s := s0.advance t
  if !(s.on (Ob.biasTrimEnable p) && s.gateLoopStarted p)
      ∨ s.time < (s.port p).biasFrom + 1000000 * s.nat (Ob.biasWindow p) then ok s
  else
    let n := (s.port p).biasCount * 1000
    let win := s.nat (Ob.biasWindow p)
    let band := s.nat (Ob.biasRateBand p)
    let s1 := s.modPort p (fun q => { q with biasCount := 0, biasFrom := s.time })
    let up := decide (field band 32 32 * win < n)
    if !up ∧ field band 0 32 * win ≤ n then ok s1
    else
      let prog := s.domBytes (Ob.biasProgram p) 0 80
      let code := match s.objs.find? (Ob.biasCode p) with
        | some c => c.toNat
        | none => leAt prog 8 2
      match biasStep up code (leAt prog 4 2) (leAt prog 6 2) (leAt prog 10 2) with
      | none => ok (s1.raise 0x0805 p)
      | some c =>
        if 8 ≤ (s.port p).i3c.length then ok s1
        else ok ((s1.submitI3c p true (biasTransfer prog c)).setNat (Ob.biasCode p) c)

/-- The rate ring's part of a slot boundary: the events of the slot that ended, 4 bytes an entry (R264; log entry 34). -/
def State.rateRings (s : State) : State :=
  (List.range 4).foldl (fun s p =>
    if s.on (Ob.timeOffsetEnable p) then
      let i := s.cal.rateNext.get 0 p
      let s1 := s.store (s.nat (Ob.rateRingBase p) + 4 * i) (leBytes 4 (s.port p).rateCount)
      (s1.setCal { s1.cal with rateNext := s1.cal.rateNext.set p ((i + 1) % 4096) }).modPort p (fun q => { q with rateCount := 0 })
    else s) s

/-- The time-offset task of a port: the runtime's estimate in ns and its normalised peak in 1/256; Calibrated Offset is lowered by
half the estimate, at most 100 ns (R264, R271). -/
def State.offsetTask (s : State) (p : Nat) (estimate : Rat) (peak : Nat) : State :=
  let s1 := s.setNum (Ob.offsetEstimate p) (clampInt (-2147483648) 2147483647 (roundRat estimate))
  if peak < s.nat (Ob.offsetMinCorrelation p) ∨ absRat estimate < 2 ∨ s.loopStopped p then s1
  else
    let d := roundRat (estimate / 2)
    let d' := clampInt (-100) 100 d
    let v := clampInt (-1000000) 1000000 (s.num (Ob.calibratedOffset p) - d')
    if (s.nat (Ob.offsetDriftLimit p) : Int) < Int.natAbs (v - s.cal.offsetRef.get 0 p) then
      (s1.setCal { s1.cal with stopped := (p : Nat) :: s1.cal.stopped }).raise 0x0806 p
    else (s1.stageCommit p v []).raiseIf (decide (d ≠ d')) 0x0801 p

/-! ## Geometry and scale (R266, R267, R271) -/

/-- A vector cut to a length; whether it was cut. -/
def clampNorm (lim : Rat) (v : List Rat) : List Rat × Bool :=
  if dot v v ≤ lim * lim then (v, false) else (vScale (lim / sqrtOf (dot v v)) v, true)

/-- The extrinsic with a small rotation before it and a translation added (R266; log entry 35). -/
def correctedExt (e rot tr : List Rat) : List Rat :=
  let d := qMat (qExp (vScale (1 / 2) rot))
  mkMat 3 4 (fun i j => r32 (if j < 3 then sumRat ((List.range 3).map (fun l => mat d 3 i l * mat e 4 l j)) else mat e 4 i 3 + vat tr i))

/-- One step towards an orthonormal rotation: R (3 I − RᵀR) / 2, the translation as it is. -/
def orthoStep (e : List Rat) : List Rat :=
  let r := mkMat 3 3 (fun i j => mat e 4 i j)
  let m := mkMat 3 3 (fun i j => (if i = j then 3 else 0) - sumRat ((List.range 3).map (fun l => mat r 3 l i * mat r 3 l j)))
  mkMat 3 4 (fun i j => if j < 3 then r32 (sumRat ((List.range 3).map (fun l => mat r 3 i l * mat m 3 l j)) / 2) else mat e 4 i 3)

/-- A corrected extrinsic brought into the object's range (R206, R254): made orthonormal again where it is out of it, and the one it
corrects where that does not bring it in. -/
def clampExt (old e : List Rat) : List Byte :=
  if extrinsicOk (realsOut e) then realsOut e
  else if extrinsicOk (realsOut (orthoStep e)) then realsOut (orthoStep e) else realsOut old

/-- The extrinsic task of a frame: the runtime's least-squares step over a full window, clamped and staged (R266, R271). -/
def State.extrinsicTask (s : State) (f : Nat) (rotation translation : List Rat) : State :=
  if s.loopStopped (extLoop f) then s
  else
    let mx := realsAt (s.domBytes (Ob.extrinsicStepMax f) 0 8) 0 2
    let r := clampNorm (vat mx 0) (rotation.take 3)
    let tr := clampNorm (vat mx 1) (translation.take 3)
    let cum := realsAt (s.domBytes (Ob.cumulativeCorrection f) 0 24) 0 6
    let cr := vAdd (cum.take 3) r.1
    let ct := vAdd (cum.drop 3) tr.1
    let lim := realsAt (s.domBytes (Ob.extrinsicDriftLimit f) 0 8) 0 2
    if vat lim 0 * vat lim 0 < dot cr cr ∨ vat lim 1 * vat lim 1 < dot ct ct then
      (s.setCal { s.cal with stopped := extLoop f :: s.cal.stopped }).raise 0x0806 f
    else
      let e := realsAt (s.domBytes (Ob.extrinsic f) 0 48) 0 12
      let s2 := s.stageCommit (extLoop f) 0 (clampExt e (correctedExt e r.1 tr.1))
      (s2.setDom (Ob.cumulativeCorrection f) (realsOut (cr ++ ct))).raiseIf (r.2 || tr.2) 0x0801 f

/-- The scale task: ρ over a full window multiplies the line encoder's scale (R267, R271). -/
def State.scaleTask (s : State) (rho : Rat) : State :=
  match s.lineEncoder with
  | none => s
  | some e =>
    if absRat (rho - 1) < 1 / 100000 ∨ s.loopStopped scaleLoop then s
    else
      let r' := if rho < 999 / 1000 then 999 / 1000 else if 1001 / 1000 < rho then 1001 / 1000 else rho
      let old := real32 (s.domNat Ob.encoderScale (4 * e) 4)
      let v := r32 (old * r')
      let ppm := roundRat ((v / s.cal.scaleRef - 1) * 1000000)
      if (s.nat Ob.scaleDriftLimit : Int) < Int.natAbs ppm then
        (s.setCal { s.cal with stopped := scaleLoop :: s.cal.stopped }).raise 0x0806 noUnit
      else
        let data := s.domBytes Ob.encoderScale 0 (4 * e) ++ realsOut [v] ++ s.domBytes Ob.encoderScale (4 * e + 4) (12 - 4 * e)
        ((s.stageCommit scaleLoop 0 data).setNum Ob.scaleCorrection (clampInt (-100000) 100000 ppm)).raiseIf
          (decide (r' ≠ rho)) 0x0801 noUnit

/-! ## The budget of the calibration partition (R258) -/

/-- The cycles the runtime may take on each tile of the partition in a millisecond: Calibration Share thousandths of those of its
slowest tile (R258). -/
def State.calBudget (s : State) : Nat :=
  s.nat Ob.calibrationShare * (((s.ctxTiles (s.nat Ob.calibrationContext)).map (fun t => s.nat (Ob.tileClock t))).min?.getD 0)

/-- A task put among those that wait, which are served in the order time offset, extrinsics, encoder scale (R258). -/
def insertTask (x : CalTask) : List CalTask → List CalTask
  | [] => [x]
  | y :: l => if x.loop < y.loop then x :: y :: l else y :: insertTask x l

/-- A task carried out. -/
def State.runTask (s : State) (x : CalTask) : State :=
  if x.loop < 4 then s.offsetTask x.loop x.estimate x.peak
  else if x.loop = scaleLoop then s.scaleTask x.estimate
  else s.extrinsicTask (x.loop - 16) x.rotation x.translation

/-- The waiting tasks served in order as far as the millisecond's budget goes; the rest waits for the next one, with notice 0x0802 at
most once per second (R258). `n` bounds the tasks. -/
def State.serveTasks : Nat → State → State
  | 0, s => s
  | n + 1, s =>
    match s.cal.tasks with
    | [] => s
    | x :: rest =>
      if !s.runtimeOn then s
      else
        let left := s.calBudget - s.cal.spent
        if x.cycles ≤ left then
          State.serveTasks n ((s.setCal { s.cal with tasks := rest, spent := s.cal.spent + x.cycles }).runTask x)
        else
          (s.setCal { s.cal with tasks := { x with cycles := x.cycles - left } :: rest, spent := s.cal.spent + left }).raiseSlow 0x0802 noUnit

/-- A task handed to the runtime. -/
def State.queueTask (s : State) (x : CalTask) : State :=
  State.serveTasks (s.cal.tasks.length + 1) (s.setCal { s.cal with tasks := insertTask x s.cal.tasks })

/-- The slot boundary's part: a new millisecond brings a new budget (R258). -/
def State.calMillisecond (s : State) : State :=
  if s.time % 1000000 = 0 then State.serveTasks s.cal.tasks.length (s.setCal { s.cal with spent := 0 }) else s

/-- TIME_OFFSET_WINDOW_END: an Offset Window ends with the runtime's estimate and its peak, a task of `cycles` on each tile (R258,
R264). -/
def execTimeOffsetWindowEnd (t : TaskEnd) (p : Fin 4) (estimate : Rat) (peak : Nat) (s0 : State) : Host.Outcome State Fault Refusal :=
  let s := s0.advance t.time
  if !(s.offsetStarted p && s.runtimeOn) ∨ s.time < s.cal.offsetFrom.get 0 p + 1000000 * s.nat (Ob.offsetWindow p) then ok s
  else ok ((s.setCal { s.cal with offsetFrom := s.cal.offsetFrom.set p s.time }).queueTask ⟨p, t.cycles, estimate, peak, [], []⟩)

/-- EXTRINSIC_WINDOW_END: a full window of residuals ends with the runtime's step, a task of `cycles` on each tile (R258, R266). -/
def execExtrinsicWindowEnd (t : TaskEnd) (f : Fin 16) (rotation translation : List Rat) (s0 : State) :
    Host.Outcome State Fault Refusal :=
  let s := s0.advance t.time
  if !(s.extStarted f && s.runtimeOn) ∨ s.cal.residuals.get 0 f < s.nat (Ob.extrinsicWindow f) then ok s
  else ok ((s.setCal { s.cal with residuals := s.cal.residuals.set f 0 }).queueTask ⟨extLoop f, t.cycles, 0, 0, rotation, translation⟩)

/-- SCALE_WINDOW_END: a full window of records ends with their ρ, a task of `cycles` on each tile (R258, R267). -/
def execScaleWindowEnd (t : TaskEnd) (s0 : State) : Host.Outcome State Fault Refusal :=
  let s := s0.advance t.time
  if !(s.scaleStarted && s.runtimeOn) ∨ s.cal.scaleCount < s.nat Ob.scaleWindow then ok s
  else
    let rho := if s.cal.scaleSq = 0 then 1 else s.cal.scaleTop / s.cal.scaleSq
    ok (s.dropScale.queueTask ⟨scaleLoop, t.cycles, rho, 0, [], []⟩)

/-! ## Host writes that a loop refers to (R271) -/

/-- A host write of Calibrated Offset: the new reference; a staged commit of the loop gives way (R254). -/
def State.hostOffset (s : State) (p : Nat) (v : Int) : State :=
  let s1 := s.setNum (Ob.calibratedOffset p) v
  s1.setCal { s1.cal with offsetRef := s1.cal.offsetRef.set p v, staged := s1.cal.staged.filter (fun c => c.loop ≠ p) }

/-- A host write of a frame's extrinsic. -/
def State.hostExtrinsic (s : State) (f : Nat) (bs : List Byte) : State :=
  let s1 := (s.deferDom (Ob.extrinsic f) 48 bs).setDom (Ob.cumulativeCorrection f) (List.replicate 24 0)
  s1.setCal { s1.cal with staged := s1.cal.staged.filter (fun c => c.loop ≠ extLoop f) }

/-- A host write of Encoder Scale. -/
def State.hostScale (s : State) (bs : List Byte) : State :=
  let s1 := (s.deferDom Ob.encoderScale 16 bs).setNum Ob.scaleCorrection 0
  let ref := match s.lineEncoder with
    | some e => real32 (leAt bs (4 * e) 4)
    | none => real32 (leAt bs 0 4)
  s1.setCal { s1.cal with scaleRef := ref, staged := s1.cal.staged.filter (fun c => c.loop ≠ scaleLoop) }

/-- Calibration Restart (R271): the values now are the references, and no loop is stopped. -/
def State.applyCalibrationRestart (s : State) : State :=
  let ref := (List.range 4).map (fun p => (p, s.num (Ob.calibratedOffset p)))
  let sc := match s.lineEncoder with
    | some e => real32 (s.domNat Ob.encoderScale (4 * e) 4)
    | none => s.cal.scaleRef
  let s1 := (List.range 16).foldl (fun s f => s.setDom (Ob.cumulativeCorrection f) (List.replicate 24 0)) s
  (s1.setNum Ob.scaleCorrection 0).setCal { s1.cal with offsetRef := ref, scaleRef := sc, stopped := [] }

end Sys2Proof.Machine
end

