-- ==== Sys2Proof/Machine/Fusion.lean ====
section
/-! DEFINITION. The fusion of a slot (R220, R224 to R228, R234 to R244, R259) and its snapshot (R249, R250). -/

namespace Sys2Proof.Machine

/-- The fusion of a slot as it goes: the state, the slot, its settled record, the step it runs at (0 below D4), the updates
spent, those applied, the retrodictions, the budget, the measurements dropped, whether a birth was refused, the tracks as
they stood before the slot (R243), the measurements of levels 2 and 3 that updated each track, the measurements that
gated a track (for R266, with the track), late samples that wait for the next slot, those of sensors at D2 (R239), the tracks
deleted. -/
structure Fuse where
  s : State
  k : Nat
  ego : EgoRec
  mode : Nat
  used : Nat
  applied : Nat
  retro : Nat
  budget : Nat
  dropped : Nat
  refused : Bool
  pre : SMap Track
  upd : SMap (List Meas)
  evals : List (Meas × Nat)
  waiting : List Meas
  atD2 : List Meas
  gone : SMap Track

/-- What association finds: a track, no track, or an update to be skipped because S is not positive definite (R236). -/
inductive Assoc where
  | track (i : Nat)
  | none
  | skip
  deriving DecidableEq, Repr

/-- The state of a fusion changed. -/
def onState (f : Fuse) (g : State → State) : Fuse := { f with s := g f.s }

/-- A track of a fusion. -/
def trackOf (f : Fuse) (i : Nat) : Option Track := f.s.square.tracks.find? i

/-- A track of a fusion put. -/
def putTr (f : Fuse) (i : Nat) (tr : Track) : Fuse := onState f (fun s => s.putTrack i tr)

/-- The settings of the filter in a fusion: process noise and the D3 factor (R233). -/
def noiseOf (f : Fuse) : List Rat := f.s.square.noise

/-- A track brought to the slot being fused; in D5 none is predicted (Table 9-2). Its state before the slot is kept (R243). -/
def bring (f : Fuse) (i : Nat) : Fuse :=
  match trackOf f i with
  | none => f
  | some tr =>
    let tr' := if f.mode = 5 then tr else tr.predictTo (noiseOf f) f.s.lineDir f.k f.ego.line
    let g := putTr f i tr'
    if (g.pre.find? i).isSome then g else { g with pre := g.pre.set i tr' }

/-! ## Moving a measurement into the fusion frame (R234) -/

/-- A row's value replaced. -/
def setRow (i : Nat) (v : Rat) (rows : List (Nat × Rat × Rat)) : List (Nat × Rat × Rat) :=
  rows.map (fun r => if r.1 = i then (i, v, r.2.2) else r)

/-- A measurement moved with the settled ego record of its slot; a kind 2 record is used as it stands (R218, R234). -/
def moveMeas (s : State) (r : EgoRec) (m : Meas) : Meas :=
  if m.kind = 2 then m
  else if m.kind = 4 then
    let v := (qRot r.q m.vec).map r32
    let u := s.lineDir
    let vx := match u with
      | some d => r32 (vat v 0 - r.speed * d.1)
      | none => vat v 0
    let vy := match u with
      | some d => r32 (vat v 1 - r.speed * d.2)
      | none => vat v 1
    { m with vec := v, rows := setRow 2 vx (setRow 3 vy m.rows) }
  else
    let x := (vAdd (qRot r.q m.vec) r.disp).map r32
    let turn := qTwist r.q m.normal
    let rows := m.rows.map (fun w => if w.1 = 6 then (6, wrapAngle (w.2.1 + turn), w.2.2) else w)
    { m with vec := x, rows := setRow 0 (vat x 0) (setRow 1 (vat x 1) rows) }

/-! ## Association (R238) -/

/-- The value of a row, if measured. -/
def rowVal (rows : List (Nat × Rat × Rat)) (i : Nat) : Option Rat := (rows.find? (fun r => r.1 = i)).map (·.2.1)

/-- A candidate put in its place: by squared distance, then track ID. -/
def insertCand (c : Rat × Nat) : List (Rat × Nat) → List (Rat × Nat)
  | [] => [c]
  | d :: l => if c.1 < d.1 ∨ (c.1 = d.1 ∧ c.2 < d.2) then c :: d :: l else d :: insertCand c l

/-- What a measurement finds of a track: the state and covariance it is reported with, and those it is gated against, which for a
disputed track are hypotheses (R244). -/
structure Prior where
  x : List Rat
  cov : List Rat
  views : List (List Rat × List Rat)
  deriving DecidableEq, Repr

/-- The innovation of smallest d2 against the states a track is gated with; whether some S was not positive definite (R236, R244). -/
def Prior.best (p : Prior) (rows : List (Nat × Rat × Rat)) (w : Rat) : Option Innovation × Bool :=
  p.views.foldl (fun acc v => match innovation v.1 v.2 rows w, acc.1 with
    | none, _ => (acc.1, true)
    | some inn, none => (some inn, acc.2)
    | some inn, some b => (some (if inn.d2 < b.d2 then inn else b), acc.2)) (none, false)

/-- The candidates of an unhinted measurement: live tracks whose 3σ position box contains it, the nearest 8. -/
def candidates (prior : Nat → Option Prior) (ids : List Nat) (mx my : Rat) : List Nat :=
  ((ids.foldl (fun l i => match prior i with
    | some p =>
      let dx := mx - vat p.x 0
      let dy := my - vat p.x 1
      if dx * dx ≤ 9 * mat p.cov 8 0 0 ∧ dy * dy ≤ 9 * mat p.cov 8 1 1 then insertCand (dx * dx + dy * dy, i) l else l
    | none => l) []).take 8).map (·.2)

/-- Of the candidates, the one of smallest d2 at or below Gate, ties to the lower ID; whether an S was not positive definite. -/
def bestCand (prior : Nat → Option Prior) (rows : List (Nat × Rat × Rat)) (w gate : Rat) (ids : List Nat) :
    Option (Rat × Nat) × Bool :=
  ids.foldl (fun acc i => match prior i with
    | none => acc
    | some p => match (p.best rows w).1 with
      | none => (acc.1, true)
      | some inn =>
        if gate < inn.d2 then acc
        else match acc.1 with
          | none => (some (inn.d2, i), acc.2)
          | some b => if inn.d2 < b.1 ∨ (inn.d2 = b.1 ∧ i < b.2) then (some (inn.d2, i), acc.2) else acc) (none, false)

/-- Whether the hinted track takes the measurement: passes Hint Gate; or its S is not positive definite. -/
def hintGate (prior : Nat → Option Prior) (f : Fuse) (m : Meas) : Assoc :=
  match prior m.hint with
  | none => .none
  | some p => match (p.best m.rows (f.s.demotion m.sensor)).1 with
    | none => .skip
    | some inn => if inn.d2 ≤ f.s.forceReal Ob.hintGate then .track m.hint else .none

/-- Association of a measurement with the tracks as `prior` gives them (R238). -/
def associate (prior : Nat → Option Prior) (f : Fuse) (m : Meas) : Fuse × Assoc :=
  let live := (f.s.square.tracks.find? m.hint).isSome
  let f1 := if m.hint ≠ 0xFFFF ∧ !live then onState f (fun s => s.raise 0x0707 noUnit) else f
  let hinted := if m.hint ≠ 0xFFFF ∧ live then hintGate prior f m else .none
  match hinted with
  | .track i => (f1, .track i)
  | .skip => (f1, .skip)
  | .none =>
    if m.kind ≠ 1 ∧ m.kind ≠ 2 then (f1, .none)
    else match rowVal m.rows 0, rowVal m.rows 1 with
      | some mx, some my =>
        let b := bestCand prior m.rows (f.s.demotion m.sensor) (f.s.forceReal Ob.gateThreshold)
          (candidates prior f.s.square.tracks.keys mx my)
        match b.1 with
        | some (_, i) => (f1, .track i)
        | none => (f1, if b.2 then .skip else .none)
      | _, _ => (f1, .none)

/-- The tracks as a measurement finds them in the slot being fused: a disputed one by the hypothesis of its sensor, or by both
(R244). -/
def nowPrior (f : Fuse) (m : Meas) (i : Nat) : Option Prior :=
  (trackOf f i).map (fun tr => ⟨tr.x, tr.cov, match tr.dispute with
    | none => [(tr.x, tr.cov)]
    | some d => if m.sensor = d.a then [(d.xa, d.ca)] else if m.sensor = d.b then [(d.xb, d.cb)] else [(d.xa, d.ca), (d.xb, d.cb)]⟩)

/-- A skipped update (R236). -/
def skipUpdate (f : Fuse) : Fuse := onState f (fun s => (s.count 64 Ob.updatesSkipped 1).raise 0x0706 noUnit)

/-! ## Updates -/

/-- What an update leaves on its track besides the state: hits, which start again at an update that came later than Confirm Gap,
confirmation, labels (R241, Table 9-4). -/
def hitTrack (s : State) (k : Nat) (m : Meas) (tr : Track) : Track :=
  let hits := if s.forceNat Ob.confirmGap < s.square.eff - tr.lastEff then 1 else tr.hits + 1
  { tr with hits := hits, last := k, lastEff := s.square.eff, sensor := m.sensor,
            cls := if m.kind ≤ 2 then m.cls else tr.cls, conf := if m.kind ≤ 2 then m.conf else tr.conf,
            half := if m.kind = 1 then tr.half.set m.frame m.half else tr.half,
            updatedBy := if (s.sensor m.sensor).step = 0 then tr.updatedBy.set m.sensor k else tr.updatedBy,
            confirmed := tr.confirmed || decide (s.forceNat Ob.confirmHits ≤ hits), flags := tr.flags ||| 8, changed := true }

/-- A track hit by a measurement that cost `n` updates. -/
def noteHit (f : Fuse) (i n : Nat) (m : Meas) : Fuse :=
  match trackOf f i with
  | none => f
  | some tr =>
    let g := putTr f i (hitTrack f.s f.k m tr)
    { onState g (fun s => s.count 64 (Ob.updatesApplied m.sensor) n) with used := f.used + n, applied := f.applied + n }

/-! ## Disputes (R243, R244) -/

/-- The number of disputes open. -/
def disputesNow (s : State) : Nat := (s.square.tracks.filter (fun e => e.2.dispute.isSome)).length

/-- The sensor that loses: the larger h_s, a tie to the higher number (R244; R243's withdrawal, log entry 36). -/
def loserOf (s : State) (a b : Nat) : Nat :=
  let ha := (s.sensor a).h
  let hb := (s.sensor b).h
  if ha < hb then b else if hb < ha then a else max a b

/-- Moments of the shared rows: z of each side by the shared row numbers. -/
def sharedRows (a b : List (Nat × Rat × Rat)) : List Nat := (b.map (·.1)).filter (fun r => a.any (fun q => q.1 = r))

/-- The rows of a measurement among a list of row numbers, in its order. -/
def pickRows (l : List Nat) (rows : List (Nat × Rat × Rat)) : List (Nat × Rat × Rat) :=
  l.filterMap (fun i => rows.find? (fun r => r.1 = i))

/-- d2_ab of two measurements against the track as it stood before the slot (R243); none where no sum of S inverts. -/
def disputeDist (s : State) (x c : List Rat) (ma mb : Meas) : Option Rat :=
  let sh := sharedRows ma.rows mb.rows
  let ra := pickRows sh ma.rows
  let rb := pickRows sh mb.rows
  let m := sh.length
  if m = 0 then none
  else match innovation x c ra (s.demotion ma.sensor), innovation x c rb (s.demotion mb.sensor) with
    | some ia, some ib =>
      (invSym m (vAdd ia.s ib.s)).map (fun si =>
        quadForm m si ((List.range m).map (fun i =>
          let d := (ra.getD i (0, 0, 0)).2.1 - (rb.getD i (0, 0, 0)).2.1
          if nth 0 sh i = 6 then wrapAngle d else d)))
    | _, _ => none

/-- A state updated with measurements in order (R236). -/
def foldMeas (s : State) (x c : List Rat) (ms : List Meas) : List Rat × List Rat :=
  ms.foldl (fun xc m =>
    match innovation xc.1 xc.2 m.rows (s.demotion m.sensor) with
    | some inn => applyUpdate xc.1 xc.2 m.rows (s.demotion m.sensor) inn
    | none => xc) (x, c)

/-- The track before the slot updated with one sensor's measurements of the slot (R243). -/
def foldSensor (s : State) (x c : List Rat) (sensor : Nat) (ms : List Meas) : List Rat × List Rat :=
  foldMeas s x c (ms.filter (fun m => m.sensor == sensor))

/-- Disputes Open shown. -/
def showDisputes (s : State) : State := s.setNat Ob.disputesOpen (disputesNow s)

/-- The dispute test made when `mb` has been applied to track `i` (R243). -/
def disputeTest (f : Fuse) (i : Nat) (mb : Meas) : Fuse :=
  match trackOf f i, f.pre.find? i with
  | some tr, some before =>
    if tr.dispute.isSome ∨ tr.born = f.k then f
    else
      let x := before.x
      let c := before.cov
      let thr := f.s.forceReal Ob.disputeThreshold
      let ms := f.upd.get [] i
      match ms.find? (fun ma => ma.sensor ≠ mb.sensor && (match disputeDist f.s x c ma mb with
          | some d => decide (thr < d)
          | none => false)) with
      | none => f
      | some ma =>
        let ha := foldSensor f.s x c ma.sensor ms
        let hb := foldSensor f.s x c mb.sensor ms
        let g := onState f (fun s => s.raise 0x0702 noUnit)
        if 64 ≤ disputesNow f.s then
          let rest := ms.filter (fun m => m.sensor ≠ loserOf f.s ma.sensor mb.sensor)
          let keep := foldMeas f.s x c rest
          { putTr g i { tr with x := keep.1, cov := keep.2, changed := true } with upd := f.upd.set i rest }
        else
          let d : Dispute := ⟨ma.sensor, mb.sensor, ha.1, ha.2, hb.1, hb.2, 1 / 2, 1 / 2, f.k⟩
          onState (putTr g i { tr with x := (disputeView d).1, cov := (disputeView d).2, dispute := some d, changed := true }) showDisputes
  | _, _ => f

/-- A dispute closed with a state for the track. -/
def closeDispute (f : Fuse) (i : Nat) (tr : Track) (x c : List Rat) : Fuse :=
  onState (putTr f i { tr with x := x, cov := c, dispute := none, changed := true }) showDisputes

/-- The hypotheses' mutual distance: of their positions under the sum of their covariances (R244; log entry 36). -/
def mutualDist (d : Dispute) : Option Rat :=
  let cov := mkMat 2 2 (fun i j => mat d.ca 8 i j + mat d.cb 8 i j)
  (invSym 2 cov).map (fun si => quadForm 2 si [vat d.xa 0 - vat d.xb 0, vat d.xa 1 - vat d.xb 1])

/-- A disputed track after its hypotheses changed: a weight below 1/16 drops its hypothesis; near hypotheses merge (R244). -/
def settleDispute (f : Fuse) (i : Nat) (d : Dispute) : Fuse :=
  match trackOf f i with
  | none => f
  | some tr =>
    if d.wa < 1 / 16 then closeDispute f i tr d.xb d.cb
    else if d.wb < 1 / 16 then closeDispute f i tr d.xa d.ca
    else
      let v := disputeView d
      match mutualDist d with
      | some x =>
        if x < f.s.forceReal Ob.disputeThreshold / 4 then
          onState (closeDispute f i tr v.1 v.2) (fun s => s.raise 0x0703 noUnit)
        else putTr f i { tr with x := v.1, cov := v.2, dispute := some d }
      | none => putTr f i { tr with x := v.1, cov := v.2, dispute := some d }

/-- The hypotheses of a dispute whose gate a measurement passes, with its innovations (R244). -/
def passing (f : Fuse) (i : Nat) (d : Dispute) (m : Meas) : Option Innovation × Option Innovation :=
  let w := f.s.demotion m.sensor
  let gate := if m.hint = i then f.s.forceReal Ob.hintGate else f.s.forceReal Ob.gateThreshold
  let one := fun x c => (innovation x c m.rows w).filter (fun inn => decide (inn.d2 ≤ gate))
  (one d.xa d.ca, one d.xb d.cb)

/-- A disputed track after a prediction: near hypotheses merge (R244). -/
def mergeNear (f : Fuse) (i : Nat) : Fuse :=
  match (trackOf f i).bind (·.dispute) with
  | some d => settleDispute f i d
  | none => f

/-- A measurement on a disputed track (R244). A hypothesis whose S is not positive definite is passed over (R236): it keeps its
state and its weight before the weights are renormalised (log entry 36). -/
def disputeMeasure (f : Fuse) (i : Nat) (d : Dispute) (m : Meas) : Fuse :=
  let w := f.s.demotion m.sensor
  let ia := innovation d.xa d.ca m.rows w
  let ib := innovation d.xb d.cb m.rows w
  if m.sensor = d.a ∨ m.sensor = d.b then
    match (if m.sensor = d.a then ia else ib) with
    | none => skipUpdate f
    | some inn =>
      let d' := if m.sensor = d.a then
          let u := applyUpdate d.xa d.ca m.rows w inn
          { d with xa := u.1, ca := u.2 }
        else
          let u := applyUpdate d.xb d.cb m.rows w inn
          { d with xb := u.1, cb := u.2 }
      settleDispute (noteHit (onState f (fun s => s.refreshNis m.sensor inn.nis)) i 1 m) i d'
  else
    let f := if ia.isNone then skipUpdate f else f
    let f := if ib.isNone then skipUpdate f else f
    let p := passing f i d m
    match p.1, p.2 with
    | none, none => f
    | some a, none =>
      let u := applyUpdate d.xa d.ca m.rows w a
      let sum := d.wa * expOf (-a.d2 / 2) + d.wb
      let wa := if ib.isSome then 1 else if sum = 0 then d.wa else r32 (d.wa * expOf (-a.d2 / 2) / sum)
      settleDispute (noteHit (onState f (fun s => s.refreshNis m.sensor a.nis)) i 1 m) i { d with xa := u.1, ca := u.2, wa := wa, wb := 1 - wa }
    | none, some b =>
      let u := applyUpdate d.xb d.cb m.rows w b
      let sum := d.wa + d.wb * expOf (-b.d2 / 2)
      let wb := if ia.isSome then 1 else if sum = 0 then d.wb else r32 (d.wb * expOf (-b.d2 / 2) / sum)
      settleDispute (noteHit (onState f (fun s => s.refreshNis m.sensor b.nis)) i 1 m) i { d with xb := u.1, cb := u.2, wa := 1 - wb, wb := wb }
    | some a, some b =>
      let ua := applyUpdate d.xa d.ca m.rows w a
      let ub := applyUpdate d.xb d.cb m.rows w b
      let ga := d.wa * expOf (-a.d2 / 2)
      let gb := d.wb * expOf (-b.d2 / 2)
      let sum := ga + gb
      let wa := if sum = 0 then d.wa else r32 (ga / sum)
      let nis := if b.d2 < a.d2 then b.nis else a.nis
      settleDispute (noteHit (onState f (fun s => s.refreshNis m.sensor nis)) i 2 m) i
        { d with xa := ua.1, ca := ua.2, xb := ub.1, cb := ub.2, wa := wa, wb := 1 - wa }

/-- The updates a measurement on a track costs (R220, R244). -/
def costOf (f : Fuse) (i : Nat) (m : Meas) : Nat :=
  match (trackOf f i).bind (·.dispute) with
  | some d =>
    if m.sensor = d.a ∨ m.sensor = d.b then 1
    else
      let p := passing f i d m
      bnat p.1.isSome + bnat p.2.isSome
  | none => 1

/-- A measurement dropped for want of budget (R220). -/
def dropMeas (f : Fuse) : Fuse := { onState f (fun s => s.count 64 Ob.updatesDropped 1) with dropped := f.dropped + 1 }

/-- A measurement that gates track `i`: kept for calibration (R266), then applied (R236). -/
def applyMeas (f : Fuse) (i : Nat) (m : Meas) : Fuse :=
  match trackOf f i with
  | none => f
  | some tr =>
    if f.budget < f.used + costOf f i m then dropMeas f
    else
      let f := { f with evals := f.evals ++ [(m, i)] }
      match tr.dispute with
      | some d => disputeMeasure f i d m
      | none =>
        let w := f.s.demotion m.sensor
        match innovation tr.x tr.cov m.rows w with
        | none => skipUpdate f
        | some inn =>
          let u := applyUpdate tr.x tr.cov m.rows w inn
          let f1 := putTr (onState f (fun s => s.refreshNis m.sensor inn.nis)) i { tr with x := u.1, cov := u.2 }
          let f2 := noteHit f1 i 1 m
          if m.kind = 5 then f2 else disputeTest { f2 with upd := f2.upd.upd [] i (· ++ [m]) } i m

/-! ## Birth and deletion (R240 to R242) -/

/-- The lowest track ID free from `i` on, of `n` IDs. -/
def freeId (q : Square) (k : Nat) : Nat → Nat → Option Nat
  | 0, _ => none
  | n + 1, i =>
    let held := match q.ids.find? i with
      | some d => decide (k < d + 256)
      | none => false
    if (q.tracks.find? i).isNone && !held then some i else freeId q k n (i + 1)

/-- The track a measurement gives birth to (R240). -/
def bornTrack (s : State) (k : Nat) (line : Int) (m : Meas) : Track :=
  let dflt := s.forceReals Ob.birthDefaults 8
  let cov := s.forceReals Ob.birthCovariance 8
  let x := (List.range 8).map (fun i => r32 ((rowVal m.rows i).getD (vat dflt i)))
  let var := fun (i : Nat) => r32 (((m.rows.find? (fun r => r.1 = i)).map (·.2.2)).getD (vat cov i))
  let p := mkMat 8 8 (fun i j => if i = j then var i else 0)
  { x := x, cov := p, at_ := k, sAt := line, base := ⟨k, line, x, p, none⟩, confirmed := decide (s.forceNat Ob.confirmHits ≤ 1),
    hits := 1, last := k, lastEff := s.square.eff, born := k, cls := m.cls, conf := m.conf, sensor := m.sensor, dispute := none,
    updatedBy := if (s.sensor m.sensor).step = 0 then [(m.sensor, k)] else [], half := if m.kind = 1 then [(m.frame, m.half)] else [],
    flags := 4, changed := true }

/-- A measurement that finds no track and gives birth to none (Table 9-6; log entry 79). -/
def noteUnassociated (s : State) : State := s.count 64 Ob.unassociated 1

/-- A birth candidate (R238, R240). -/
def birth (f : Fuse) (m : Meas) : Fuse :=
  if (m.kind ≠ 1 ∧ m.kind ≠ 2) ∨ 1 < (f.s.sensor m.sensor).step ∨ f.mode ≠ 0 then onState f noteUnassociated
  else match freeId f.s.square f.k 4096 0 with
    | none =>
      let g := onState f (fun s => ((noteUnassociated s).count 64 Ob.birthsRefused 1).raiseIf (!f.refused) 0x0701 noUnit)
      { g with refused := true }
    | some i =>
      let g := putTr f i (bornTrack f.s f.k f.ego.line m)
      let s1 := (g.s.count 64 Ob.births 1).count 64 (Ob.updatesApplied m.sensor) 1
      { g with s := s1.setSquare { s1.square with ids := s1.square.ids.del i, anchors := s1.square.anchors.del i, spoiledAnchors := s1.square.spoiledAnchors.filter (· != i) },
               used := f.used + 1, applied := f.applied + 1 }

/-- A track deleted (R241, R242). -/
def deleteTrack (f : Fuse) (i : Nat) : Fuse :=
  match trackOf f i with
  | none => f
  | some tr =>
    let q := f.s.square
    let s1 := f.s.setSquare { q with tracks := q.tracks.del i, ids := q.ids.set i f.k, followed := q.followed.del i }
    { f with s := showDisputes ((s1.count 64 Ob.deletions 1).setNat Ob.followedTracks s1.square.followed.length), gone := f.gone.set i tr }

/-- Whether a track is to be deleted at the end of the fusion (R241). -/
def expired (s : State) (tr : Track) : Bool :=
  let since := s.square.eff - tr.lastEff
  (!tr.confirmed && decide (s.forceNat Ob.confirmGap ≤ since)) || (tr.confirmed && decide (s.forceNat Ob.deleteAfter ≤ since))
    || decide (s.forceReal Ob.maxPositionVariance < mat tr.cov 8 0 0 + mat tr.cov 8 1 1)

/-! ## Retrodiction (R226, R227) -/

/-- A prior brought on slot by slot with the slot entries, to slot `j` with line position `line`; `noise` holds the D3 factor in force
for a step to the slot being fused, which has no entry yet (R227). -/
def priorSteps (noise : List Rat) (u : Option (Rat × Rat)) (j : Nat) (line : Int) : List HistSlot → Nat → Int → List Rat × List Rat → List Rat × List Rat
  | [], k0, l0, xc => predict noise u (j - k0) (line - l0) xc.1 xc.2
  | h :: hs, k0, l0, xc =>
    if h.k ≤ k0 then priorSteps noise u j line hs k0 l0 xc
    else if j < h.k then predict noise u (j - k0) (line - l0) xc.1 xc.2
    else priorSteps noise u j line hs h.k h.sLine (predict (setNth noise 3 h.f3) u (h.k - k0) (h.sLine - l0) xc.1 xc.2)

/-- The prior of track `i` at slot `j` from the history, or none for a track born in slot `j` or later (R227). -/
def latePrior (f : Fuse) (j : Nat) (i : Nat) : Option (List Rat × List Rat) :=
  match trackOf f i with
  | none => none
  | some tr =>
    if j ≤ tr.born then none
    else
      let q := f.s.square
      let line := match q.hist.find? (fun h => h.k == j) with
        | some h => h.sLine
        | none => f.ego.line
      match q.hist.reverse.find? (fun h => decide (h.k < j) && (h.entries.find? i).isSome) with
      | some h => (h.entries.find? i).map (fun xc => priorSteps q.noise f.s.lineDir j line q.hist h.k h.sLine xc)
      | none => (q.anchors.find? i).map (fun a => priorSteps q.noise f.s.lineDir j line q.hist a.k a.sLine (a.x, a.cov))

/-- Whether a retrodiction of track `i` at slot `j` needs an entry of the history that cannot be read (R227, R319): the track's entry or
anchor it starts from, or a slot entry up to slot `j`. -/
def spoiledPrior (q : Square) (j i : Nat) : Bool :=
  let used : Option Nat := match q.hist.reverse.find? (fun h => decide (h.k < j) && (h.entries.find? i).isSome) with
    | some h => some h.k
    | none => (q.anchors.find? i).map (fun (a : Anchor) => a.k)
  let fromAnchor := !q.hist.any (fun h => decide (h.k < j) && (h.entries.find? i).isSome)
  (fromAnchor && q.spoiledAnchors.contains i) || q.spoiled.any (fun k => decide (used.getD 0 ≤ k ∧ k ≤ j))

/-- An item of the Square lost to an uncorrectable error: notice 0x0A09 (R318, R319). -/
def State.lostItem (s : State) : State := s.raise 0x0A09 noUnit

/-- F over `n` slots applied to each column of an 8 × m matrix. -/
def transitionCols (n m : Nat) (a : List Rat) : List Rat :=
  let dt : Rat := ((n : Nat) : Rat) / 1000000
  mkMat 8 m (fun i j => match feedsRow i with
    | some r => mat a m i j + dt * mat a m r j
    | none => mat a m i j)

/-- A retrodiction of `m` on an undisputed track with its prior at slot `j` (R227). -/
def retrodict (n : Nat) (x c : List Rat) (tr : Track) (rows : List (Nat × Rat × Rat)) (inn : Innovation) : Track :=
  let m := rows.length
  let fk := transitionCols n m (gain c rows inn.si)
  let _ := x
  let x' := (List.range 8).map (fun i => r32 (vat tr.x i + sumRat ((List.range m).map (fun l => mat fk m i l * vat inn.y l))))
  let d := matMul 8 m 8 (matMul 8 m m fk inn.s) (transpose 8 m fk)
  { tr with x := wrapState x', cov := settleCov (vSub tr.cov d), flags := tr.flags ||| 16, changed := true }

/-- A late sample on a disputed track updates the hypothesis it gates with the smaller d2, at the slot being fused (R244;
log entry 36). -/
def lateDispute (f : Fuse) (i : Nat) (tr : Track) (d : Dispute) (m : Meas) : Option Fuse :=
  let w := f.s.demotion m.sensor
  let p := passing f i d m
  let useA := fun (a : Innovation) =>
    let u := applyUpdate d.xa d.ca m.rows w a
    (a.nis, { d with xa := u.1, ca := u.2 })
  let useB := fun (b : Innovation) =>
    let u := applyUpdate d.xb d.cb m.rows w b
    (b.nis, { d with xb := u.1, cb := u.2 })
  let pick : Option (Rat × Dispute) := match p.1, p.2 with
    | none, none => none
    | some a, none => some (useA a)
    | none, some b => some (useB b)
    | some a, some b => some (if b.d2 < a.d2 then useB b else useA a)
  pick.map (fun r => settleDispute (putTr (onState f (fun s => s.refreshNis m.sensor r.1)) i { tr with flags := tr.flags ||| 16, changed := true }) i r.2)

/-- A retrodiction counted: 2 updates (R220, R227). -/
def countRetro (f : Fuse) (m : Meas) : Fuse :=
  { onState f (fun s => (s.count 64 Ob.lateApplied 1).count 64 (Ob.updatesApplied m.sensor) 1) with
    used := f.used + 2, applied := f.applied + 2, retro := f.retro + 1 }

/-- A late sample moved with the settled record of its slot (R234). -/
def moveLate (f : Fuse) (m : Meas) : Meas :=
  match f.s.settledRec m.slot with
  | some r => moveMeas f.s r m
  | none => m

/-- The tracks as a late sample of slot `j` finds them (R227). -/
def latePriors (f : Fuse) (j i : Nat) : Option Prior := (latePrior f j i).map (fun xc => ⟨xc.1, xc.2, [xc]⟩)

/-- One late sample (R220, R226, R227). In D5 it is counted against the budget only; in D4 nothing is applied. One of a slot of D5 is no
late sample (R248), and one of a sensor at D2 waits until level 4 has been fused (R239). -/
def lateOne (f : Fuse) (m0 : Meas) : Fuse :=
  if f.s.frozenSlot m0.slot ∨ (f.mode = 5 ∧ m0.slot = f.k) then f
  else if f.s.forceNat Ob.lateWindow + m0.slot < f.k ∨ !f.s.holdsEpoch m0.epoch then onState f State.lateDiscard
  else if f.mode ≠ 5 ∧ (f.s.sensor m0.sensor).step = 2 ∧ m0.slot ≤ f.k then { f with atD2 := f.atD2 ++ [m0] }
  else if f.k < m0.slot ∨ f.budget < f.used + 2 then { f with waiting := f.waiting ++ [m0] }
  else if f.mode = 5 then { f with used := f.used + 2 }
  else if f.mode = 4 then f
  else
    let j := m0.slot
    let m := moveLate f m0
    let r := associate (latePriors f j) f m
    match r.2 with
    | .skip => skipUpdate r.1
    | .none => onState r.1 State.lateDiscard
    | .track i =>
      if spoiledPrior f.s.square j i then onState r.1 State.lostItem else
      let g := bring r.1 i
      match trackOf g i, latePrior g j i with
      | some tr, some (x, c) =>
        match tr.dispute with
        | some d => match lateDispute g i tr d m with
          | some h => countRetro h m
          | none =>
            if (innovation d.xa d.ca m.rows (g.s.demotion m.sensor)).isNone ∨ (innovation d.xb d.cb m.rows (g.s.demotion m.sensor)).isNone
            then skipUpdate g else onState g State.lateDiscard
        | none => match innovation x c m.rows (g.s.demotion m.sensor) with
          | none => skipUpdate g
          | some inn =>
            countRetro (putTr (onState g (fun s => s.refreshNis m.sensor inn.nis)) i (retrodict (f.k - j) x c tr m.rows inn)) m
      | _, _ => onState g State.lateDiscard

/-! ## Levels 2 to 4 and the sensors at D2 -/

/-- Insertion by a strict order. -/
def insertOrd {α : Type} (lt : α → α → Bool) (x : α) : List α → List α
  | [] => [x]
  | y :: l => if lt x y then x :: y :: l else y :: insertOrd lt x l

/-- A stable insertion sort. -/
def sortOrd {α : Type} (lt : α → α → Bool) (l : List α) : List α := l.foldl (fun acc x => insertOrd lt x acc) []

/-- The order of R220 within a slot: level, stamp, stream, order of filing. -/
def admitLt (a b : Meas) : Bool :=
  let level := fun (m : Meas) => if m.kind ≤ 2 then 2 else if m.kind ≤ 4 then 3 else 4
  let ka := [level a, a.stamp, a.stream, a.seq]
  let kb := [level b, b.stamp, b.stream, b.seq]
  let d := (List.range 4).find? (fun i => nth 0 ka i ≠ nth 0 kb i)
  match d with
  | some i => decide (nth 0 ka i < nth 0 kb i)
  | none => false

/-- One measurement of levels 2 to 4 in the order of R220. -/
def fuseOne (f : Fuse) (m : Meas) : Fuse :=
  if (m.kind = 3 ∨ m.kind = 4) ∧ m.hint = 0xFFFF then onState f noteUnassociated
  else if f.budget ≤ f.used then dropMeas f
  else if f.mode = 5 then { f with used := f.used + 1 }
  else if f.mode = 4 then f
  else
    let r := associate (nowPrior f m) f m
    match r.2 with
    | .skip => skipUpdate r.1
    | .track i => applyMeas r.1 i m
    | .none => birth r.1 m

/-- A measurement of a sensor at D2: associated and evaluated for R237 alone (R239). -/
def evaluateOne (f : Fuse) (m : Meas) : Fuse :=
  if f.budget ≤ f.used ∨ ((m.kind = 3 ∨ m.kind = 4) ∧ m.hint = 0xFFFF) then f
  else
    let r := associate (nowPrior f m) f m
    let g := { r.1 with used := f.used + 1 }
    match r.2 with
    | .track i => match (nowPrior g m i).bind (fun p => (p.best m.rows 1).1) with
      | some inn => { onState g (fun s => s.refreshNis m.sensor inn.nis) with evals := g.evals ++ [(m, i)] }
      | none => skipUpdate g
    | .skip => skipUpdate g
    | .none => g

/-- A late sample of a sensor at D2, likewise, at its slot; one that gates with no track there is discarded (R226, R239). -/
def evaluateLate (f : Fuse) (m0 : Meas) : Fuse :=
  if f.budget ≤ f.used then f
  else
    let m := moveLate f m0
    let r := associate (latePriors f m.slot) f m
    let g := { r.1 with used := f.used + 1 }
    match r.2 with
    | .track i => match (latePriors g m.slot i).bind (fun p => (p.best m.rows 1).1) with
      | some inn => onState g (fun s => s.refreshNis m.sensor inn.nis)
      | none => skipUpdate g
    | .skip => skipUpdate g
    | .none => onState g State.lateDiscard

/-- The event-level measurement of a track and port from its moments (R219). -/
def eventMeas (s : State) (o : OpenSlot) (r : EgoRec) (track p : Nat) (mo : Moments) : Option (Option Meas) :=
  let n : Rat := ((mo.n : Nat) : Rat)
  if mo.n < s.nat (Ob.eventMinCount p) ∨ mo.n = 0 then none
  else match s.projFor o.epoch p with
    | none => none
    | some set =>
      let mx : Rat := (mo.sx : Rat) / (2 * n)
      let my : Rat := (mo.sy : Rat) / (2 * n)
      let vu := ((mo.sxx : Rat) / (4 * n) - mx * mx) / n
      let vv := ((mo.syy : Rat) / (4 * n) - my * my) / n
      let h := homography set (matMul 3 3 3 (qMat (qStep r.q r.w (-dtSlot / 2))) (transpose 3 3 (qMat (qStep o.cq o.cw (dtSlot / 2)))))
      let v := matMul 3 3 1 h [mx, my, 1]
      if vat v 2 = 0 then some none
      else some ((pixelOnPlane set (r32 (vat v 0 / vat v 2)) (r32 (vat v 1 / vat v 2)) vu vv).map (fun q =>
        { stamp := 1000 * o.k, stream := 22 + p, seq := 0, kind := 5, frame := p, sensor := p, cls := 0, conf := 0, hint := track,
          slot := o.k, epoch := o.epoch, rows := q.2.1, vec := q.1, normal := set.plane.take 3,
          pix := [vat v 0 / vat v 2, vat v 1 / vat v 2, vu, vv], half := 0 }))

/-- The event-level measurements of a slot, by ascending track ID and then port (R220); failed projections are counted. -/
def eventLevel (s : State) (o : OpenSlot) (r : EgoRec) : State × List Meas :=
  let mine := s.square.moments.filter (fun e => e.1 / 16384 == o.k)
  let s1 := s.setSquare { s.square with moments := s.square.moments.filter (fun e => decide (o.k < e.1 / 16384)) }
  mine.foldl (fun acc e =>
    let track := e.1 / 4 % 4096
    if (acc.1.square.tracks.find? track).isNone then acc
    else match eventMeas acc.1 o r track (e.1 % 4) e.2 with
      | none => acc
      | some none => (acc.1.rejectRecord, acc.2)
      | some (some m) => (acc.1, acc.2 ++ [m])) (s1, [])

/-! ## Calibration evaluations (R259, R260, R266 to R268) -/

/-- Whether the track was updated within the previous 64 slots by another sensor at D0 (R266). -/
def supported (tr : Track) (k f : Nat) : Bool := tr.updatedBy.any (fun e => e.1 ≠ f && decide (k ≤ e.2 + 64))

/-- Whether a measurement is to be evaluated: for the extrinsics of its frame with its track, or for the encoder scale. -/
def eligible (f : Fuse) (m : Meas) (i : Option Nat) : Bool :=
  if m.kind = 4 then
    f.s.scaleStarted && m.frame = f.s.nat Ob.scaleReferenceFrame &&
      decide (((f.s.nat Ob.scaleMinSpeed : Nat) : Rat) ≤ f.ego.speed * 1000) && 6 ≤ m.pix.length
  else
    (m.kind = 1 || m.kind = 3) && f.s.extStarted m.frame && (match i with
      | some t => match trackOf f t with
        | some tr => tr.confirmed && tr.dispute.isNone && supported tr f.k m.frame
        | none => false
      | none => false)

/-- One evaluation: its residual record (Table 10-2). -/
def evaluateResidual (f : Fuse) (epoch : Nat) (m : Meas) (i : Option Nat) : Fuse :=
  if m.kind = 4 then
    let u := f.s.forceReals Ob.lineDirection 3
    let bs := residualBytes f.k epoch 2 m.frame (match i with
      | some t => t
      | none => 0xFFFF) m.vec [f.ego.speed, 0] [vat m.pix 4, vat m.pix 5]
    onState f (fun s => (s.writeResidual bs).gatherFlow (dot m.vec u) f.ego.speed)
  else match i.bind (fun t => (f.pre.find? t).map (fun x => (t, x.x))) with
    | none => f
    | some (t, x) => match (f.s.projFor epoch m.frame).bind (fun p => Proj.onPlane p (vat x 0) (vat x 1)) with
      | none => f
      | some pt =>
        onState f (fun s => (s.writeResidual (residualBytes f.k epoch 1 m.frame t pt [vat m.pix 0, vat m.pix 1] [vat m.pix 2, vat m.pix 3])).gatherPosition m.frame)

/-- The evaluations of a slot, in the order of R220, as far as the reserve goes (R259); none at D4 and D5 (R268). -/
def evaluations (f : Fuse) (epoch : Nat) (ms : List Meas) : Fuse :=
  if f.mode ≠ 0 then f
  else
    let gated := fun (m : Meas) => (f.evals.find? (fun e => e.1.seq == m.seq && e.1.kind == m.kind)).map (·.2)
    let el := ms.filter (fun m => m.kind ≠ 5 && eligible f m (gated m))
    (el.take (f.s.forceNat Ob.squareReserve)).foldl (fun f m => evaluateResidual f epoch m (gated m)) f

/-! ## Snapshots (R249, R250) -/

/-- A track record (Table 9-4). -/
def trackRecord (k i : Nat) (tr : Track) (status flags : Nat) : List Byte :=
  leBytes 2 i ++ leBytes 2 (status + flags) ++ leBytes 2 tr.cls ++ leBytes 1 tr.conf ++ leBytes 1 tr.sensor
    ++ realsOut [vat tr.x 0, vat tr.x 1, vat tr.x 2, vat tr.x 3, vat tr.x 4, vat tr.x 5, vat tr.x 6, vat tr.x 7]
    ++ realsOut [mat tr.cov 8 0 0, mat tr.cov 8 1 1, mat tr.cov 8 0 1, mat tr.cov 8 2 2, mat tr.cov 8 3 3]
    ++ leBytes 2 (satNat 65535 (k - tr.born)) ++ leBytes 2 (satNat 65535 (k - tr.last))

/-- Status and flags of a live track (Table 9-4). -/
def liveFlags (s : State) (mode i : Nat) (tr : Track) : Nat × Nat :=
  (if tr.confirmed then (if mode = 4 then 2 else 1) else 0,
   tr.flags + 32 * bnat tr.dispute.isSome + 64 * bnat (mode == 5) + 256 * bnat (s.square.followed.find? i).isSome)

/-- The record of a live track. -/
def liveRecord (s : State) (mode k i : Nat) (tr : Track) (refresh : Bool) : List Byte :=
  let f := liveFlags s mode i tr
  trackRecord k i tr f.1 (f.2 + 128 * bnat refresh)

/-- A list of IDs from where the last refresh ended, wrapping around (R250). -/
def refreshOrder (start : Nat) (ids : List Nat) : List Nat := ids.filter (fun i => decide (start ≤ i)) ++ ids.filter (fun i => decide (i < start))

/-- The records of a snapshot: chosen records, deletions carried on, where the refresh ended (R250). -/
def chooseRecords (s : State) (mode k : Nat) (gone : SMap Track) : List (List Byte) × List (List Byte) × Nat :=
  let q := s.square
  let changes := ((q.tracks.filter (fun e => e.2.changed)).map (fun e => liveRecord s mode k e.1 e.2 false)).take 384
  let dels := q.carried ++ gone.map (fun e => trackRecord k e.1 e.2 3 (e.2.flags + 32 * bnat e.2.dispute.isSome + 64 * bnat (mode == 5)))
  let room := 384 - changes.length
  let room2 := room - (dels.take room).length
  let quiet := (q.tracks.filter (fun e => !e.2.changed)).map (·.1)
  let refresh := (refreshOrder q.refresh quiet).take (min room2 (s.forceNat Ob.refreshCount))
  let refs := refresh.filterMap (fun i => (q.tracks.find? i).map (fun tr => liveRecord s mode k i tr true))
  (sortOrd (fun a b => decide (leAt a 0 2 < leAt b 0 2)) (changes ++ dels.take room ++ refs), dels.drop room,
    match refresh.getLast? with
    | some i => (i + 1) % 4096
    | none => q.refresh)

/-- The sensor steps of a snapshot header. -/
def sensorStepBits (s : State) : Nat := sumNat ((List.range 24).map (fun i => (s.sensor i).step * 4 ^ i))

/-- A snapshot header (Table 9-3). -/
def snapshotHeader (f : Fuse) (o : OpenSlot) (carried : Bool) (step : Nat) (steps : Nat) (count : Nat) : List Byte :=
  let d := f.s.square.dev
  let flags := bnat (f.mode == 5) + 2 * bnat o.first + 4 * bnat o.byDeadline + 8 * bnat (decide (0 < f.dropped)) + 16 * bnat carried
    + 32 * bnat f.s.square.firstRun + 64 * bnat d.d3 + 128 * bnat d.d4 + 256 * bnat d.d5 + 512 * bnat f.s.lineDir.isSome
  let ts := f.s.square.tracks
  leBytes 8 (1000 * o.k) ++ leBytes 2 o.epoch ++ leBytes 2 flags ++ leBytes 1 step ++ leBytes 1 (disputesNow f.s) ++ leBytes 2 count
    ++ leBytes 2 f.applied ++ leBytes 2 f.retro ++ leBytes 2 ts.length ++ leBytes 2 (ts.filter (fun e => e.2.confirmed)).length
    ++ leBytes 8 steps ++ leBytes 4 (128 + 64 * count) ++ List.replicate 28 0

/-! ## The fusion -/

/-- Disputes still open 32 slots after they opened close in favour of the sensor with the smaller h_s (R244). -/
def disputeTimeouts (f : Fuse) : Fuse :=
  f.s.square.tracks.foldl (fun f e => match (trackOf f e.1) with
    | some tr => match tr.dispute with
      | some d =>
        if d.opened + 32 ≤ f.k then
          let lose := loserOf f.s d.a d.b
          let g := onState f (fun s => s.demote lose)
          if lose = d.a then closeDispute g e.1 tr d.xb d.cb else closeDispute g e.1 tr d.xa d.ca
        else f
      | none => f
    | none => f) f

/-- The steps at the end of the fusion of slot `k`: the sensors' demotions, the restores that arrived by then, the device (R245 to
R247); entering D4 drops the loops' windows (R268). `old` gives the steps at which the slot was fused, `got` the sensors that
delivered a measurement to it. -/
def stepsAfter (s : State) (old : Nat → Nat) (got : Nat → Bool) (k : Nat) (delivered : Bool) : State :=
  let s1 := (List.range 24).foldl (State.sensorSlotEnd old got) s
  let due := s1.square.restores.filter (fun r => decide (r.2 ≤ k))
  let s2 := s1.takeRestores due
  let d := s2.devAfter delivered
  let s3 := s2.setConditions (if resetAmong due then d.endD5 else d)
  if s.nat Ob.deviceStep < 4 ∧ 4 ≤ s3.nat Ob.deviceStep then s3.dropWindows else s3

/-- The tracks whose entry cannot be read deleted, with fault 0x0A08 each (R319). -/
def dropDoomed (f : Fuse) : Fuse :=
  let g := f.s.square.doomed.foldl (fun f i =>
    if (trackOf f i).isSome then onState (deleteTrack f i) (fun s => s.raise 0x0A08 noUnit) else f) f
  onState g (fun s => s.setSquare { s.square with doomed := [] })

/-- Track counters shown. -/
def showTracks (s : State) : State :=
  let ts := s.square.tracks
  s.setAll [(Ob.liveTracks, (ts.length : Nat)), (Ob.confirmedTracks, ((ts.filter (fun e => e.2.confirmed)).length : Nat))]

/-- The start of a fusion: mode of the slot, noise in force, every track brought to the slot; on exit from D5 every track is
deleted, and a change into or out of coasting or frozen is a change (R233, R248, R250). -/
def beginFuse (s : State) (o : OpenSlot) (r : EgoRec) : Fuse :=
  let step := s.nat Ob.deviceStep
  let mode := if 4 ≤ step then step else 0
  let q0 := s.square
  let nz := s.forceReals Ob.processNoise 3 ++ [if 3 ≤ step then s.forceReal Ob.d3NoiseFactor else 1]
  let old := q0.mode
  let mark := fun (tr : Track) => mode ≠ old && (mode = 5 || old = 5 || tr.confirmed)
  let prevLine := match q0.ego.lines.find? (o.k - 1) with
    | some l => l
    | none => r.line
  let catchUp := decide (q0.noise ≠ nz) || (mode = 5 && old ≠ 5)
  let ts := q0.tracks.mapVal (fun _ tr =>
    let tr1 := if catchUp && old ≠ 5 then (tr.predictTo q0.noise s.lineDir (o.k - 1) prevLine).rebase else tr
    { tr1 with flags := 0, changed := mark tr1 })
  let s1 := s.setSquare { q0 with tracks := ts, noise := nz, mode := mode, eff := if mode = 0 then q0.eff + 1 else q0.eff }
  let f : Fuse := { s := s1, k := o.k, ego := r, mode := mode, used := 0, applied := 0, retro := 0, budget := 256 - s.forceNat Ob.squareReserve,
                    dropped := 0, refused := false, pre := [], upd := [], evals := [], waiting := [], atD2 := [], gone := [] }
  let f1 := if old = 5 ∧ mode ≠ 5 then ts.keys.foldl deleteTrack f else f
  let f2 := f1.s.square.tracks.keys.foldl bring f1
  if mode = 5 then f2 else f2.s.square.tracks.keys.foldl mergeNear f2

/-- The late queue in order of slot, then stamp, stream and filing (R16, R220). -/
def lateOrder (s : State) : List Meas :=
  sortOrd (fun a b => match (List.range 4).find? (fun i => nth 0 [a.slot, a.stamp, a.stream, a.seq] i ≠ nth 0 [b.slot, b.stamp, b.stream, b.seq] i) with
    | some i => decide (nth 0 [a.slot, a.stamp, a.stream, a.seq] i < nth 0 [b.slot, b.stamp, b.stream, b.seq] i)
    | none => false) s.square.late

/-- Whether a fusion changed a track from its prediction. -/
def moved (f : Fuse) (i : Nat) (tr : Track) : Bool :=
  match f.pre.find? i with
  | some p => decide (p.x ≠ tr.x ∨ p.cov ≠ tr.cov ∨ p.dispute ≠ tr.dispute)
  | none => true

/-- The tracks that a fusion changed are predicted from its slot on (R233). -/
def rebaseMoved (f : Fuse) : Fuse :=
  onState f (fun s => s.setTracks (s.square.tracks.mapVal (fun i tr => if moved f i tr then tr.rebase else tr)))

/-- What the history keeps of a slot: an entry for each track that its fusion changed from the prediction (R227). -/
def histEntry (f : Fuse) (o : OpenSlot) : HistSlot :=
  ⟨o.k, f.ego.line, vat f.s.square.noise 3, o.epoch, f.mode == 5,
    (f.s.square.tracks.filter (fun e => moved f e.1 e.2)).map (fun e => (e.1, (e.2.x, e.2.cov)))⟩

/-- A slot fused (R224): late samples, levels 2 to 4, sensors at D2, disputes, deletions, calibration evaluations; then its
snapshot, and the steps of the next slot. -/
def fuseSlot (s : State) (o : OpenSlot) (r : EgoRec) : State :=
  let step := s.nat Ob.deviceStep
  let steps := sensorStepBits s
  let f0 := beginFuse s o r
  let late := lateOrder f0.s
  let f1 := late.foldl lateOne f0
  let f2 := onState f1 (fun s => (s.setSquare { s.square with late := f1.waiting }).setNat Ob.lateQueueFill f1.waiting.length)
  let ev := eventLevel f2.s o r
  let all := (sortOrd admitLt o.meas ++ ev.2).map (moveMeas ev.1 r)
  let atD2 := fun (m : Meas) => f2.mode ≠ 5 && ((ev.1.sensor m.sensor).step == 2)
  let f3 := (all.filter (fun m => !atD2 m)).foldl fuseOne { f2 with s := ev.1 }
  let f4 := (all.filter atD2).foldl evaluateOne (f3.atD2.foldl evaluateLate f3)
  let f5 := if f4.mode = 5 then f4 else disputeTimeouts f4
  let f6 := if f5.mode ≠ 0 then f5 else
    f5.s.square.tracks.keys.foldl (fun f i => match trackOf f i with
      | some tr => if expired f.s tr then deleteTrack f i else f
      | none => f) f5
  let f7 := evaluations (dropDoomed f6) o.epoch all
  let f8 := onState (rebaseMoved f7) (fun s => s.raiseIf (decide (0 < f7.dropped)) 0x0603 noUnit)
  let carried := f8.s.square.carried ≠ []
  let ch := chooseRecords f8.s f8.mode o.k f8.gone
  let snap := snapshotHeader f8 o carried step steps ch.1.length ++ egoBytes r ++ o.analog ++ ch.1.flatten
  let q := f8.s.square
  let s1 := f8.s.setSquare { q with carried := ch.2.1, refresh := ch.2.2, fusing := some ⟨o.k, snap, histEntry f8 o⟩, firstRun := false }
  let got := fun (i : Nat) => (late ++ all).any (fun m => m.sensor == i)
  showTracks (stepsAfter s1 (fun i => (s.sensor i).step) got o.k o.delivered)

/-- The settled record of a slot, settled first where EGO_SETTLE has not come (R211). -/
def State.settledFor (s : State) (o : OpenSlot) : State × EgoRec :=
  match s.settledRec o.k with
  | some r => (s, r)
  | none =>
    let s1 := (s.settleGap o.k).settle o.k o.epoch
    (s1, (s1.settledRec o.k).getD (restRec o.k o.epoch 1))

/-- FUSION_START: the oldest slot, if closed, is fused once the fusion before it has ended (R224). -/
def execFusionStart (t : Nat) (s0 : State) : Host.Outcome State Fault Refusal :=
  let s := s0.advance t
  match s.square.open_, s.square.fusing with
  | o :: _, none => if o.closed then ok (fuseSlot (s.settledFor o).1 o (s.settledFor o).2) else ok s
  | _, _ => ok s

/-- The history after a slot: the 256 most recent; a slot that leaves makes its entries the anchors (R227). -/
def pushHist (q : Square) (h : HistSlot) : Square :=
  let l := q.hist ++ [h]
  if l.length ≤ 256 then { q with hist := l }
  else match l with
    | [] => q
    | old :: rest =>
      { q with hist := rest, spoiled := q.spoiled.filter (· != old.k), spoiledAnchors :=
                 if q.spoiled.contains old.k then old.entries.keys ++ q.spoiledAnchors
                 else q.spoiledAnchors.filter (fun i => (old.entries.find? i).isNone),
               anchors := old.entries.foldl (fun a e =>
          if (q.tracks.find? e.1).isSome then a.set e.1 ⟨old.k, old.sLine, e.2.1, e.2.2⟩ else a) q.anchors }

/-- A fusion ends: the snapshot is posted to queue 8, the slot leaves the Arcade, the history advances (R224, R227, R249). -/
def State.finishFusion (s : State) (f : Fused) : State :=
  let q := pushHist s.square f.entry
  let s1 := s.setSquare { q with fusing := none, open_ := q.open_.filter (fun o => o.k ≠ f.k) }
  let s2 := s1.modQueue 8 (fun r => { r with posts := r.posts ++ [⟨2, 1000 * f.k, 0, f.snapshot⟩] })
  (s2.setNat Ob.lastIssuedSlot f.k).showSlots.progress 64

/-- FUSION_END (R224, R249). -/
def execFusionEnd (t : Nat) (s0 : State) : Host.Outcome State Fault Refusal :=
  let s := s0.advance t
  match s.square.fusing with
  | some f => ok (s.finishFusion f)
  | none => ok s

/-! ## Leaving and entering RUN (R228, R242) -/

/-- The open slots fused in order, `n` at most. -/
def drainSlots : Nat → State → State
  | 0, s => s
  | n + 1, s =>
    match s.square.fusing, s.square.open_ with
    | some f, _ => drainSlots n (s.finishFusion f)
    | none, [] => s
    | none, o :: _ =>
      let s1 := if o.closed then s else s.closeSlot o.k false
      match s1.square.open_ with
      | o' :: _ => drainSlots n (fuseSlot (s1.settledFor o').1 o' (s1.settledFor o').2)
      | [] => s1

/-- The device leaves RUN by command, at the instant the command takes effect (R327): every open slot closes, is fused and issued;
then the late queue is discarded, each entry counted (R228). -/
def State.drainArcade (s : State) : State :=
  let s1 := drainSlots (2 * s.square.open_.length + 2) s
  let s2 := s1.square.late.foldl (fun s _ => s.lateDiscard) s1
  (s2.setSquare { s2.square with late := [], held := [], moments := [], top := none }).setNat Ob.lateQueueFill 0

/-- The open slots abandoned at a fence (R228). -/
def State.abandonSlots (s : State) : State :=
  ((s.setSquare { s.square with open_ := [], fusing := none, late := [], held := [], moments := [], top := none }).setNat
    Ob.lateQueueFill 0).showSlots

/-- The device enters RUN: an empty track table, every sensor at its floor with h_s = 1, no dispute (R242). A floor written above a
sensor's step has raised it first, as a demotion (R248). -/
def State.enterRunSquare (s0 : State) : State :=
  let s := s0.floorsBoundary
  let q := s.square
  let s1 := s.setSquare { q with open_ := [], top := none, late := [], fusing := none, hist := [], anchors := [], tracks := [], carried := [],
                                 doomed := [], spoiled := [], spoiledAnchors := [], refresh := 0, followed := [], cells := [], moments := [], dev := DevStep.init, mode := 0, firstRun := true,
                                 wait := ⟨0, 0, 0, false⟩ }
  let s2 := (List.range 24).foldl State.sensorToFloor s1
  let s3 := (s2.setDevStep (s2.stepFor DevStep.init)).startWaitLoop
  (showTracks (showDisputes s3)).setAll [(Ob.followedTracks, 0), (Ob.slotsOpen, 0), (Ob.lateQueueFill, 0)]

/-- A track's entry of Track Detail (R250). -/
def detailOf (s : State) (i : Nat) (tr : Track) : List Byte :=
  let r := liveRecord s s.square.mode (slotOf s.time) i tr false
  bytesAt r 0 8 ++ bytesAt r 60 4 ++ leBytes 4 0 ++ realsOut ((List.range 8).map (vat tr.x))
    ++ realsOut ((List.range 8).flatMap (fun a => ((List.range 8).filter (fun b => decide (a ≤ b))).map (fun b => mat tr.cov 8 a b)))

/-- Track Detail copied at a slot boundary (R250). -/
def State.copyDetail (s : State) : State :=
  s.setSquare { s.square with detail := s.square.tracks.map (fun e => (e.1, detailOf s e.1 e.2)) }

/-- The Square's part of a slot boundary: restores, the copy of Track Detail, then the slot that begins (R222, R246, R250). -/
def State.squareBoundary (s : State) : State :=
  ((s.egoBoundary.floorsBoundary).restoresDue (slotOf s.time)).copyDetail.openSlot

end Sys2Proof.Machine
end

