-- ==== Sys2Proof/Machine/Link.lean ====
section
/-! DEFINITION. The Chaivo link: ports and training (R278, R279), flits (R280 to R284), credits (R285), routing (R288 to R290),
messages (R286, R292, R293), time transfer (R296 to R298), host mode (R299, R300). -/

namespace Sys2Proof.Machine

/-! ## Access -/

/-- A port of the link. -/
def State.linkPort (s : State) (p : Nat) : LinkPort := s.link.ports.get LinkPort.init p
/-- A port of the link changed. -/
def State.modLink (s : State) (p : Nat) (f : LinkPort → LinkPort) : State :=
  { s with link := { s.link with ports := s.link.ports.upd LinkPort.init p f } }
/-- A port counter of Table 11-8 raised: 0 sent, 1 received, 2 CRC failed, 3 header check failed, 4 resends, 5 NAKs sent,
6 unreachable, 7 hop limit, 8 malformed, 9 failovers, 10 entries to DOWN, 11 stomped. -/
def State.linkCount (s : State) (p i n : Nat) : State := s.count 64 (Ob.linkCounter p i) n
/-- Whether a port is UP. -/
def State.linkUp (s : State) (p : Nat) : Bool := s.nat (Ob.linkPortState p) = 2
/-- Whether a port is in host mode. -/
def State.hostMode (s : State) (p : Nat) : Bool := s.on (Ob.portMode p)
/-- This module's address (R287). -/
def State.ownAddress (s : State) : Nat := s.nat Ob.moduleAddress

/-! ## Flits (Tables 11-2 and 11-3) -/

/-- One bit of the header check, polynomial 0x07. -/
def crc8Bit (c : Nat) (b : Bool) : Nat :=
  let x := (c / 128 % 2 = 1) != b
  if x then (c * 2 % 256) ^^^ 7 else c * 2 % 256

/-- CRC-8 over bits [191:8] of a header, most significant first (Table 11-2). -/
def headerCheck (h : Nat) : Nat := ((List.range 184).map (fun i => bitAt h (191 - i))).foldl crc8Bit 0

/-- A header of its fields, with its check. -/
def mkHeader (dest src cls hop units type tag status want a b : Nat) : BitVec 192 :=
  let n := put 174 18 dest + put 156 18 src + put 154 2 cls + put 136 18 hop + put 131 5 units + put 122 6 type + put 110 12 tag
    + put 106 4 status + put 101 5 want + put 64 32 a + put 16 48 b
  BitVec.ofNat 192 (n + headerCheck n)

/-- A field of a header. -/
def hf (h : BitVec 192) (lo w : Nat) : Nat := field h.toNat lo w
/-- Destination of a header. -/
def hDest (h : BitVec 192) : Nat := hf h 174 18
/-- Source of a header. -/
def hSrc (h : BitVec 192) : Nat := hf h 156 18
/-- Class of a header. -/
def hCls (h : BitVec 192) : Nat := hf h 154 2
/-- Hop count of a header. -/
def hHop (h : BitVec 192) : Nat := hf h 136 18
/-- Payload length in 64-byte units. -/
def hUnits (h : BitVec 192) : Nat := hf h 131 5
/-- Message type. -/
def hType (h : BitVec 192) : Nat := hf h 122 6
/-- Tag. -/
def hTag (h : BitVec 192) : Nat := hf h 110 12
/-- Requested length in 64-byte units. -/
def hWant (h : BitVec 192) : Nat := hf h 101 5
/-- Field A. -/
def hA (h : BitVec 192) : Nat := hf h 64 32
/-- Field B. -/
def hB (h : BitVec 192) : Nat := hf h 16 48

/-- A header with its hop count replaced and its check made anew. -/
def withHop (h : BitVec 192) (hop : Nat) : BitVec 192 :=
  let n := h.toNat - put 136 18 (hHop h) - h.toNat % 256 + put 136 18 hop
  BitVec.ofNat 192 (n + headerCheck n)

/-- The bytes of a header, least significant first (R8; log entry 37). -/
def headerBytes (h : BitVec 192) : List Byte := leBytes 24 h.toNat

/-- The CRC-32 of a flit (R282). -/
def flitCrc (f : Flit) : Nat := crc32 (headerBytes f.header ++ f.payload)

/-- The class of a message type, none for a reserved type (Table 11-5). -/
def typeClass (t : Nat) : Option Nat :=
  if t = 1 ∨ t = 2 ∨ t = 4 then some 2
  else if t = 3 then some 3
  else if 5 ≤ t ∧ t ≤ 8 then some 1
  else if t = 9 ∨ t = 0x10 ∨ t = 0x11 ∨ t = 0x20 ∨ t = 0x21 ∨ t = 0x22 then some 0
  else none

/-- Whether a type is link-local (Table 11-5). -/
def linkLocal (t : Nat) : Bool := t == 0x20 || t == 0x21 || t == 0x22

/-- Whether a type is a request answered on refusal (R290). -/
def answered (t : Nat) : Bool := t == 1 || t == 2 || t == 4

/-- Whether R286 discards a flit for its header: reserved type, wrong class, a reserved field that is not zero. -/
def flitMalformed (h : BitVec 192) : Bool :=
  let t := hType h
  typeClass t ≠ some (hCls h) || hf h 128 3 ≠ 0 || hf h 96 5 ≠ 0 || hf h 8 8 ≠ 0 || decide (16 < hUnits h)
    || (t ≠ 8 && hf h 106 4 ≠ 0) || (t ≠ 1 && t ≠ 4 && hWant h ≠ 0)
    || ((t == 1 || t == 2 || t == 3 || t == 5 || t == 6 || t == 0x10 || t == 0x11 || t == 0x22) && hA h ≠ 0)
    || ((t == 1 || t == 2 || t == 3) && hB h % 64 ≠ 0)
    || ((t == 4 || t == 5 || t == 6 || t == 7 || t == 8) && hB h ≠ 0)
    || (t == 9 && decide (16384 ≤ hA h)) || (t == 0x20 && (decide (4 ≤ hA h) || decide (2 ^ 18 ≤ hB h)))
    || (t == 0x21 && decide (2 ^ 30 ≤ hA h)) || (t == 8 && decide (2 ^ 18 ≤ hA h)) || (t == 7 && field (hA h) 3 5 ≠ 0)

/-- Whether the payload and requested lengths are those of the type (Table 11-5). -/
def lengthsOk (h : BitVec 192) : Bool :=
  let t := hType h
  let u := hUnits h
  if t = 2 ∨ t = 3 ∨ t = 5 then decide (1 ≤ u ∧ u ≤ 16)
  else if t = 7 then decide (u ≤ 16)
  else u = 0 && (if t = 1 ∨ t = 4 then decide (1 ≤ hWant h ∧ hWant h ≤ 16) else true)

/-! ## Sending (R284, R285) -/

/-- Credits of the receive buffers by class (Table 11-5a). -/
def fullCredits : List Nat := [128, 1024, 512, 1024]

/-- Credits a flit costs. -/
def flitCost (f : Flit) : Nat := 1 + hUnits f.header

/-- Bytes of a flit on the wire. -/
def wireBytes (f : Flit) : Nat := 32 + 64 * hUnits f.header

/-- Whether a port can send a flit now: credits of its class, and room in the 64 KiB retry buffer. -/
def canSend (l : LinkPort) (f : Flit) : Bool :=
  decide (flitCost f ≤ nth 0 l.credits (hCls f.header)) &&
    decide (sumNat (l.retry.map (fun x => wireBytes x.flit)) + wireBytes f ≤ 65536)

/-- The flit of a class that goes next: the inputs are served in turn, each in its order (R285). -/
def headOf (l : LinkPort) (c : Nat) : Option QueuedFlit :=
  (List.range 5).findSome? (fun i => l.queue.find? (fun q => q.input == (nth 0 l.turn c + 1 + i) % 5 && hCls q.flit.header == c))

/-- The class whose flit goes next: one that has waited 16 flits, else the lowest that can go (R285). -/
def nextClass (l : LinkPort) : Option Nat :=
  let ready := fun (c : Nat) => match headOf l c with
    | some q => canSend l q.flit
    | none => false
  match (List.range 4).find? (fun c => ready c && decide (16 ≤ nth 0 l.waited c)) with
  | some c => some c
  | none => (List.range 4).find? ready

/-- The first element that satisfies a test, and the list without it. -/
def takeFirst {α : Type} (f : α → Bool) : List α → Option (α × List α)
  | [] => none
  | x :: l => if f x then some (x, l) else (takeFirst f l).map (fun r => (r.1, x :: r.2))

/-- Credits returned with a trailer: the first class that owes some, at most 31 (Table 11-3). -/
def trailerCredits (l : LinkPort) : Nat × Nat :=
  match (List.range 4).find? (fun c => 0 < nth 0 l.owed c) with
  | some c => (c, min 31 (nth 0 l.owed c))
  | none => (0, 0)

/-- The last good sequence number received. -/
def lastGood (l : LinkPort) : Nat := (l.expected + 4095) % 4096

/-- A flit sent: numbered, kept for retry, its trailer with acknowledgement and credits (R282, R284). -/
def sendOne (now : Nat) (l : LinkPort) (f : Flit) : LinkPort :=
  let c := trailerCredits l
  let tr := BitVec.ofNat 64 (put 32 32 (flitCrc f) + put 20 12 l.nextSeq + put 8 12 (lastGood l) + put 7 1 (bnat l.nakDue)
    + put 5 2 c.1 + put 0 5 c.2)
  let cls := hCls f.header
  { l with nextSeq := (l.nextSeq + 1) % 4096, retry := l.retry ++ [⟨l.nextSeq, f, tr, 0, now⟩],
           credits := setNth l.credits cls (nth 0 l.credits cls - flitCost f), unacked := false, nakDue := false,
           owed := setNth l.owed c.1 (nth 0 l.owed c.1 - c.2),
           waited := (List.range 4).map (fun k => if k = cls then 0 else if l.queue.any (fun g => hCls g.flit.header == k) then nth 0 l.waited k + 1 else 0) }

/-- Waiting flits sent as far as credits and the retry buffer go; returns them. -/
def pumpPort (now : Nat) : Nat → LinkPort → LinkPort × List QueuedFlit
  | 0, l => (l, [])
  | n + 1, l =>
    match nextClass l with
    | none => (l, [])
    | some c =>
      match takeFirst (fun q => headOf l c == some q) l.queue with
      | none => (l, [])
      | some (q, rest) =>
        let r := pumpPort now n (sendOne now { l with queue := rest, turn := setNth l.turn c q.input } q.flit)
        (r.1, q :: r.2)

/-- The place of a flit in the buffer of the port it came by is free, and its credits are owed back (R285). -/
def State.freeBuffer (s : State) (input : Nat) (h : BitVec 192) : State :=
  if input < 4 ∧ s.linkUp input then
    s.modLink input (fun l => { l with owed := setNth l.owed (hCls h) (nth 0 l.owed (hCls h) + 1 + hUnits h) })
  else s

/-- The Ethernet frame of a flit sent in host mode, without its FCS: to Host MAC, or while that is 0 to the sender of the last valid frame,
from Port MAC, EtherType 0x88B5, the flit padded to the minimum (R299). -/
def State.hostFrame (s : State) (p : Nat) (x : SentFlit) : List Byte :=
  let mac := fun (n : Nat) => (leBytes 6 n).reverse
  let dest := if s.nat (Ob.hostMac p) = 0 then (s.linkPort p).learned else s.nat (Ob.hostMac p)
  let flit := headerBytes x.flit.header ++ x.flit.payload ++ leBytes 8 x.trailer.toNat
  mac dest ++ mac (s.nat (Ob.portMac p)) ++ [0x88, 0xB5] ++ padTo (max 46 flit.length) flit

/-- An UP port sends what it can (R285). -/
def State.pump (s : State) (p : Nat) : State :=
  if !s.linkUp p then s
  else
    let l := s.linkPort p
    let r := pumpPort s.time (l.queue.length + 1) l
    let frame := match s.hostMode p && r.2 != [], r.1.retry.getLast? with
      | true, some x => s.hostFrame p x
      | _, _ => l.frame
    let s1 := s.modLink p (fun _ => { r.1 with frame := frame })
    if r.2 = [] then s1
    else r.2.foldl (fun s q => s.freeBuffer q.input q.flit.header) ((s1.linkCount p 0 r.2.length).progress (66 + p) r.2.length)

/-- A flit put among those that wait at a port. -/
def State.enqueueFlit (s : State) (p : Nat) (q : QueuedFlit) : State :=
  (s.modLink p (fun l => { l with queue := l.queue ++ [q] })).pump p

/-! ## Routing (R289, R290) -/

/-- An entry of the active copy of a map; the default discards (R288). -/
def mapEntry (m : Option (List Byte)) (i : Nat) : Nat :=
  match m with
  | some bs => leAt bs (2 * i) 2
  | none => 0x003F

/-- The route of a destination and whether it is the alternate (R289). -/
def State.routeTo (s : State) (a : Nat) : FlitRoute × Bool :=
  let own := s.ownAddress
  if a = own then (.here, false)
  else
    let e := if a / 512 = own / 512 then mapEntry s.link.local_ (a % 512) else mapEntry s.link.region (a / 512)
    let pri := e % 8
    let alt := e / 8 % 8
    if pri ≤ 3 ∧ s.linkUp pri then (.out pri, false)
    else if alt ≤ 3 ∧ s.linkUp alt then (.out alt, true)
    else (.drop, false)

/-- A flit sent on its way without an answer if it cannot go: unreachable (a host port takes only its Host Address) or beyond
the hop limit, counted on port `from_` (R290, R300). The result: the state, and the status of the discard, 0 if it went. -/
def State.sendQuiet (s : State) (from_ : Nat) (f : Flit) : State × Nat :=
  match s.routeTo (hDest f.header) with
  | (.out p, alt) =>
    let s1 := if alt then (s.linkCount p 9 1).raise 0x0909 p else s
    if s.hostMode p ∧ hDest f.header ≠ s.nat (Ob.hostAddress p) then ((s1.linkCount from_ 6 1).raise 0x0904 from_, 1)
    else if s.nat Ob.hopLimit < hHop f.header + 1 then ((s1.linkCount from_ 7 1).raise 0x0905 from_, 2)
    else (s1.enqueueFlit p ⟨4, { f with header := withHop f.header (hHop f.header + 1) }⟩, 0)
  | (.drop, _) => ((s.linkCount from_ 6 1).raise 0x0904 from_, 1)
  | _ => (s, 0)

/-- An ERROR_RESP to the source of a request (R290). -/
def errorFor (own : Nat) (h : BitVec 192) (status : Nat) : Flit :=
  ⟨mkHeader (hSrc h) own 1 0 0 8 (hTag h) status 0 own 0, []⟩

/-- A refused or discarded request answered with its status; other messages are only counted (R290). -/
def State.refuse (s : State) (p : Nat) (h : BitVec 192) (status : Nat) : State :=
  if answered (hType h) then (s.sendQuiet p (errorFor s.ownAddress h status)).1 else s

/-- A link-local message of this module out of a port (Table 11-5). -/
def State.sendLocal (s : State) (p type a b : Nat) : State :=
  s.enqueueFlit p ⟨4, mkHeader 0 s.ownAddress 0 1 0 type 0 0 0 a b, []⟩

/-! ## States of a port (R278, R279) -/

/-- A port leaves UP for DOWN: credits void, what it was receiving is lost; the retry buffer stays (R279, R284). -/
def State.linkDown (s : State) (p code : Nat) : State :=
  let s1 := s.modLink p (fun l => { l with rx := none, skip := false, credits := [0, 0, 0, 0], locked := false, heard := false, nakDue := false,
                                           discarding := false, owed := [0, 0, 0, 0], sum := 0, count := 0, mIn := none, offset := none, distance := 0x3FFFF,
                                           due := s.time + 10000000 })
  ((s1.setNat (Ob.linkPortState p) 3).linkCount p 10 1).raise code p

/-- A port begins to train. -/
def State.train (s : State) (p : Nat) (full : Bool) : State :=
  let s1 := s.modLink p (fun l => { l with rx := none, skip := false, credits := [0, 0, 0, 0], locked := false, heard := false, nakDue := false,
                                           discarding := false, owed := [0, 0, 0, 0], full := full, sum := 0, count := 0, mIn := none, offset := none, distance := 0x3FFFF,
                                           due := s.time + 1000000000 })
  s1.setNat (Ob.linkPortState p) 1

/-- A port that has block lock, alignment and a HELLO goes UP: credits are whole, kept flits are sent again and their resends
counted anew (R279, R284; log entry 50). -/
def State.goUp (s : State) (p : Nat) : State :=
  let l := s.linkPort p
  if !(l.locked && l.heard) ∨ s.linkUp p ∨ s.nat (Ob.linkPortState p) = 0 then s
  else
    let cost := fun (c : Nat) => sumNat ((l.retry.filter (fun x => hCls x.flit.header == c)).map (fun x => flitCost x.flit))
    let again := fun (x : SentFlit) => { x with resent := 0, sentAt := s.time }
    let s1 := s.modLink p (fun l =>
      { l with credits := (List.range 4).map (fun c => nth 0 fullCredits c - cost c), retry := l.retry.map again })
    ((s1.linkCount p 4 l.retry.length).setNat (Ob.linkPortState p) 2).pump p

/-- Port Enable of a link port (R279, R284): 1 starts training, from the stored coefficients where there are any; 0 disables
and discards what is kept for retry. -/
def State.applyLinkEnable (s : State) (p v : Nat) : State :=
  if v = 1 then
    if s.on (Ob.linkPortEnable p) then s
    else ((s.modLink p (fun l => { LinkPort.init with learned := l.learned, cageOff := l.cageOff })).setNat (Ob.linkPortEnable p) 1).train p
      (!s.on (Ob.coefficientsStored p))
  else
    (s.modLink p (fun l => { LinkPort.init with learned := l.learned, cageOff := l.cageOff })).setAll
      [(Ob.linkPortEnable p, 0), (Ob.linkPortState p, 0)]

/-- Retrain Command (R278): 1 from the stored coefficients, 2 discards them and trains in full. -/
def State.applyRetrain (s : State) (p v : Nat) : State :=
  if v = 2 then (s.setNat (Ob.coefficientsStored p) 0).train p true else s.train p (!s.on (Ob.coefficientsStored p))

/-- Whether the supply of a port's cage is off: it is tried again 1 s after it went off (R443). -/
def State.cageOff (s : State) (p : Nat) : Bool :=
  match (s.linkPort p).cageOff with
  | some a => decide (s.time < a + 1000000000)
  | none => false

/-- TRAINING_COMPLETE: block lock and FEC alignment are reached; a full training stores its coefficients, and a HELLO is
sent (R278, R279, Table 11-5). -/
def execTrainingComplete (t : Nat) (p : Fin 4) (s0 : State) : Host.Outcome State Fault Refusal :=
  let s := s0.advance t
  let st := s.nat (Ob.linkPortState p)
  if (st ≠ 1 ∧ st ≠ 3) ∨ s.cageOff p then ok s
  else
    let l := s.linkPort p
    let s1 := if l.full then s.setNat (Ob.coefficientsStored p) 1 else s
    let s2 := s1.modLink p (fun l => { l with locked := true, full := false })
    let hello := mkHeader 0 s.ownAddress 0 1 0 0x20 0 0 0 (bnat (s.hostMode p) + 2 * bnat (s.on (Ob.fec p))) s.ownAddress
    ok ((s2.modLink p (fun l => { l with queue := ⟨4, hello, []⟩ :: l.queue })).goUp p)

/-- HELLO: the neighbour's address is known; with training complete the port goes UP (R279, R300). A host's port needs its
HELLO alone beside block lock. -/
def execHello (t : Nat) (p : Fin 4) (_a : BitVec 32) (b : BitVec 48) (s0 : State) : Host.Outcome State Fault Refusal :=
  let s := s0.advance t
  if s.nat (Ob.linkPortState p) = 0 ∨ !(s.linkPort p).locked then ok s
  else ok (((s.setNat (Ob.neighbourAddress p) (b.toNat % 2 ^ 18)).modLink p (fun l => { l with heard := true })).goUp p)

/-- TRAINING_STALL_NOTICE: a port has been in TRAINING for 1 s, or 60 s more (R278). -/
def execTrainingStallNotice (t : Nat) (p : Fin 4) (s0 : State) : Host.Outcome State Fault Refusal :=
  let s := s0.advance t
  if s.nat (Ob.linkPortState p) = 1 ∧ (s.linkPort p).due ≤ s.time then
    ok ((s.modLink p (fun l => { l with due := s.time + 60000000000 })).raise 0x090A p)
  else ok s

/-- DOWN_RETRY_TIMER: a DOWN port trains again from its stored coefficients (R279). -/
def execDownRetryTimer (t : Nat) (p : Fin 4) (s0 : State) : Host.Outcome State Fault Refusal :=
  let s := s0.advance t
  if s.nat (Ob.linkPortState p) = 3 ∧ (s.linkPort p).due ≤ s.time then
    ok (s.modLink p (fun l =>
      { l with locked := false, heard := false, full := !s.on (Ob.coefficientsStored p), due := s.time + 10000000 }))
  else ok s

/-- BLOCK_LOCK_LOSS: an UP port goes to DOWN with 0x0903 (R279); a port still training loses its lock. -/
def execBlockLockLoss (t : Nat) (p : Fin 4) (s0 : State) : Host.Outcome State Fault Refusal :=
  let s := s0.advance t
  if s.linkUp p then ok (s.linkDown p 0x0903) else ok (s.modLink p (fun l => { l with locked := false, heard := false }))

/-- SFP_INSERTION: the identification of the module is read (R277). -/
def execSfpInsertion (t : Nat) (p : Fin 4) (ident : List Byte) (s0 : State) : Host.Outcome State Fault Refusal :=
  let s := s0.advance t
  ok ((s.setDom (Ob.moduleIdentifier p) (padTo 96 ident)).modLink p (fun l => { l with cageOff := none }))

/-- SFP_OVERCURRENT: the cage's supply is switched off, and the port stays in TRAINING (R443). An UP port loses its block
lock with it (R279). -/
def execSfpOvercurrent (t : Nat) (p : Fin 4) (s0 : State) : Host.Outcome State Fault Refusal :=
  let s := s0.advance t
  let s1 := if s.linkUp p then s.linkDown p 0x0903 else s
  let s2 := if s.on (Ob.linkPortEnable p) then s1.train p (!s.on (Ob.coefficientsStored p)) else s1
  ok (s2.modLink p (fun l => { l with cageOff := some s.time }))

/-! ## Acknowledgement and retry (R284) -/

/-- The flits still kept once those up to `ack` are acknowledged; an `ack` outside what is kept changes nothing. -/
def ackRetry (ack : Nat) (l : List SentFlit) : List SentFlit :=
  if l.any (fun x => x.seq == ack) then (l.dropWhile (fun x => x.seq ≠ ack)).drop 1 else l

/-- Credits added to a class, never above its buffer (R285). -/
def addCredits (l : LinkPort) (c n : Nat) : LinkPort := { l with credits := setNth l.credits c (min (nth 0 fullCredits c) (nth 0 l.credits c + n)) }

/-- FLIT_ACK_RECEIVED: the acknowledgement and the credits of a trailer (Table 11-3, R284, R285). -/
def execFlitAckReceived (t : Nat) (p : Fin 4) (ack : BitVec 12) (cls : Fin 4) (credits : BitVec 5) (s0 : State) :
    Host.Outcome State Fault Refusal :=
  let s := s0.advance t
  if !s.linkUp p then ok s
  else ok (((s.modLink p (fun l => addCredits { l with retry := ackRetry ack.toNat l.retry } cls credits.toNat)).progress (66 + p)).pump p)

/-- What is kept is sent again from its oldest flit; a flit resent 16 times already brings the port DOWN (R284). -/
def State.resend (s : State) (p : Nat) : State :=
  let l := s.linkPort p
  match l.retry with
  | [] => s
  | x :: _ =>
    if 16 ≤ x.resent then s.linkDown p 0x0902
    else (s.modLink p (fun l => { l with retry := l.retry.map (fun y => { y with resent := y.resent + 1, sentAt := s.time }) })).linkCount p 4 l.retry.length

/-- NAK_RECEIVED: flits up to the last good number are acknowledged, the rest are sent again (R284). -/
def execNakReceived (t : Nat) (p : Fin 4) (lastGood : BitVec 12) (s0 : State) : Host.Outcome State Fault Refusal :=
  let s := s0.advance t
  if !s.linkUp p then ok s
  else ok ((((s.modLink p (fun l => { l with retry := ackRetry lastGood.toNat l.retry })).progress (66 + p)).resend p).pump p)

/-- RETRY_TIMEOUT: the oldest unacknowledged flit has waited Retry Timeout (R284). -/
def execRetryTimeout (t : Nat) (p : Fin 4) (s0 : State) : Host.Outcome State Fault Refusal :=
  let s := s0.advance t
  match (s.linkPort p).retry with
  | [] => ok s
  | x :: _ => if s.linkUp p ∧ x.sentAt + s.nat (Ob.retryTimeout p) ≤ s.time then ok (s.resend p) else ok s

/-- LINK_BLOCK: acknowledgement, NAK and credits of all classes (Table 11-4); a control block ends a discard of blocks
(R283). -/
def execLinkBlock (t : Nat) (p : Fin 4) (content : BitVec 52) (s0 : State) : Host.Outcome State Fault Refusal :=
  let s := s0.advance t
  if !s.linkUp p then ok s
  else
    let n := content.toNat
    let s1 := s.modLink p (fun l =>
      (List.range 4).foldl (fun l c => addCredits l c (field n (31 - 8 * c) 8)) { l with skip := false, retry := ackRetry (field n 40 12) l.retry }) |>.progress (66 + p)
    ok ((if bitAt n 39 then s1.resend p else s1).pump p)

/-- The content of a link block (Table 11-4): acknowledgement, NAK, credits owed. -/
def linkContent (l : LinkPort) : Nat :=
  put 40 12 (lastGood l) + put 39 1 (bnat l.nakDue) + sumNat ((List.range 4).map (fun c => put (31 - 8 * c) 8 (min 255 (nth 0 l.owed c))))

/-- LINK_BLOCK_SEND: acknowledgement and credits go out in a link block, in host mode in a LINK message (R284, R300). -/
def execLinkBlockSend (t : Nat) (p : Fin 4) (s0 : State) : Host.Outcome State Fault Refusal :=
  let s := s0.advance t
  let l := s.linkPort p
  if !s.linkUp p ∨ !(l.unacked || l.nakDue || l.owed.any (fun n => 0 < n)) then ok s
  else
    let n := linkContent l
    let s1 := s.modLink p (fun l => { l with unacked := false, nakDue := false, owed := l.owed.map (fun n => n - min 255 n) })
    if s.hostMode p then ok (s1.sendLocal p 0x22 0 (n / 16))
    else ok (s1.modLink p (fun l => { l with block := some (BitVec.ofNat 56 (put 52 4 1 + n)) }))

/-! ## Receiving (R282, R283, R286) -/

/-- A NAK: one is sent, and flits are discarded until the next number comes (R284). -/
def State.nak (s : State) (p : Nat) : State :=
  if (s.linkPort p).discarding then s
  else (s.modLink p (fun l => { l with discarding := true, nakDue := true })).linkCount p 5 1

/-- A header whose check passes: malformed headers are discarded; link-local messages and those for this module stay here;
others are routed, with an answer where they cannot go (R283, R286, R289, R290). -/
def State.routeHeader (s : State) (p : Nat) (h : BitVec 192) : State × FlitRoute :=
  if flitMalformed h then ((s.linkCount p 8 1).raise 0x0908 p, .drop)
  else if linkLocal (hType h) then (s, .here)
  else match s.routeTo (hDest h) with
    | (.out o, alt) =>
      let s1 := if alt then (s.linkCount o 9 1).raise 0x0909 o else s
      if s.hostMode o ∧ hDest h ≠ s.nat (Ob.hostAddress o) then (((s1.linkCount p 6 1).raise 0x0904 p).refuse p h 1, .drop)
      else if s.nat Ob.hopLimit < hHop h + 1 then (((s1.linkCount p 7 1).raise 0x0905 p).refuse p h 2, .drop)
      else (s1, .out o)
    | (.drop, _) => (((s.linkCount p 6 1).raise 0x0904 p).refuse p h 1, .drop)
    | (r, _) => (s, r)

/-- Whether a flit is forwarded cut-through: its output is free in its class, and the next receiver has credits for the whole of it
(R283). -/
def State.cutsThrough (s : State) (h : BitVec 192) (r : FlitRoute) : Bool :=
  match r with
  | .out o => s.linkUp o && (headOf (s.linkPort o) (hCls h)).isNone && canSend (s.linkPort o) ⟨h, []⟩
  | _ => false

/-- The copy of a failed flit that was forwarded cut-through ends with the inverted CRC-32; it takes no sequence number and is not kept
for retry (R283; log entry 50). -/
def State.stompCopy (s : State) (rx : RxFlit) (payload : List Byte) : State :=
  match rx.cut, rx.route with
  | true, .out o =>
    let f : Flit := ⟨withHop rx.header (hHop rx.header + 1), payload⟩
    s.modLink o (fun l =>
      { l with stomp := some (f, BitVec.ofNat 64 (put 32 32 (flitCrc f ^^^ 0xFFFFFFFF) + put 20 12 l.nextSeq + put 8 12 (lastGood l))) })
  | _, _ => s

/-- A header arrived at an UP port. -/
def State.takeHeader (s : State) (p : Nat) (h : BitVec 192) : State :=
  let l := s.linkPort p
  if l.skip then s
  else if headerCheck h.toNat ≠ h.toNat % 256 then
    ((s.modLink p (fun l => { l with rx := none, skip := true })).linkCount p 3 1).raise 0x0901 p |>.nak p
  else if l.discarding then s.modLink p (fun l => { l with rx := some ⟨h, .undecided, false⟩ })
  else
    let r := s.routeHeader p h
    r.1.modLink p (fun l => { l with rx := some ⟨h, r.2, r.1.cutsThrough h r.2⟩ })

/-- FLIT_HEADER: the third header block has arrived (R283). -/
def execFlitHeader (t : Nat) (p : Fin 4) (h : BitVec 192) (s0 : State) : Host.Outcome State Fault Refusal :=
  let s := s0.advance t
  if s.linkUp p then ok (s.takeHeader p h) else ok s

/-- A good flit in sequence: forwarded, where it keeps its place in this port's buffer until it is sent, or left to its message here, and
its credits are owed back (R284, R285). -/
def State.acceptFlit (s : State) (p : Nat) (rx : RxFlit) (payload : List Byte) : State :=
  let s0 := (s.modLink p (fun l => { l with rx := none, discarding := false, unacked := true, expected := (l.expected + 1) % 4096 })).linkCount p 1 1
    |>.progress (66 + p)
  let r := match rx.route with
    | .undecided => s0.routeHeader p rx.header
    | _ => (s0, rx.route)
  match r.2 with
  | .out o => r.1.enqueueFlit o ⟨p, withHop rx.header (hHop rx.header + 1), payload⟩
  | _ => r.1.freeBuffer p rx.header

/-- A trailer arrived at an UP port: CRC-32, stomp and sequence (R282 to R284). -/
def State.takeTrailer (s : State) (p : Nat) (payload : List Byte) (trailer : BitVec 64) : State :=
  match (s.linkPort p).rx with
  | none => s
  | some rx =>
    let crc := flitCrc ⟨rx.header, payload⟩
    let got := field trailer.toNat 32 32
    let drop := s.modLink p (fun l => { l with rx := none })
    if got = crc ^^^ 0xFFFFFFFF then drop.linkCount p 11 1
    else if got ≠ crc ∨ payload.length ≠ 64 * hUnits rx.header then (((drop.stompCopy rx payload).linkCount p 2 1).raise 0x0901 p).nak p
    else if field trailer.toNat 20 12 ≠ (s.linkPort p).expected then drop.nak p
    else s.acceptFlit p rx payload

/-- FLIT_TRAILER: the end of a flit (R282, R283, R284). Its acknowledgement fields come as FLIT_ACK_RECEIVED and NAK_RECEIVED
(log entry 38). -/
def execFlitTrailer (t : Nat) (p : Fin 4) (payload : List Byte) (trailer : BitVec 64) (s0 : State) : Host.Outcome State Fault Refusal :=
  let s := s0.advance t
  if s.linkUp p then ok (s.takeTrailer p payload trailer) else ok s

/-! ## Requests served here (R292, R413, R414) -/

/-- A byte of a port's filter. -/
def State.filterNat (s : State) (p off n : Nat) : Nat := s.domNat Ob.portFilters (64 * p + off) n

/-- Whether a port filter lets a request through; `bit` is its place in the type mask (Table 17-4). -/
def State.filterPasses (s : State) (p bit : Nat) (h : BitVec 192) : Bool :=
  s.filterNat p 0 1 = 0 ||
    (bitAt (s.filterNat p 2 2) bit &&
      (s.filterNat p 4 1 = 0 || (List.range (min 4 (s.filterNat p 4 1))).any (fun i =>
        decide (s.filterNat p (8 + 8 * i) 4 ≤ hSrc h ∧ hSrc h ≤ s.filterNat p (12 + 8 * i) 4))) &&
      (bit ≠ 4 || bitAt (s.filterNat p 5 1) (hA h % 8)) && (bit ≠ 3 || (decide (hA h ≤ 8) && bitAt (s.filterNat p 6 2) (hA h))))

/-- A request refused by a filter: 0x0C07 once per second per port, status 3 (R414). -/
def State.filtered (s : State) (p : Nat) (h : BitVec 192) : State := (s.raiseSlowUnit 0x0C07 p).refuse p h 3

/-- Whether the module serves requests: STANDBY, READY or RUN (R292). -/
def State.serves (s : State) : Bool := s.dev = 2 || s.dev = 3 || s.dev = 4

/-- Whether a remote access goes to memory that exists and that the firewall grants (R108, R413). -/
def State.remoteGrants (s : State) (write : Bool) (p a n : Nat) : Bool :=
  match targetOf a with
  | .dram => decide (a + n ≤ dramEnd) && s.fwGrants write (8 + p) a n
  | .scratch _ => decide (a % 0x100000 + n ≤ 0x100000)
  | .reserved => false

/-- The checks of a request that reaches the Exchange from port `p`: the status it is refused with, 0 if it is served. -/
def State.requestStatus (s : State) (p bit : Nat) (h : BitVec 192) (n : Nat) (write : Bool) : Nat :=
  if !s.serves then 5
  else if !s.filterPasses p bit h then 3
  else if !lengthsOk h ∨ hB h % 4096 + n > 4096 then 8
  else if !s.remoteGrants write p (hB h) n then 4
  else 0

/-- A request refused with its status (R290, R414). -/
def State.refuseRequest (s : State) (p : Nat) (h : BitVec 192) (status : Nat) : State :=
  if status = 3 then s.filtered p h else s.refuse p h status

/-- The answer to a request: a response of class C1 with its tag (Table 11-5). -/
def State.answer (s : State) (p : Nat) (h : BitVec 192) (type a : Nat) (payload : List Byte) : State :=
  (s.sendQuiet p ⟨mkHeader (hSrc h) s.ownAddress 1 0 (payload.length / 64) type (hTag h) 0 0 a 0, payload⟩).1

/-- Whether a message row's header is one of its type for this module on an UP port. -/
def State.forUs (s : State) (p : Nat) (h : BitVec 192) (type : Nat) : Bool :=
  s.linkUp p && hType h == type && hDest h == s.ownAddress && !flitMalformed h

/-- READ: served with READ_RESP or refused with ERROR_RESP (R292). -/
def execRead (t : Nat) (p : Fin 4) (h : BitVec 192) (s0 : State) : Host.Outcome State Fault Refusal :=
  let s := s0.advance t
  if !s.forUs p h 1 then ok s
  else
    let n := 64 * hWant h
    let st := s.requestStatus p 0 h n false
    if st ≠ 0 then ok (s.refuseRequest p h st) else ok (s.answer p h 5 0 (Memory.readBytes s.mem (hB h) n))

/-- WRITE: performed and acknowledged, or refused (R292). -/
def execWrite (t : Nat) (p : Fin 4) (h : BitVec 192) (data : List Byte) (s0 : State) : Host.Outcome State Fault Refusal :=
  let s := s0.advance t
  if !s.forUs p h 2 then ok s
  else
    let n := 64 * hUnits h
    let st := s.requestStatus p 1 h n true
    if st ≠ 0 then ok (s.refuseRequest p h st) else ok ((s.store (hB h) (padTo n data)).answer p h 6 0 [])

/-- WRITE_POSTED: performed, or only counted where refused (R285, R292). -/
def execWritePosted (t : Nat) (p : Fin 4) (h : BitVec 192) (data : List Byte) (s0 : State) : Host.Outcome State Fault Refusal :=
  let s := s0.advance t
  if !s.forUs p h 3 then ok s
  else
    let n := 64 * hUnits h
    let st := s.requestStatus p 2 h n true
    if st ≠ 0 then ok (s.refuseRequest p h st) else ok (s.store (hB h) (padTo n data))

/-- PULL: answered with the next bytes of the oldest closed batch, or the underrun repeat (R312, R313); no such queue, or one
the field bus reads, is refused with status 7. -/
def execPull (t : Nat) (p : Fin 4) (h : BitVec 192) (s0 : State) : Host.Outcome State Fault Refusal :=
  let s := s0.advance t
  if !s.forUs p h 4 then ok s
  else
    let q := hA h
    if !s.serves then ok (s.refuse p h 5)
    else if !s.filterPasses p 3 h then ok (s.filtered p h)
    else if !lengthsOk h then ok (s.refuse p h 8)
    else if 8 < q ∨ s.readerInForce q = 1 then ok (s.refuse p h 7)
    else
      let r := (s.expireTail q).readQueue q (64 * hWant h)
      ok (r.2.2.answer p h 7 r.1 (padTo (roundUp r.2.1.length 64) r.2.1))

/-- The device time whose low 48 bits a message carries: the one nearest to now (Table 11-5). -/
def nearStamp (now low : Nat) : Nat :=
  let d := (now % 2 ^ 48 + 2 ^ 48 - low % 2 ^ 48) % 2 ^ 48
  if d < 2 ^ 47 then now - d else now + (2 ^ 48 - d)

/-- KERB_POST_MESSAGE: a pulse or a level of another module on a K output, recorded with the post's stamp (R69, R293). -/
def execKerbPostMessage (t : Nat) (p : Fin 4) (h : BitVec 192) (s0 : State) : Host.Outcome State Fault Refusal :=
  let s := s0.advance t
  if !s.forUs p h 9 then ok s
  else if !s.filterPasses p 4 h then ok (s.filtered p h)
  else
    let a := hA h
    ok (s.kerbPost (.remote (hSrc h)) (a % 8) (nearStamp s.time (hB h)) (field a 3 10) (bitAt a 13))

/-- ECHO: answered with its fields copied (Table 11-5). -/
def execEcho (t : Nat) (p : Fin 4) (h : BitVec 192) (s0 : State) : Host.Outcome State Fault Refusal :=
  let s := s0.advance t
  if !s.forUs p h 0x10 then ok s
  else if !s.filterPasses p 5 h then ok (s.filtered p h)
  else ok (s.sendQuiet p ⟨mkHeader (hSrc h) s.ownAddress 0 0 0 0x11 (hTag h) 0 0 0 (hB h), []⟩).1

/-- ECHO_REPLY: it has reached its sender; the device's own units send no ECHO, so nothing else happens (R286). -/
def execEchoReply (t : Nat) (_h : BitVec 192) (s0 : State) : Host.Outcome State Fault Refusal := ok (s0.advance t)

/-! ## Requests of this module (R109, R292) -/

/-- Whether a tag is free: not outstanding and not in its time of quarantine. -/
def State.tagFree (s : State) (tag : Nat) : Bool :=
  !(s.link.requests.any (fun r => r.tag == tag && r.answer.isNone)) && !s.link.quarantine.any (fun q => q.1 == tag)

/-- The lowest free tags, `n` of them at most. -/
def State.freeTags (s : State) (n : Nat) : List Nat := ((List.range 4096).filter s.tagFree).take n

/-- The requests of a transaction: one for each 1,024 bytes (R281). -/
def requestParts (bytes : Nat) : List (Nat × Nat) :=
  (List.range ((bytes + 1023) / 1024)).map (fun i => (1024 * i, min 1024 (bytes - 1024 * i)))

/-- The bytes the answered requests of a transaction brought, in order. -/
def answerData (l : List LinkRequest) : List Byte :=
  l.flatMap (fun r => match r.answer with
    | some a => padTo r.len a.2
    | none => [])

/-- A transaction whose requests are all answered ends (R109, R110). -/
def State.finishRequests (s : State) (tile num : Nat) : State :=
  let mine := s.link.requests.filter (fun r => r.tile == tile && r.num == num)
  if mine = [] ∨ mine.any (fun r => r.answer.isNone) then s
  else
    let s1 : State := { s with link := { s.link with requests := s.link.requests.filter (fun r => !(r.tile == tile && r.num == num)) } }
    match (s.tile tile).trans.find? (fun x => x.num == num) with
    | some tr => s1.endTrans tile tr (mine.any (fun r => match r.answer with
        | some a => a.1
        | none => false)) (answerData mine)
    | none => s1

/-- Tiles that hold for want of a free tag go on (R292). -/
def State.releaseTagHolds (s : State) : State :=
  (List.range 64).foldl (fun s t => if (s.tile t).hold = .transactions ∧ (s.tile t).outstanding < 32 then s.endHold t else s) s

/-- An answer to an outstanding tag; one for a tag that is not outstanding is late (R292). -/
def State.takeAnswer (s : State) (tag : Nat) (error : Bool) (data : List Byte) : State :=
  match s.link.requests.find? (fun r => r.tag == tag && r.answer.isNone) with
  | none => (s.count 64 Ob.lateResponses 1).raise 0x0906 noUnit
  | some r =>
    let upd := fun (x : LinkRequest) => if x.tag = tag ∧ x.answer.isNone then { x with answer := some (error, data) } else x
    let s1 : State := { s with link := { s.link with requests := s.link.requests.map upd } }
    (s1.finishRequests r.tile r.num).releaseTagHolds

/-- The message that asks for a part of a transaction (Table 11-5). -/
def partFlit (own m tag : Nat) (acc : Access) (part : Nat × Nat) : Flit :=
  let a := acc.addr.toNat + part.1
  if acc.write then ⟨mkHeader m own 2 0 (part.2 / 64) 2 tag 0 0 0 a, bytesAt acc.data part.1 part.2⟩
  else ⟨mkHeader m own 2 0 0 1 tag 0 (part.2 / 64) 0 a, []⟩

/-- The port on which a discard of this module's own flit is counted: the primary output of its route, else L0. -/
def State.discardPort (s : State) (m : Nat) : Nat :=
  let e := if m / 512 = s.ownAddress / 512 then mapEntry s.link.local_ (m % 512) else mapEntry s.link.region (m / 512)
  if e % 8 ≤ 3 then e % 8 else 0

/-- A transaction sent to another module in requests of its own tags; one that cannot leave is answered with an error
(R290, R292). -/
def State.sendRequests (s : State) (tile num : Nat) (m : Nat) (acc : Access) (tags : List Nat) : State :=
  let parts := (requestParts acc.bytes).zip tags
  let mine := parts.map (fun x => (⟨x.2, tile, num, x.1.1, x.1.2, s.time, none⟩ : LinkRequest))
  let s1 : State := { s with link := { s.link with requests := s.link.requests ++ mine } }
  parts.foldl (fun s x =>
    let r := s.sendQuiet (s.discardPort m) (partFlit s.ownAddress m x.2 acc x.1)
    if r.2 = 0 then r.1 else r.1.takeAnswer x.2 true []) s1

/-- Whether the port to another module has credits of class C2 for the requests of a transaction beside the flits that wait
(Table 4-1, R285); a module without a route asks for none. -/
def State.linkHasCredit (s : State) (m : Nat) (acc : Access) : Bool :=
  match s.routeTo m with
  | (.out p, _) =>
    let l := s.linkPort p
    let cost := sumNat ((requestParts acc.bytes).map (fun x => flitCost (partFlit s.ownAddress m 0 acc x)))
    decide (sumNat ((l.queue.filter (fun q => hCls q.flit.header == 2)).map (fun q => flitCost q.flit)) + cost ≤ nth 0 l.credits 2)
  | _ => true

/-- Whether a tile is acquiring: its bundle holds in a WAIT, or one of its generators waits before its start (R114). -/
def Tile.acquiring (tl : Tile) : Bool :=
  (match tl.hold with
    | .wait _ _ => true
    | _ => false) || tl.ags.any (fun e => e.2.waiting)

/-- The accepted rows of a write generator that follow each other in memory from its first one, as far as `n` bytes go. -/
def contiguousRows : Nat → List (Nat × List Byte) → List Byte
  | _, [] => []
  | 0, _ => []
  | n + 1, (a, bs) :: rest =>
    match rest with
    | (a2, _) :: _ => if a2 = a + bs.length then bs ++ contiguousRows n rest else bs
    | [] => bs

/-- The access that an issuer makes, if what it runs asks for `acc` now: a read of generator 0 or 1 as its descriptor walks, a write of
ag2 of what it has accepted (its data are those rows), a scalar slot's access as its program gives it (R106, R107, R109, R137). -/
def Tile.issuedAccess (tl : Tile) (issuer : Issuer) (acc : Access) : Option Access :=
  match issuer with
  | .scalar => some acc
  | .ag k =>
    let g := tl.ag k
    match g.desc with
    | none => none
    | some d =>
      let there := decide (d.space ≠ 0) && (if d.space = 2 then acc.module == some (BitVec.ofNat 18 d.module) else acc.module.isNone)
      if k.val < 2 then
        let busy := (tl.trans.filter (fun x => x.issuer == issuer)).map (fun x => (x.acc.addr.toNat, x.acc.bytes))
        if there && g.running && !g.waiting && !acc.write && g.asks d busy acc.addr.toNat acc.bytes then some acc else none
      else
        let bs := contiguousRows (acc.bytes / 64) g.out
        if there && acc.write && bs.length == acc.bytes && (g.out.head?.map Prod.fst) == some acc.addr.toNat then some { acc with data := bs }
        else none

/-- What an issuer gives up by issuing: ag2 the rows it writes. -/
def Tile.afterIssue (tl : Tile) (issuer : Issuer) (acc : Access) : Tile :=
  match issuer with
  | .ag k => if k.val = 2 then tl.modAg k (fun g => { g with out := g.out.drop (acc.bytes / 64) }) else tl
  | .scalar => tl

/-- The 256-byte channel requests of an access on DRAM channel `c`, by address bits [9:8] (R109). -/
def channelParts (acc : Access) (c : Nat) : Nat :=
  if acc.module.isNone && targetOf acc.addr.toNat == .dram then
    let a := acc.addr.toNat / 256
    ((List.range ((acc.addr.toNat + acc.bytes + 255) / 256 - a)).filter (fun i => (a + i) % 4 == c)).length
  else 0

/-- The tiles' requests in the request queue of channel `c` (Table 12-1): those outstanding, but for the reads that hold one of the 32
response entries kept for tiles (log entry 86). -/
def State.channelQueue (s : State) (c : Nat) : Nat :=
  let load := fun (write : Bool) => sumNat (s.market.tiles.map (fun e =>
    sumNat ((e.2.trans.filter (fun x => x.acc.write == write)).map (fun x => channelParts x.acc c))))
  load true + (load false - 32)

/-- Whether the request queues have room for an access: 64 requests a channel, 8 of them kept for result-queue writes (Table 12-1). -/
def State.channelsFree (s : State) (acc : Access) : Bool :=
  (List.range 4).all (fun c => channelParts acc c == 0 || decide (s.channelQueue c + channelParts acc c ≤ 56))

/-- TRANSACTION_ISSUE: a tile's address generator or scalar slot issues a transaction. The issuer holds at 32 outstanding, at a full
request queue of a DRAM channel, without a free tag, and without credits of the link: a scalar slot with its bundle, a generator
alone. No read is issued while the tile acquires. An access the firewall does not grant is not performed: a read gives zeros, fault
0x0304 (R108, R109, R114, R292, Table 4-1). A transaction to this module's own address is a local one (R289). -/
def execTransactionIssue (t : Nat) (tile : Fin 64) (issuer : Issuer) (asked : Access) (s0 : State) : Host.Outcome State Fault Refusal :=
  let s := s0.advance t
  let n := s.tileCtx tile
  let tl := s.tile tile
  match tl.issuedAccess issuer asked with
  | none => ok s
  | some acc =>
    if !s.tileRuns tile ∨ tl.asleep ∨ !accessValid acc ∨ (tl.acquiring ∧ !acc.write) then ok s
    else
      let remote := acc.module.filter (fun m => m.toNat ≠ s.ownAddress)
      let parts := (requestParts acc.bytes).length
      let tags := if remote.isSome then s.freeTags parts else []
      if 32 ≤ tl.outstanding ∨ !s.channelsFree { acc with module := remote } ∨ (remote.isSome ∧ tags.length < parts) ∨ !remote.all (fun m => s.linkHasCredit m.toNat acc) then
        ok (if issuer = .scalar then s.holdTile tile .transactions else s)
      else
        let a := acc.addr.toNat
        let refused := remote.isNone && targetOf a = .dram && !s.fwGrants acc.write n a acc.bytes
        let tr : Transaction := ⟨tl.nextTrans, s.market.nextSeq, issuer, if remote.isSome then acc else { acc with module := none }⟩
        let sh := if issuer = .scalar ∧ tl.hold = .transactions then s.endHold tile else s
        let sa := sh.modTile tile (fun x => x.afterIssue issuer acc)
        if refused then
          let s1 := if acc.write then sa else sa.deliverRead tile tr (List.replicate acc.bytes 0)
          ok (s1.tileFault tile 0x0304)
        else
          let sb : State := { sa with market := { sa.market with nextSeq := sa.market.nextSeq + 1 } }
          let s1 := (sb.modTile tile (fun x => { x with trans := x.trans ++ [tr], nextTrans := x.nextTrans + 1 })).showOutstanding tile
          match remote with
          | none => ok s1
          | some m => ok (s1.sendRequests tile tl.nextTrans m.toNat acc tags)

/-- READ_RESP (R292). -/
def execReadResp (t : Nat) (h : BitVec 192) (data : List Byte) (s0 : State) : Host.Outcome State Fault Refusal :=
  ok ((s0.advance t).takeAnswer (hTag h) false data)

/-- WRITE_ACK (R292). -/
def execWriteAck (t : Nat) (h : BitVec 192) (s0 : State) : Host.Outcome State Fault Refusal :=
  ok ((s0.advance t).takeAnswer (hTag h) false [])

/-- PULL_RESP: delivered to the request of its tag (R292, R312). -/
def execPullResp (t : Nat) (h : BitVec 192) (data : List Byte) (s0 : State) : Host.Outcome State Fault Refusal :=
  ok ((s0.advance t).takeAnswer (hTag h) false data)

/-- ERROR_RESP: the request completes with an error (R110, R290). -/
def execErrorResp (t : Nat) (h : BitVec 192) (s0 : State) : Host.Outcome State Fault Refusal :=
  ok ((s0.advance t).takeAnswer (hTag h) true [])

/-- RESPONSE_TIMEOUT: a request without an answer for Response Timeout completes with an error; its tag rests for twice the timeout
(R292). -/
def execResponseTimeout (t : Nat) (tag : BitVec 12) (s0 : State) : Host.Outcome State Fault Refusal :=
  let s := s0.advance t
  let lim := 1000 * s.nat Ob.responseTimeout
  if s.link.requests.any (fun r => r.tag == tag.toNat && r.answer.isNone && decide (r.sentAt + lim ≤ s.time)) then
    let s1 : State := { s with link := { s.link with quarantine := s.link.quarantine ++ [(tag.toNat, s.time + 2 * lim)] } }
    ok (s1.takeAnswer tag.toNat true [])
  else ok s

/-- TAG_REUSE_EXPIRY: twice the timeout has passed, the tag is free again, and an issuer held for one goes on (R292). -/
def execTagReuseExpiry (t : Nat) (tag : BitVec 12) (s0 : State) : Host.Outcome State Fault Refusal :=
  let s := s0.advance t
  let out := fun (q : Nat × Nat) => q.1 == tag.toNat && decide (q.2 ≤ s.time)
  if s.link.quarantine.any out then
    ok { s with link := { s.link with quarantine := s.link.quarantine.filter (fun q => !out q) } }.releaseTagHolds
  else ok s

/-! ## Time transfer (R296 to R298, R270) -/

/-- The time distance this module sends (R298): 0 of a time master, one more than the upstream port received, else unknown. -/
def State.distanceNow (s : State) : Nat :=
  if s.nat Ob.timeSource ≠ 2 then 0
  else
    let p := s.nat Ob.timeUpstreamPort
    if p < 4 ∧ s.linkUp p ∧ !s.hostMode p then min 0x3FFFF ((s.linkPort p).distance + 1) else 0x3FFFF

/-- TIMING_BLOCK_SEND: an UP port in fabric mode sends device time and distance (R296, Table 11-4). -/
def execTimingBlockSend (t : Nat) (p : Fin 4) (s0 : State) : Host.Outcome State Fault Refusal :=
  let s := s0.advance t
  if !s.linkUp p ∨ s.hostMode p then ok s
  else
    let d := s.distanceNow
    ok ((s.setNat Ob.timeDistance d).modLink p (fun l =>
      { l with block := some (BitVec.ofNat 56 (put 52 4 2 + put 18 34 s.time + put 0 18 d)) }))

/-- A time whose low bits are given, nearest to a reference. -/
def nearestMod (w : Nat) (ref low : Int) : Int :=
  let m : Int := (2 ^ w : Nat)
  ref + ((low - ref + m / 2) % m - m / 2)

/-- TIMING_BLOCK_RECEIVE: the block's arrival in ps against the sender's time (R296, R297), corrected by the deskew loop
(R270). -/
def execTimingBlockReceive (t : Nat) (p : Fin 4) (content : BitVec 52) (arrivalPs : Int) (s0 : State) : Host.Outcome State Fault Refusal :=
  let s := s0.advance t
  if !s.linkUp p ∨ s.hostMode p then ok s
  else
    let sent := nearestMod 34 (s.time : Nat) (field content.toNat 18 34 : Nat)
    let m := arrivalPs - 1000 * sent - s.num (Ob.deskewCorrection p)
    let s1 := s.modLink p (fun l => { l with skip := false, sum := l.sum + m, count := l.count + 1, distance := field content.toNat 0 18 })
    if s.nat Ob.timeUpstreamPort = p ∧ s.nat Ob.timeSource = 2 then ok (s1.setNat Ob.timeDistance s1.distanceNow) else ok s1

/-- TIME_MESSAGE_SEND: the mean over the millisecond goes to the neighbour (R297). -/
def execTimeMessageSend (t : Nat) (p : Fin 4) (s0 : State) : Host.Outcome State Fault Refusal :=
  let s := s0.advance t
  let l := s.linkPort p
  if !s.linkUp p ∨ s.hostMode p ∨ l.count = 0 then ok s
  else
    let m := meanOf l.sum l.count
    ok ((s.modLink p (fun l => { l with sum := 0, count := 0, mIn := some m })).sendLocal p 0x21 (s.time / 2 ^ 34 % 2 ^ 30) (unsigned 48 m))

/-- TIME: link delay and offset to the neighbour (R297); from a host it is counted and discarded (R300). -/
def execTime (t : Nat) (p : Fin 4) (_a : BitVec 32) (b : BitVec 48) (s0 : State) : Host.Outcome State Fault Refusal :=
  let s := s0.advance t
  if !s.linkUp p then ok s
  else if s.hostMode p then ok (s.linkCount p 8 1)
  else match (s.linkPort p).mIn with
    | none => ok s
    | some m =>
      let nb := signed 48 b.toNat
      let d := (m + nb).tdiv 2
      let o := (m - nb - s.num (Ob.linkAsymmetry p)).tdiv 2
      let jump := match (s.linkPort p).offset with
        | some prev => decide (100000 < Int.natAbs (o - prev))
        | none => false
      ok (((s.setAll [(Ob.linkDelay p, (unsigned 32 d : Nat)), (Ob.neighbourOffset p, o)]).modLink p (fun l => { l with offset := some o })).raiseIf jump 0x0907 p)

/-- LINK_DESKEW_CORRECTION: the delay correction moves by at most 250 ps (R270). -/
def execLinkDeskewCorrection (t : Nat) (p : Fin 4) (ps : Int) (s0 : State) : Host.Outcome State Fault Refusal :=
  let s := s0.advance t
  if s.linkUp p then ok (s.setNum (Ob.deskewCorrection p) (clampInt (-2147483648) 2147483647 (s.num (Ob.deskewCorrection p) + clampInt (-250) 250 ps)))
  else ok s

/-! ## Host mode (R299, R300) -/

/-- LINK: in host mode acknowledgement, NAK and credits (R300). Field B holds 48 bits of a link block's content, all but the
lowest 4, which are reserved (log entry 38). -/
def execLink (t : Nat) (p : Fin 4) (b : BitVec 48) (s0 : State) : Host.Outcome State Fault Refusal :=
  let s := s0.advance t
  if !(s.linkUp p && s.hostMode p) then ok s
  else
    let n := 16 * b.toNat
    let s1 := s.modLink p (fun l =>
      (List.range 4).foldl (fun l c => addCredits l c (field n (31 - 8 * c) 8)) { l with retry := ackRetry (field n 40 12) l.retry }) |>.progress (66 + p)
    ok ((if bitAt n 39 then s1.resend p else s1).pump p)

/-- Whether a frame is one whole flit of the host: EtherType 0x88B5, no tag, its payload one flit padded to the minimum
(R299). The frame is given without its FCS. -/
def hostFrameOk (frame : List Byte) : Bool :=
  let h := BitVec.ofNat 192 (leAt frame 14 24)
  let n := 32 + 64 * hUnits h
  decide (ofBeBytes (bytesAt frame 12 2) = 0x88B5) && decide (hUnits h ≤ 16) && frame.length == 14 + max 46 n

/-- HOST_MODE_FRAME: a received frame is checked and its flit taken (R299, R300). -/
def execHostModeFrame (t : Nat) (p : Fin 4) (fcsOk : Bool) (frame : List Byte) (s0 : State) : Host.Outcome State Fault Refusal :=
  let s := s0.advance t
  if !(s.hostMode p && s.on (Ob.linkPortEnable p)) then ok s
  else
    let bad := (s.linkCount p 8 1).raise 0x0908 p
    if !fcsOk then ok (if s.linkUp p then bad.nak p else bad)
    else
      let h := BitVec.ofNat 192 (leAt frame 14 24)
      if !hostFrameOk frame ∨ hSrc h ≠ s.nat (Ob.hostAddress p) then ok bad
      else
        let s1 := s.modLink p (fun l => { l with learned := ofBeBytes (bytesAt frame 6 6), skip := false })
        if !s.linkUp p then ok s1
        else
          let n := 64 * hUnits h
          ok ((s1.takeHeader p h).takeTrailer p (bytesAt frame 38 n) (BitVec.ofNat 64 (leAt frame (38 + n) 8)))

/-! ## The street map (R288) -/

/-- Whether the entries of a map are in range: codes 0 to 3 and 7, no reserved bit (R288). -/
def mapOk : List Byte → Bool
  | lo :: hi :: bs =>
    let e := ofLeBytes [lo, hi]
    let code := fun (c : Nat) => decide (c ≤ 3) || c == 7
    decide (e < 64) && code (e % 8) && code (e / 8) && mapOk bs
  | _ => true

/-- A written map fills the inactive copy and waits for the swap (R288; log entry 39). -/
def State.applyMap (s : State) (k : Nat) (bs : List Byte) : State :=
  let s1 := s.setDom k bs
  { s1 with link := { s1.link with swap := true } }

/-- STREET_MAP_SWAP: at the flit boundary of all ports both tables swap (R288). -/
def execStreetMapSwap (t : Nat) (s0 : State) : Host.Outcome State Fault Refusal :=
  let s := s0.advance t
  if !s.link.swap then ok s
  else
    let s1 := s.count 32 Ob.mapSwaps 1
    ok { s1 with link := { s1.link with region := some (s.domBytes Ob.streetRegionMap 0 1024), local_ := some (s.domBytes Ob.localMap 0 1024),
                                        swap := false, mirrorDue := true } }

/-- MAP_FLASH_MIRROR: the Lodge writes the active copy to its mirror (R288). -/
def execMapFlashMirror (t : Nat) (s0 : State) : Host.Outcome State Fault Refusal :=
  let s := s0.advance t
  if !s.link.mirrorDue then ok s
  else
    let bytes := fun (m : Option (List Byte)) => m.getD ((List.range 1024).map (fun i => if i % 2 = 0 then 0x3F else 0))
    ok { s with link := { s.link with mirror := some (bytes s.link.region, bytes s.link.local_), mirrorDue := false } }

end Sys2Proof.Machine
end

