-- ==== Sys2Proof/Machine/Security.lean ====
section
/-! DEFINITION. Roles and sessions (R342, R408 to R410), the audit log (R416), the protection set-up (R411 to R415), random
numbers (R404) and the certified configuration (R417, R418). -/

namespace Sys2Proof.Machine

/-! ## The audit log -/

/-- An entry written to the audit log (R416); when the ring wraps, notice 0x0C05. -/
def State.auditEntry (s : State) (kind port role index sub : Nat) (detail : List Byte) : State :=
  let n := s.sec.audited
  let e : AuditEntry := ⟨s.time, kind, port, role, index, sub, padTo 16 detail⟩
  let s1 := { s with sec := { s.sec with audit := (e :: s.sec.audit).take 4096, audited := n + 1 } }
  let s2 := s1.setNat Ob.auditNewest (n % 4096)
  if 0 < n ∧ n % 4096 = 0 then (s2.count 32 Ob.auditWraps 1).raise 0x0C05 noUnit else s2

/-- An entry of the device itself. -/
def State.auditOwn (s : State) (kind : Nat) (detail : List Byte) : State := s.auditEntry kind 0 0 0 0 detail

/-- The 32 bytes of an entry (Table 17-5). -/
def auditBytes (e : AuditEntry) : List Byte :=
  leBytes 8 e.stamp ++ leBytes 1 e.kind ++ leBytes 1 e.port ++ leBytes 1 e.role ++ [0] ++ leBytes 2 e.index ++ leBytes 1 e.sub ++ [0]
    ++ e.detail

/-- The bytes of the ring: entry i of the log stands at place i modulo 4,096. -/
def auditRing (l : List AuditEntry) (n : Nat) : List Byte :=
  (List.range 4096).flatMap (fun i =>
    match l[(n - 1 + 4096 - i % 4096) % 4096]? with
    | some e => auditBytes e
    | none => List.replicate 32 0)

/-- AUDIT_LOG_FLASH_MIRROR: new entries go to flash (R416). -/
def execAuditLogFlashMirror (t : Nat) (s0 : State) : Host.Outcome State Fault Refusal :=
  let s := s0.advance t
  ok { s with flash := { s.flash with audit := s.sec.audit, audited := s.sec.audited, wraps := s.nat Ob.auditWraps } }

/-! ## Sessions (R408 to R410) -/

/-- The session of a port; the PDO port has the mailbox session's (R408). -/
def State.session (s : State) (m : Master) : Session :=
  match m with
  | .canFd => s.sec.canFd
  | _ => s.sec.mailbox

/-- The session of a port changed. -/
def State.setSession (s : State) (m : Master) (x : Session) : State :=
  match m with
  | .canFd => { s with sec := { s.sec with canFd := x } }
  | _ => { s with sec := { s.sec with mailbox := x } }

/-- The role a request comes with: 0 none, 1 Observer, 2 Operator, 3 Integrator, 4 Owner (R342, R408). -/
def State.roleOf (s : State) (m : Master) : Nat :=
  match m with
  | .pdo => min 2 s.sec.mailbox.role
  | .mailbox => s.sec.mailbox.role
  | .canFd => s.sec.canFd.role

/-- The code of a port's session (R409): 1 the mailbox, 3 CAN FD. -/
def sessionPort (m : Master) : Nat :=
  match m with
  | .canFd => 3
  | _ => 1

/-- A session that ends, with its audit entry (R410, Table 17-5). -/
def State.closeSession (s : State) (m : Master) (byPort : Nat) : State :=
  let x := s.session m
  if x.role = 0 then s
  else (s.setSession m { x with role := 0 }).auditEntry 3 byPort x.role 0 0 [BitVec.ofNat 8 x.role]

/-- The instant of a port's last request (R410). -/
def State.touch (s : State) (m : Master) : State :=
  match m with
  | .pdo => s
  | _ => s.setSession m { s.session m with lastRequest := s.time }

/-- Whether a port's challenge reads are locked: within 1 s of the last of four failures in a row (R409). -/
def State.challengeLocked (s : State) (m : Master) : Bool :=
  let x := s.session m
  decide (4 ≤ x.failures ∧ s.time < x.failedAt + 1000000000)

/-- An upload of Session Challenge: 32 new bytes of the generator, or zeros while it is locked or the generator has failed
(R404, R409; log entry 11). -/
def State.readChallenge (s : State) (m : Master) : List Byte × State :=
  if s.challengeLocked m ∨ s.on Ob.trngHealth then
    (List.replicate 32 0, s.setSession m { s.session m with challenge := none })
  else
    let bs := (List.range 32).map (fun i => BitVec.ofNat 8 (Config.drbg s.sec.draws i))
    let s1 := { s with sec := { s.sec with draws := s.sec.draws + 1 } }
    (bs, s1.setSession m { s1.session m with challenge := some (s.time, bs) })

/-- The key of a role: Role Key i is that of role 5 − i (Table 14-5). -/
def State.keyOfRole (s : State) (role : Nat) : List Byte := s.domBytes (Ob.roleKey (4 - role)) 0 32

/-- Whether a Session Response is right: a valid challenge not older than 10 s, no failed generator, and the HMAC of
challenge, role and port (R404, R409). -/
def State.responseOk (s : State) (m : Master) (data : List Byte) : Bool :=
  let role := leAt data 0 1
  match (s.session m).challenge with
  | none => false
  | some (at_, c) =>
    !s.on Ob.trngHealth && decide (s.time < at_ + 10000000000) && decide (1 ≤ role ∧ role ≤ 4) &&
      decide (leAt data 1 7 = 0) &&
      bytesAt data 8 32 == hmac256 (s.keyOfRole role) (c ++ [BitVec.ofNat 8 role, BitVec.ofNat 8 (sessionPort m)])

/-- A right Session Response: the port takes the role and the challenge is spent (R409). -/
def State.openSession (s : State) (m : Master) (role : Nat) : State :=
  (s.setSession m { role := role, challenge := none, failures := 0, failedAt := 0, lastRequest := s.time }).auditEntry 1
    (sessionPort m) role 0x2D01 2 [BitVec.ofNat 8 role]

/-- A wrong Session Response: noticed, counted, logged (R409, R416). -/
def State.failResponse (s : State) (m : Master) (role : Nat) : State :=
  let x := s.session m
  let s1 := (s.setSession m { x with failures := x.failures + 1, failedAt := s.time }).count 32 Ob.failedResponses 1
  (s1.raise 0x0C02 noUnit).auditEntry 2 (sessionPort m) (s.roleOf m) 0x2D01 2 [BitVec.ofNat 8 role]

/-- SESSION_TIMEOUT: Session Timeout has passed without a request on the port (R410). -/
def execSessionTimeout (t : Nat) (m : Master) (s0 : State) : Host.Outcome State Fault Refusal :=
  let s := s0.advance t
  let x := s.session m
  let lim := s.nat Ob.sessionTimeout
  if x.role ≠ 0 ∧ lim ≠ 0 ∧ x.lastRequest + lim * 1000000000 ≤ s.time then
    ok ((s.closeSession m 0).raise 0x0C03 noUnit)
  else ok s

/-- A Role Key changed: other sessions with its role end (R403). -/
def State.applyRoleKey (s : State) (m : Master) (i : Nat) (data : List Byte) : State :=
  let role := 4 - i
  let changed := s.domBytes (Ob.roleKey i) 0 32 ≠ data
  let s1 := s.setDom (Ob.roleKey i) data
  let close := fun (s : State) (o : Master) =>
    if changed ∧ (s.session o).role = role ∧ sessionPort o ≠ sessionPort m then s.closeSession o (m.code) else s
  let s2 := close (close s1 .mailbox) .canFd
  s2.auditEntry 8 m.code (s.roleOf m) 0x2D02 (i + 1) (sha384 data)

/-! ## Access rights (R342, R354, R412) -/

/-- Whether an entry of the Access Rights Table is in range (R354, Table 14-5). -/
def accessEntryOk (e : Nat) : Bool :=
  let idx := field e 0 16
  decide (¬ (0x2D00 ≤ idx ∧ idx ≤ 0x2DFF)) && decide (field e 32 4 ≤ 4 ∧ field e 36 4 ≤ 4 ∧ field e 40 24 = 0)

/-- Whether an Access Rights Table is in range. -/
def accessRightsOk (bs : List Byte) : Bool := (List.range (bs.length / 8)).all (fun i => accessEntryOk (leAt bs (8 * i) 8))

/-- The bytes of the Access Rights Table. -/
def State.accessTable (s : State) : List Byte := (s.doms.find? Ob.accessRightsTable).getD []

/-- Whether an entry covers an object. -/
def accessCovers (e k : Nat) : Bool :=
  decide (field e 0 16 = k / 256 ∧ field e 16 8 ≤ k % 256 ∧ k % 256 ≤ field e 24 8)

/-- The entry that governs an object: the last that covers it (R412); none for 0x2D00 to 0x2DFF. -/
def accessEntryFor (bs : List Byte) (k : Nat) : Option Nat :=
  if 0x2D00 ≤ k / 256 ∧ k / 256 ≤ 0x2DFF then none
  else (((List.range (bs.length / 8)).map (fun i => leAt bs (8 * i) 8)).filter (fun e => accessCovers e k)).getLast?

/-- The role of an access by its object table: the Role column, with reads of rw objects open to Observer (R340). -/
def tableRole (write : Bool) (r : ObjRow) : Nat := if !write && r.acc == .rw then 1 else r.role

/-- The role an access needs (R342). -/
def State.needRole (s : State) (write : Bool) (k : Nat) (r : ObjRow) : Nat :=
  match accessEntryFor s.accessTable k with
  | some e => if write then field e 36 4 else field e 32 4
  | none => if k = Ob.debugReadAddress ∧ !write then 1 else tableRole write r

/-- The lowest role of an object of an index range that a table sets below its Role column (R418). -/
def loosens (bs : List Byte) : Bool :=
  (List.range (bs.length / 8)).any (fun i =>
    let e := leAt bs (8 * i) 8
    (List.range (field e 24 8 + 1)).any (fun sub =>
      decide (field e 16 8 ≤ sub) && (match objRow (field e 0 16 * 256 + sub) with
        | some r => (r.acc != .ro && decide (field e 36 4 < tableRole true r)) || (r.acc != .wo && decide (field e 32 4 < tableRole false r))
        | none => false)))

/-! ## The protection set-up (R411 to R415) -/

/-- A part of the protection set-up replaced whole, logged and noticed (R411). -/
def State.applyProtection (s : State) (m : Master) (k kind : Nat) (data : List Byte) : State :=
  ((s.setDom k data).auditEntry kind m.code (s.roleOf m) (k / 256) (k % 256) (sha384 data)).raise 0x0C04 noUnit

/-- Package Keys replaced whole and logged (R403, Table 17-5); they are no part of the protection set-up, so no notice follows (R411). -/
def State.applyPackageKeys (s : State) (m : Master) (data : List Byte) : State :=
  (s.setDom Ob.packageKeys data).auditEntry 9 m.code (s.roleOf m) (Ob.packageKeys / 256) (Ob.packageKeys % 256) (sha384 data)

/-- Whether one firewall region is in range (Table 17-3). -/
def regionOk (e : List Byte) : Bool :=
  decide (leAt e 0 8 % 4096 = 0 ∧ leAt e 8 8 % 4096 = 0 ∧ leAt e 0 8 + leAt e 8 8 ≤ 0x1C0000000
    ∧ leAt e 16 2 < 0x2000 ∧ leAt e 18 2 < 0x1000 ∧ leAt e 20 1 ≤ 1 ∧ leAt e 21 11 = 0)

/-- Whether a DRAM Firewall write is in range: the Owner's regions are well laid out, and the loader's equal their contents
(R413). -/
def State.firewallOk (s : State) (bs : List Byte) : Bool :=
  (List.range 32).all (fun i => if i < 16 then regionOk (bytesAt bs (32 * i) 32) else bytesAt bs (32 * i) 32 == s.domBytes Ob.dramFirewall (32 * i) 32)

/-- Whether one port filter is in range (Table 17-4). -/
def portFilterOk (e : List Byte) : Bool :=
  decide (leAt e 0 1 ≤ 1 ∧ leAt e 1 1 = 0 ∧ leAt e 2 2 < 64 ∧ leAt e 4 1 ≤ 4 ∧ leAt e 6 2 < 512 ∧ leAt e 40 24 = 0)

/-- Whether a Port Filters write is in range. -/
def portFiltersOk (bs : List Byte) : Bool := (List.range 4).all (fun i => portFilterOk (bytesAt bs (64 * i) 64))

/-- Debug Lock written (R411, R415). -/
def State.applyDebugLock (s : State) (m : Master) (v : Nat) : State :=
  ((s.setNat Ob.debugLock v).auditEntry 7 m.code (s.roleOf m) 0x2D00 5 (sha384 [BitVec.ofNat 8 v])).raise 0x0C04 noUnit

/-- An upload of Debug Read Data: 64 bytes at Debug Read Address, or zeros where the lock or the firewall refuses, with notice
0x0C08 (R413, R415). -/
def State.readDebug (s : State) : List Byte × State :=
  let a := s.nat Ob.debugReadAddress
  let granted : Bool := match targetOf a with
    | .dram => s.fwGrants false 12 a 64
    | .scratch _ => true
    | .reserved => false
  if s.nat Ob.debugLock = 0 ∧ granted then (Memory.readBytes s.mem a 64, s)
  else (List.replicate 64 0, s.raise 0x0C08 noUnit)

/-! ## Random numbers (R404) -/

/-- TRNG_TEST_FAIL: a health test fails (R404). -/
def execTrngTestFail (t : Nat) (s0 : State) : Host.Outcome State Fault Refusal :=
  let s := s0.advance t
  ok ((s.setNat Ob.trngHealth 1).raise 0x0C06 noUnit)

/-- TRNG_RETEST: the retest of a failed source passes or fails (R404). -/
def execTrngRetest (t : Nat) (pass : Bool) (s0 : State) : Host.Outcome State Fault Refusal :=
  let s := s0.advance t
  if s.on Ob.trngHealth ∧ pass then ok (s.setNat Ob.trngHealth 0) else ok s

/-! ## The certified configuration (R417, R418) -/

/-- Whether every Role Key differs from its factory value (R417). -/
def State.keysChanged (s : State) : Bool :=
  (List.range 4).all (fun i => s.domBytes (Ob.roleKey i) 0 32 != (List.range 32).map (dfltDomByte (Ob.roleKey i)))

/-- Whether the certified configuration may be entered (R417). -/
def State.mayCertify (s : State) : Bool :=
  decide (1 ≤ s.nat Ob.debugLock ∧ 10 ≤ s.nat Ob.sessionTimeout ∧ s.nat Ob.sessionTimeout ≤ 3600) && s.keysChanged
    && !s.on Ob.trngHealth && decide (s.nat Ob.secureBootState = 0)

/-- Certified Command: 1 enters and clears every Provocation Enable, 2 leaves; both are logged (R417, R418). -/
def State.applyCertified (s : State) (m : Master) (v : Nat) : State :=
  if v = 1 then
    ((s.setNat Ob.certifiedConfiguration 1).clearProvocation).auditEntry 10 m.code (s.roleOf m) 0x2D00 4 (sha384 [1])
  else (s.setNat Ob.certifiedConfiguration 0).auditEntry 11 m.code (s.roleOf m) 0x2D00 4 (sha384 [2])

/-- Whether the certified configuration locks a write (R418). -/
def State.certLocks (s : State) (k : Nat) (data : List Byte) : Bool :=
  s.on Ob.certifiedConfiguration &&
    (decide (0x2B40 ≤ k / 256 ∧ k / 256 ≤ 0x2B47) || k == Ob.debugReadAddress || k == Ob.restoreDefaultParameters
      || ((k == Ob.debugLock || k == Ob.sessionTimeout) && ofLeBytes data == 0)
      || (k == Ob.accessRightsTable && loosens data))

/-- FIRMWARE_FOE_WRITE: in Bootstrap, from an Owner session on the mailbox, an image that verifies is stored in the slot that
is not running, and becomes primary at the next start (R401). -/
def execFirmwareFoeWrite (t : Nat) (image : Firmware) (s0 : State) : Host.Outcome State Fault Refusal :=
  let s := s0.advance t
  if s.nat Ob.ethercatState ≠ 3 ∨ s.sec.mailbox.role ≠ 4 ∨ !image.signatureOk ∨ image.version < s.sec.fusedMin then ok s
  else
    let sec := match s.sec.running with
      | .none => { s.sec with primary := some image, stored := false }
      | .primary => { s.sec with fallback := some image, stored := true }
      | .fallback => { s.sec with primary := some image, stored := false }
    ok ({ s with sec := sec }.auditEntry 13 1 4 0 0 (leBytes 16 image.sha.toNat))

end Sys2Proof.Machine
end

