-- ==== Sys2Proof/Machine/Packages.lean ====
section
/-! DEFINITION. Flash slots, loading and committing packages (R357, R407, R419 to R430), and the built-in test (R358). -/

namespace Sys2Proof.Machine

/-! ## Flash slots (R430) -/

/-- The bytes of Package Keys slot `i`. -/
def State.keyAt (s : State) (i : Nat) : List Byte := s.domBytes Ob.packageKeys (97 * i) 97

/-- Whether a Package Keys slot is empty (R403). -/
def State.keyEmpty (s : State) (i : Nat) : Bool := (s.keyAt i).all (· == 0)

/-- Whether the signature of a package in a flash slot verifies now: it verified when it was written, by a key that still
stands (R407; log entry 15). -/
def State.verifies (s : State) (slot : Nat) (p : Package) : Bool :=
  !s.keyEmpty p.signerKey.val && s.loader.keys.find? slot == some (s.keyAt p.signerKey.val)

/-- Whether the device can read a package's payload: it is plain, or opened by this module's Owner key (R406). -/
def State.opens (s : State) (p : Package) : Bool := !p.encrypted || (p.recipientOk && p.tagOk && !s.on Ob.trngHealth)

/-- The objects of a flash slot as its contents stand (Table 14-7; log entry 55). -/
def State.showSlot (s : State) (i : Nat) : State :=
  match s.loader.slots.find? i with
  | none =>
    ((s.setAll [(Ob.slotState i, if s.loader.writing.contains i then 3 else 0), (Ob.packageVersion i, 0), (Ob.slotSize i, 0),
      (Ob.signerKey i, 0xFF)]).setDom (Ob.slotName i) []).setDom (Ob.resourceHeader i) (List.replicate 256 0)
  | some p =>
    let good := (s.loader.keys.find? i).isSome
    let readable := good && s.opens p
    ((s.setAll [(Ob.slotState i, if s.loader.writing.contains i then 3 else if good then 1 else 2),
      (Ob.packageVersion i, if readable then (p.version.toNat : Int) else 0), (Ob.slotSize i, (p.bytes : Int)),
      (Ob.signerKey i, if good then (p.signerKey.val : Int) else 0xFF)]).setDom (Ob.slotName i) (if readable then padTo 32 p.name else [])).setDom
      (Ob.resourceHeader i) (if readable then padTo 256 p.header else List.replicate 256 0)

/-- Whether a LOAD is reading a flash slot. -/
def State.loadReads (s : State) (slot : Nat) : Bool :=
  match s.loader.load with
  | some l => l.1 == slot
  | none => false

/-- Whether the EtherCAT mailbox carries packages over FoE in its state (R430, Table 13-5). -/
def State.mayWritePackage (s : State) : Bool :=
  decide (s.nat Ob.ethercatState = 2 ∨ s.nat Ob.ethercatState = 4 ∨ s.nat Ob.ethercatState = 8)

/-- The FoE error that refuses a package write to a slot, 0 where it is taken: the role is lower than Integrator, a LOAD is reading the
slot, the package is too long (R430). -/
def State.foeRefuses (s : State) (slot : Nat) (phase : FoePhase) : Nat :=
  if s.sec.mailbox.role < 3 then 0x800A
  else if s.loadReads slot then 0x8002
  else match phase with
    | .finish p => if 201326592 < p.bytes then 0x8003 else 0
    | .begin => 0

/-- The FoE error of a package write noted. -/
def State.noteFoe (s : State) (e : Nat) : State := { s with ctrl := { s.ctrl with foeError := e } }

/-- PACKAGE_FOE_WRITE: a package is written into a flash slot; when it ends its signature is verified. A refused write leaves
the slot unchanged (R430). -/
def execPackageFoeWrite (t : Nat) (slot : Fin 8) (phase : FoePhase) (s0 : State) : Host.Outcome State Fault Refusal :=
  let sf := s0.advance t
  let e := sf.foeRefuses slot phase
  let s := if sf.mayWritePackage then sf.noteFoe e else sf
  if !s.mayWritePackage then ok s
  else if e ≠ 0 then
    ok (if e = 0x8003 then { s with loader := { s.loader with writing := s.loader.writing.filter (· != slot.val) } }.showSlot slot else s)
  else match phase with
    | .begin =>
      if s.loader.writing.contains slot.val then ok s
      else ok ({ s with loader := { s.loader with writing := slot.val :: s.loader.writing } }.showSlot slot)
    | .finish p =>
      if !s.loader.writing.contains slot.val then ok s
      else
        let l := { s.loader with writing := s.loader.writing.filter (· != slot.val) }
        let good := p.signatureOk && !s.keyEmpty p.signerKey.val
        let l2 := { l with slots := l.slots.set slot p,
                           keys := if good then l.keys.set slot (s.keyAt p.signerKey.val) else l.keys.del slot }
        ok ({ s with loader := l2 }.showSlot slot)

/-- ERASE: the slot is emptied (R357). -/
def State.applyErase (s : State) (slot : Nat) : State :=
  { s with loader := { s.loader with slots := s.loader.slots.del slot, keys := s.loader.keys.del slot } }.showSlot slot

/-! ## Content checks (R103, R180, R196, R419) -/

/-- The registers a scalar slot writes; g0 takes no write (R105). -/
def scalarWrites (sl : ScalarSlot) : List Nat :=
  let w : Bool := match sl.op with
    | .load => true
    | op => (scalarResult op 0 0).isSome
  if w ∧ sl.dst ≠ 0 then [sl.dst.val] else []

/-- The registers a vector slot writes, numbered from 100. -/
def vectorWrites (sl : VectorSlot) : List Nat := if sl.op = .nop ∨ sl.op = .seed then [] else [100 + sl.dst.val]

/-- The registers slots 4 to 7 write. -/
def lateWrites (b : Bundle) : List Nat :=
  let g := fun (r : GReg) => if r = 0 then [] else [r.val]
  let ag := fun (a : AgSlot) => if a.op = .readStatus then g a.dreg else []
  (if b.s4.op = .drain then [100 + b.s4.vsrc.val] else []) ++ ag b.s5 ++ ag b.s6
    ++ (match b.s7.op with
      | .test _ _ dst => g dst
      | .neuron (.stepStatus dst) => g dst
      | _ => [])

/-- Whether no two slots of a bundle write the same register (R103). -/
def bundleOk (b : Bundle) : Bool :=
  let w := scalarWrites b.s0 ++ scalarWrites b.s1 ++ vectorWrites b.s2 ++ vectorWrites b.s3 ++ lateWrites b
  decide (w.eraseDups.length = w.length)

/-- Whether an operand can be read, and whether it can be written at a state width (Table 7-3). -/
def readable (d : Nat) : Bool := decide (d < 24)
/-- Whether an operand can be written. -/
def writable (wide : Bool) (d : Nat) : Bool := decide (d < 4 ∧ (wide → d < 2)) || decide (16 ≤ d ∧ d < 24)

/-- Whether a micro-operation is one of Table 7-4 with readable and writable operands and its reserved fields zero (R180). -/
def microOpOk (wide : Bool) (w : BitVec 32) : Bool :=
  let n := w.toNat
  let op := field n 26 6
  let d := field n 21 5
  let a := field n 16 5
  let b := field n 11 5
  let low := field n 0 11 == 0
  if op = 0 ∨ op = 0x11 ∨ op = 0x12 ∨ op = 0x13 then d == 0 && a == 0 && b == 0 && low
  else if op = 1 ∨ op = 0x0B then writable wide d && readable a && b == 0 && low
  else if op = 2 then writable wide d && a == 0
  else if op = 0x0C ∨ op = 0x0D ∨ op = 0x0E then d == 0 && readable a && readable b && low
  else if op = 0x10 then writable wide d && a == 0 && b == 0 && low
  else decide (op < 0x14) && writable wide d && readable a && readable b && low

/-- Whether a route entry of a placement is well formed and its target a neuron of the placement (R196). -/
def routeEntryOk (p : Placement) (e : BitVec 64) : Bool :=
  let v := e.toNat
  let kind := field v 62 2
  field v 0 23 == 0 &&
    (if kind = 0 then p.neurons.any (fun x => x.tileOff == field v 56 6 && x.num == field v 43 13)
     else decide (kind < 3) && field v 56 6 == 0 && field v 23 20 == 0)

/-- Whether a neuron's route list lies inside the context's range, and its record inside a tile (R196, R176). -/
def neuronOk (p : Placement) (count : Nat) (x : NeuronInit) : Bool :=
  let c := x.control.toNat
  decide (x.num < 8192 ∧ x.tileOff < p.w * p.h ∧ (field c 12 13 = 0 ∨ field c 25 25 + field c 12 13 ≤ count))
    && field c 50 3 == 0 && field c 0 12 == 0

/-- Whether a word is a bundle the loader takes: defined, reserved fields zero, no register written twice (R103). -/
def bundleWordOk (w : BitVec 512) : Bool :=
  match decodeBundle w with
  | some b => bundleOk b
  | none => false

/-- Whether a tile's image keeps the rules of its parts: 1,024 bundles, a delivery ring of a power of two from 4 KiB to 256 KiB (R98), an
ordered list of 512 to 32,768 entries where it has one (R195), neuron programs of 32 operations (R180). -/
def tileImageOk (im : TileImage) : Bool :=
  im.code.all bundleWordOk && decide (im.code.length ≤ 1024) && [4096, 8192, 16384, 32768, 65536, 131072, 262144].contains im.ringSize
    && decide (im.orderedSize = 0 ∨ 512 ≤ im.orderedSize ∧ im.orderedSize ≤ 32768)
    && im.programs.all (fun g => g.code.all (microOpOk g.wide) && decide (g.code.length ≤ 32))

/-- Whether a placement keeps the ranges of Table 18-2 and the rules of its sections (R98, R195, R419). -/
def placementOk (count : Nat) (p : Placement) : Bool :=
  decide (1 ≤ p.w ∧ p.w ≤ 8 ∧ 1 ≤ p.h ∧ p.h ≤ 8 ∧ p.syncObjects ≤ 255 ∧ p.neuronsPerTile ≤ 8192 ∧ p.dramBytes % 4096 = 0
      ∧ p.scratchBytes ≤ 1048576 ∧ 1 ≤ p.derating ∧ p.derating ≤ 1000 ∧ p.tiles.length ≤ p.w * p.h ∧ p.routes.length ≤ count
      ∧ p.subs.length ≤ 32)
    && p.tiles.all tileImageOk
    && p.routes.all (routeEntryOk p) && p.neurons.all (neuronOk p count)

/-- Whether a section 7 entry names an object of a context (R419). -/
def sectionObjectOk (o : Nat × Nat × Nat) : Bool :=
  (o.1 == 0x2410 || o.1 == 0x2510 || o.1 == 0x2610) && (objRow (o.1 * 256 + o.2.1)).isSome

/-- The content checks of the second stage (R422): the package's own layout, the ranges of its header and of its pinned routes (R198),
and for a weight-only package the structure digest of the package the context holds. -/
def State.contentPasses (s : State) (p : Package) (n : Nat) : Bool :=
  p.contentOk && decide (1 ≤ p.placements.length ∧ p.placements.length ≤ 3 ∧ p.routeCount ≤ 33554432 ∧ p.trackSlots ≤ 4096
      ∧ p.subscriptions ≤ 32 ∧ 1 ≤ p.firewallRegions ∧ p.firewallRegions ≤ 4)
    && p.placements.all (placementOk p.routeCount) && p.objects.all sectionObjectOk
    && p.pinned.all (fun off => off % 4096 == 0)
    && (!p.weightOnly || (match (s.ctx n).pkg with
      | some q => q.digest == p.digest
      | none => false))

/-! ## Placement (R423, Table 18-3) -/

/-- Whether a tile is outside every partition and every running built-in test. -/
def State.tileFree (s : State) (t : Nat) : Bool :=
  decide (s.tileCtx t = 0xFF) && (match s.loader.test with
    | some j => !j.tiles.contains t
    | none => true)

/-- The tiles of a rectangle, row by row. -/
def rectTiles (o w h : Nat) : List Nat := (List.range (w * h)).map (fun i => o + 8 * (i / w) + i % w)

/-- Whether a rectangle lies on the mesh and is free. -/
def State.rectFree (s : State) (w h o : Nat) : Bool :=
  decide (o % 8 + w ≤ 8 ∧ o / 8 + h ≤ 8) && (rectTiles o w h).all s.tileFree

/-- The origin a placement takes: its own when fixed, else the first free one (Table 18-3, 1). -/
def State.originFor (s : State) (p : Placement) : Option Nat :=
  match p.origin with
  | some o => if s.rectFree p.w p.h o then some o.val else none
  | none => (List.range 64).find? (s.rectFree p.w p.h)

/-- The lowest base of a free range of `len` in `[lo, hi)` beside the ranges in use. -/
def firstFit (lo hi len : Nat) (used : List (Nat × Nat)) : Option Nat :=
  let fits := fun (b : Nat) => decide (lo ≤ b ∧ b + len ≤ hi) && used.all (fun (u : Nat × Nat) => decide (u.2 = 0 ∨ len = 0 ∨ b + len ≤ u.1 ∨ u.1 + u.2 ≤ b))
  ((lo :: used.map (fun (u : Nat × Nat) => u.1 + u.2)).filter fits).foldl (fun m b => match m with
    | some x => some (min x b)
    | none => some b) none

/-- The contexts that are not EMPTY. -/
def State.heldContexts (s : State) : List Nat := (List.range 8).filter (fun n => s.ctxState n ≠ 0)

/-- The route ranges in use. -/
def State.routeRanges (s : State) : List (Nat × Nat) := s.heldContexts.map (fun n => (s.nat (Ob.routeBase n), s.nat (Ob.routeCount n)))

/-- The DRAM ranges in use. -/
def State.dramRanges (s : State) : List (Nat × Nat) := s.heldContexts.map (fun n => ((s.ctx n).dramBase, (s.ctx n).dramBytes))

/-- The free loader regions of the DRAM firewall (R413). -/
def State.regionsFree (s : State) : List Nat := ((List.range 32).drop 16).filter (fun i => s.fwNat i 20 1 % 2 = 0)

/-- The firewall regions a load takes: those of the package's header, and at least one for the model area and one for a route range
(R413; log entry 56). -/
def regionsFor (pkg : Package) : Nat := max pkg.firewallRegions (if pkg.routeCount = 0 then 1 else 2)

/-- Where a placement goes: origin, route base, DRAM base. -/
structure Fit where
  origin : Nat
  routeBase : Nat
  dramBase : Nat
  deriving DecidableEq, Repr

/-- Table 18-3 for one placement: where it goes, or the code of its first failing condition with the amounts needed and
free. -/
def State.fit (s : State) (pkg : Package) (p : Placement) : Except (Nat × Nat × Nat) Fit :=
  let slots := sumNat (s.heldContexts.map (fun n => ((s.ctx n).pkg.map (·.trackSlots)).getD 0))
  let subs := sumNat (s.heldContexts.map (fun n => (s.ctx n).subs.length))
  match s.originFor p with
  | none => .error (0x0E05, p.w * p.h, ((List.range 64).filter s.tileFree).length)
  | some o =>
    if 8192 < p.neuronsPerTile then .error (0x0E06, p.neuronsPerTile, 8192)
    else if 255 < p.syncObjects then .error (0x0E07, p.syncObjects, 255)
    else match firstFit 0 33554432 pkg.routeCount s.routeRanges with
      | none => .error (0x0E08, pkg.routeCount, 33554432 - sumNat (s.routeRanges.map Prod.snd))
      | some rb =>
        if 4096 < slots + pkg.trackSlots then .error (0x0E09, pkg.trackSlots, 4096 - slots)
        else match firstFit modelBase dramEnd p.dramBytes s.dramRanges with
          | none => .error (0x0E0A, p.dramBytes, dramEnd - modelBase - sumNat (s.dramRanges.map Prod.snd))
          | some db =>
            if 256 < subs + p.subs.length then .error (0x0E0B, p.subs.length, 256 - subs)
            else if s.regionsFree.length < regionsFor pkg then .error (0x0E0C, regionsFor pkg, s.regionsFree.length)
            else .ok ⟨o, rb, db⟩

/-- The first placement that fits with its number, or the failure of the last one tried. -/
def State.place? (s : State) (pkg : Package) : List Placement → Nat → Except (Nat × Nat × Nat × Nat) (Nat × Placement × Fit)
  | [], k => .error (0x0E05, k, 0, 0)
  | p :: rest, k =>
    match s.fit pkg p with
    | .ok f => .ok (k, p, f)
    | .error e => if rest = [] then .error (e.1, k, e.2.1, e.2.2) else State.place? s pkg rest (k + 1)

/-! ## Writing a context (R422, stage 4) -/

/-- A firewall region of the loader. -/
def loaderRegion (n base size : Nat) (write : Bool) : List Byte :=
  leBytes 8 base ++ leBytes 8 size ++ leBytes 2 (2 ^ n) ++ leBytes 2 (if write then 2 ^ n else 0) ++ [1] ++ List.replicate 11 0

/-- A region of the firewall replaced. -/
def State.setRegion (s : State) (i : Nat) (bs : List Byte) : State :=
  s.setDom Ob.dramFirewall ((List.range 1024).map (fun k => if k / 32 = i then bs.getD (k % 32) 0 else s.domByte Ob.dramFirewall k))

/-- The firewall regions of a context: its model area, its route range, where it has one, for reading only (R196, R413), and the further
ones its header asks for, of size 0 (log entry 56). -/
def State.grantRegions (s : State) (n : Nat) (pkg : Package) (p : Placement) (f : Fit) : State :=
  let routeLo := (s.nat Ob.routeTableBase + 8 * f.routeBase) / 4096 * 4096
  let routeHi := roundUp (s.nat Ob.routeTableBase + 8 * (f.routeBase + pkg.routeCount)) 4096
  let regions := [loaderRegion n f.dramBase p.dramBytes true,
    loaderRegion n routeLo (if pkg.routeCount = 0 then 0 else routeHi - routeLo) false] ++ List.replicate 2 (loaderRegion n 0 0 false)
  ((s.regionsFree.zip regions).take (regionsFor pkg)).foldl (fun s r => s.setRegion r.1 r.2) s

/-- A route entry at its place in the device: kind 0 names the tile of the mesh (log entry 54). -/
def routeAt (ts : List Nat) (e : BitVec 64) : BitVec 64 :=
  if field e.toNat 62 2 = 0 then
    BitVec.ofNat 64 (e.toNat - field e.toNat 56 6 * 2 ^ 56 + nth 0 ts (field e.toNat 56 6) * 2 ^ 56)
  else e

/-- A neuron's control word with its route list at the context's range (log entry 54). -/
def controlAt (base : Nat) (c : BitVec 64) : BitVec 64 :=
  BitVec.ofNat 64 (c.toNat - field c.toNat 25 25 * 2 ^ 25 + (field c.toNat 25 25 + base) % 2 ^ 25 * 2 ^ 25)

/-- A tile as a load leaves it: its ring, its neuron unit, the bundles of the layers it does not execute (R98, R138, R177, R178, R195). -/
def loadedTile (base i : Nat) (p : Placement) (skipped : List Nat) : Tile :=
  let im := p.tiles[i]?
  let mine := p.neurons.filter (fun x => x.tileOff == i)
  let u := { NeuronUnit.init with
    neurons := mine.foldl (fun m x => m.set x.num ⟨x.state, [], controlAt base x.control⟩) [],
    programs := (im.map (·.programs)).getD [], params := (im.map (·.params)).getD [],
    orderedCap := (im.map (·.orderedSize)).getD 0, orderedBase := (im.map (·.orderedBase)).getD 0, spikeBase := (im.map (·.spikeMapBase)).getD 0 }
  let skips := (((im.map (·.layerCode)).getD []).filter (fun r => skipped.contains r.1)).map Prod.snd
  { Tile.init with
      skips := skips, pc := skipTo skips 0, ringBase := (im.map (·.ringBase)).getD 0,
      ringSize := (im.map (·.ringSize)).getD 0 / 32, asleep := false, unit_ := u }

/-- The memory of a context written: DRAM image and routes. -/
def State.writeDram (s : State) (f : Fit) (p : Placement) (ts : List Nat) : State :=
  let s1 := p.image.foldl (fun s b => s.store (f.dramBase + b.1) b.2) s
  s1.store (s.nat Ob.routeTableBase + 8 * f.routeBase) (p.routes.flatMap (fun e => leBytes 8 (routeAt ts e).toNat))

/-- The tiles of a context written, halted, in its partition. -/
def State.writeTiles (s : State) (n : Nat) (f : Fit) (pkg : Package) (p : Placement) : State :=
  let ts := rectTiles f.origin p.w p.h
  (List.range ts.length).foldl (fun s i =>
    let t := nth 0 ts i
    (s.modTile t (fun _ => loadedTile f.routeBase i p (unexecuted pkg.layers))).setAll [(Ob.tileState t, 0), (Ob.tileContext t, n),
      (Ob.tileNeuronsResident t, (p.neurons.filter (fun x => x.tileOff == i)).length)]) s

/-- A full package written into an EMPTY context, which enters LOADED (R309, R345, R422). -/
def State.installContext (s : State) (n slot k : Nat) (pkg : Package) (p : Placement) (f : Fit) : State :=
  let ts := rectTiles f.origin p.w p.h
  let s1 := (s.grantRegions n pkg p f).writeDram f p ts
  let s2 := (s1.clearCtxObjects n).setAll [(Ob.routeBase n, (f.routeBase : Int)), (Ob.routeCount n, (pkg.routeCount : Int)),
    (Ob.programParticipation n, (bnat pkg.participation : Int)), (Ob.routeEntriesFree, s.num Ob.routeEntriesFree - pkg.routeCount),
    (Ob.neuronsResident, s.num Ob.neuronsResident + p.neurons.length)]
  let s3 := (s2.modCtx n (fun _ =>
    { Context.init with origin := f.origin, w := p.w, h := p.h, pkg := some pkg, slot := slot, placement := k,
                        dramBase := f.dramBase, dramBytes := p.dramBytes, subs := p.subs })).writeCtxObjects n pkg
  (((((s3.writeTiles n f pkg p).writeImage n p).emptyQueue n).showTheta n).showBounds n).setNat (Ob.contextState n) 1

/-! ## Loading (R421, R422) -/

/-- Whether a LOAD of a slot into a context is accepted (R421). A slot that holds no package puts no condition on the context
(log entry 57). -/
def State.loadAllowed (s : State) (slot n : Nat) : Bool :=
  let c := s.ctxState n
  s.evaluating && s.loader.load.isNone && (match s.loader.slots.find? slot with
    | none => true
    | some p => if p.weightOnly then c == 1 || c == 2 || c == 3 else c == 0)

/-- Package Status and Package Status Detail (R357, Table 14-7): the code, the placement tried last, the amounts, and up to 12
notices with their layers. -/
def State.packageResult (s : State) (code k needed free : Nat) (notices : List (Nat × Nat)) : State :=
  (s.setNat Ob.packageStatus code).setDom Ob.packageStatusDetail
    (leBytes 2 code ++ leBytes 1 k ++ [0] ++ leBytes 4 (satNat (2 ^ 32 - 1) needed) ++ leBytes 4 (satNat (2 ^ 32 - 1) free) ++ leBytes 4 0
      ++ padTo 48 ((notices.take 12).flatMap (fun x => leBytes 2 x.1 ++ leBytes 2 x.2)))

/-- Notices of a load raised (R138, R423, R426). -/
def State.raiseNotices (s : State) (n : Nat) (notices : List (Nat × Nat)) : State :=
  notices.foldl (fun (s : State) (x : Nat × Nat) => s.raise x.1 n) s

/-- The notices of a package's empty layers, which its content stage finds (R138). -/
def emptyNotices (pkg : Package) : List (Nat × Nat) := (pkg.layers.filter LayerInfo.empty).map (fun l => (0x0E11, l.number))

/-- A load rejected as a whole, with the notices it has raised (R357, R363, R424). -/
def State.rejectLoad (s : State) (n code k needed free : Nat) (notices : List (Nat × Nat)) : State :=
  (({ s with loader := { s.loader with load := none } }.raiseNotices n notices).packageResult code k needed free notices).raise code n

/-- LOAD applied: the load of a slot into a context begins, or is rejected at once by the slot's state (R421). -/
def State.applyLoad (s : State) (slot n : Nat) : State :=
  let st := s.nat (Ob.slotState slot)
  if st = 0 ∨ st = 3 then s.rejectLoad n 0x0E0D 0 0 0 []
  else if st = 2 then s.rejectLoad n 0x0E01 0 0 0 []
  else { s with loader := { s.loader with load := some (slot, n) } }.setNat Ob.loadProgress 0

/-- The envelope checks of the first stage (R407, R418): the code of the first that fails. -/
def State.envelopeFails (s : State) (slot n : Nat) (p : Package) : Option Nat :=
  if !s.verifies slot p then some 0x0E01
  else if p.productCode ≠ 0x0064E001 ∨ p.securityVersion < s.loader.versions.get 0 n then some 0x0E04
  else if !s.opens p then some 0x0E02
  else if !p.encrypted ∧ s.on Ob.certifiedConfiguration then some 0x0E02
  else none

/-- A weight-only package staged beside the context's weights (R428). -/
def State.stageWeights (s : State) (n : Nat) (p : Package) : State :=
  s.modCtx n (fun c => { c with staged := some p, pkg := c.pkg.map (fun q => { q with weightOnly := true }) })

/-- A load that ended well: its notices, its audit entry (R416) and Package Status (R138, R357, R423, R426). -/
def State.loadDone (s : State) (n k : Nat) (pkg : Package) (streams : Bool) : State :=
  let notices := emptyNotices pkg
    ++ (if k ≠ 0 then [(0x0E12, 0)] else []) ++ (if streams then [(0x0E10, 0)] else [])
  let own := decide (s.loader.asked.1 = 0)
  let s0 := s.auditEntry 14 s.loader.asked.1 s.loader.asked.2 (if own then 0 else 0x2F00) (if own then 0 else 1) (leBytes 16 pkg.sha.toNat)
  let s1 := s0.raiseNotices n notices
  ({ s1 with loader := { s1.loader with load := none } }.setNat Ob.loadProgress 100).packageResult
    ((notices.getLast?.map Prod.fst).getD 0) k 0 0 notices

/-- LOAD_COMPLETE: the loader's stages run to their end, or to the first that fails (R422, R423). -/
def execLoadComplete (t : Nat) (s0 : State) : Host.Outcome State Fault Refusal :=
  let s := s0.advance t
  match s.loader.load with
  | none => ok s
  | some (slot, n) =>
    match s.loader.slots.find? slot with
    | none => ok (s.rejectLoad n 0x0E0D 0 0 0 [])
    | some pkg =>
      match s.envelopeFails slot n pkg with
      | some code => ok (s.rejectLoad n code 0 0 0 [])
      | none =>
        if !s.contentPasses pkg n then ok ((s.setNat Ob.loadProgress 40).rejectLoad n 0x0E03 0 0 0 [])
        else if pkg.weightOnly then ok ((s.stageWeights n pkg).loadDone n 0 pkg false)
        else match s.place? pkg pkg.placements 0 with
          | .error e => ok ((s.setNat Ob.loadProgress 60).rejectLoad n e.1 e.2.1 e.2.2.1 e.2.2.2 (emptyNotices pkg))
          | .ok r => ok (((s.setNat Ob.placementUsed r.1).installContext n slot r.1 pkg r.2.1 r.2.2).loadDone n r.1 pkg r.2.1.streams)

/-! ## Commit (R427 to R429) -/

/-- Whether a COMMIT is accepted (R427). -/
def State.commitAllowed (s : State) (n target : Nat) : Bool :=
  (s.dev = 3 || s.dev = 4) && s.nat Ob.commitPending = 0 && (match (s.ctx n).pkg with
    | none => false
    | some p =>
      if p.weightOnly then
        (s.ctx n).staged.isSome && target == n && (s.ctxState n == 1 || s.ctxState n == 2 || s.ctxState n == 3)
      else
        s.ctxState n == 1 && (target == 0xFF
          || (target != n && (s.ctxState target == 1 || s.ctxState target == 2 || s.ctxState target == 3))))

/-- COMMIT applied: a full package waits for its boundary; a weight-only one is taken at once by a stopped context and at the
next WATERMARK or step by a RUNNING one (R427, R428, R429). -/
def State.applyCommit (s : State) (n target : Nat) : State :=
  if (s.ctx n).staged.isSome then
    if s.ctxState n = 2 ∨ (s.ctx n).pausing then
      (s.modCtx n (fun c => { c with swapAccepted := true })).setNat Ob.commitPending 2
    else s.applySwap n
  else { s with loader := { s.loader with commit := some (n, target) } }.setNat Ob.commitPending 1

/-- A pending full commit dropped (R429). -/
def State.dropCommit (s : State) : State :=
  if s.loader.commit.isSome then { s with loader := { s.loader with commit := none } }.setNat Ob.commitPending 0 else s

/-- A full commit at its boundary: Load Context starts, Commit Target stops and is to be unloaded (R427). -/
def State.commitBoundary (s : State) : State :=
  match s.loader.commit with
  | none => s
  | some (n, target) =>
    let s1 := s.dropCommit
    let s2 := if s1.ctxState n = 1 then s1.startContext n else s1
    if target = 0xFF then s2
    else
      let s3 := if s2.ctxState target = 2 ∨ s2.ctxState target = 3 then s2.stopContext target else s2
      { s3 with loader := { s3.loader with unloading := s3.loader.unloading ++ [(target, s.time)] } }

/-- UNLOAD of a context, with what it ends: a pending commit that names the context, and the load of a weight-only package into
it (R424, R429). -/
def State.unload (s : State) (n : Nat) : State :=
  let named : Bool := match s.loader.commit with
    | some c => c.1 == n || c.2 == n
    | none => false
  let s1 := if named then s.dropCommit else s
  let loading : Bool := match s1.loader.load with
    | some l => l.2 == n
    | none => false
  let s2 := if loading ∧ s1.ctxState n ≠ 0 then { s1 with loader := { s1.loader with load := none } }.setNat Ob.loadProgress 0 else s1
  { s2 with loader := { s2.loader with unloading := s2.loader.unloading.filter (fun u => u.1 != n) } }.unloadContext n

/-- COMMIT_TARGET_UNLOAD: a stopped Commit Target is unloaded once its queue holds no unread closed bytes, or 100 ms after the
boundary (R427). -/
def execCommitTargetUnload (t : Nat) (s0 : State) : Host.Outcome State Fault Refusal :=
  let s := s0.advance t
  match s.loader.unloading.find? (fun u => decide ((s.queue u.1).closedBytes = 0 ∨ u.2 + 100000000 ≤ s.time)) with
  | none => ok s
  | some (n, _) => ok ((if s.ctxState n = 2 then s.stopContext n else s).unload n)

/-! ## The built-in test (R358) -/

/-- Built-in Test applied: the test runs on the tiles of Test Tiles that belong to no context. -/
def State.applyTest (s : State) (kind : Nat) : State :=
  let ts := (List.range 64).filter (fun t => bitAt (s.nat Ob.testTiles) t && decide (s.tileCtx t = 0xFF))
  { s with loader := { s.loader with test := some ⟨kind, ts⟩ } }.setNat Ob.testState 1

/-- BUILT_IN_TEST_DONE: Test State, Test Result and Test Duration are written; `results` lists the tiles that failed with
their first failing address. -/
def execBuiltInTestDone (t : Nat) (results : List (Nat × Nat)) (ms : Nat) (s0 : State) : Host.Outcome State Fault Refusal :=
  let s := s0.advance t
  match s.loader.test with
  | none => ok s
  | some j =>
    let entry := fun (i : Nat) =>
      if !j.tiles.contains i then leBytes 8 0
      else match results.find? (fun r => r.1 == i) with
        | some r => [2] ++ leBytes 7 r.2
        | none => leBytes 8 1
    let failed := results.any (fun r => j.tiles.contains r.1)
    ok ((({ s with loader := { s.loader with test := none } }.setNat Ob.testState (if failed then 3 else 2)).setDom Ob.testResult
      ((List.range 64).flatMap entry)).setNat Ob.testDuration (ms % 2 ^ 32))

end Sys2Proof.Machine
end

