-- ==== Sys2Proof/Machine/Reset.lean ====
section
/-! DEFINITION. What survives a reset (R344, R345, R369, R389), the flash mirror (R344, R351), the boot of the firmware (R400,
R401), the start of the die (Table 15-1). -/

namespace Sys2Proof.Machine

/-! ## Kinds of objects -/

/-- Whether an object belongs to the Lodge set (R338). -/
def lodgeKey (k : Nat) : Bool :=
  let i := k / 256
  decide (0x1000 ≤ i ∧ i < 0x2000) || decide (0x2000 ≤ i ∧ i ≤ 0x2004) || decide (0x2A00 ≤ i ∧ i ≤ 0x2A02)
    || decide (0x2C00 ≤ i ∧ i < 0x2F00)

/-- The volatile rw objects (R344). -/
def volatileKey (k : Nat) : Bool :=
  (decide (0x2200 ≤ k / 256 ∧ k / 256 < 0x2208) && k % 256 == 0x0B) || (decide (0x2B40 ≤ k / 256 ∧ k / 256 < 0x2B48) && k % 256 == 1)
    || k == Ob.loadSlot || k == Ob.loadContext || k == Ob.commitTarget || k == Ob.debugReadAddress

/-- Whether an object is held with a context (R345). -/
def contextKey (k : Nat) : Bool := (List.range 8).any (fun n => ctxKey n k)

/-- The persistent objects (R344), with the Role Keys (Table 17-1). -/
def persistentKey (k : Nat) : Bool :=
  !volatileKey k && !contextKey k && k != Ob.numberOfErrors && ((match objRow k with
    | some r => r.acc == .rw
    | none => false) || decide (0x2D0201 ≤ k ∧ k ≤ 0x2D0204))

/-- The objects that calibration loops write (R274): Refractory Period, Calibrated Offset, Bias Code, Extrinsic, Cumulative
Correction, Encoder Scale, Scale Correction, Offset Correction, Deskew Correction. -/
def loopKey (k : Nat) : Bool :=
  let four := List.range 4
  four.any (fun p => k == Ob.refractoryPeriod p || k == Ob.calibratedOffset p || k == Ob.biasCode p || k == Ob.deskewCorrection p)
    || (List.range 16).any (fun f => k == Ob.extrinsic f || k == Ob.cumulativeCorrection f) || k == Ob.encoderScale || k == Ob.scaleCorrection
    || (List.range 8).any (fun n => k == Ob.offsetCorrection n)

/-- Entries of a table that a predicate on keys keeps. -/
def SMap.keep {α : Type} (f : Nat → Bool) (m : SMap α) : SMap α := m.filter (fun e => f e.1)

/-- A table with the entries of another put in. -/
def SMap.overlay {α : Type} (m new : SMap α) : SMap α := new.foldl (fun a e => a.set e.1 e.2) m

/-! ## The flash mirror (R344) -/

/-- The mirror written: persistent values, those of the loops' objects as the host last wrote them (R274, R344). -/
def State.writeMirror (s : State) : State :=
  let mine := fun (k : Nat) => persistentKey k && !loopKey k
  { s with flash := { s.flash with nums := SMap.overlay (SMap.keep mine s.objs) s.flash.hostNums,
                                   doms := SMap.overlay (SMap.keep mine s.doms) s.flash.hostDoms, due := none } }

/-- PARAMETER_MIRROR_WRITE: 1 s after the last write of a burst the mirror is written (R344). -/
def execParameterMirrorWrite (t : Nat) (s0 : State) : Host.Outcome State Fault Refusal :=
  let s := s0.advance t
  match s.flash.due with
  | some a => if a + 1000000000 ≤ s.time then ok s.writeMirror else ok s
  | none => ok s

/-- Calibration Save: the values the loops wrote become the calibration image (R274). -/
def State.applyCalibrationSave (s : State) : State :=
  { s with flash := { s.flash with calNums := SMap.keep loopKey s.objs, calDoms := SMap.keep loopKey s.doms } }

/-- The calibration image applied (R274, Table 15-1, step 6). -/
def State.applyCalImage (s : State) : State :=
  { s with objs := SMap.overlay s.objs s.flash.calNums, doms := SMap.overlay s.doms s.flash.calDoms }

/-- The mark of Restore Default Parameters carried out at a start: mirror, calibration image and the street map's mirror
return to default; the live values of persistent objects as well (R351). A blown Debug Lock and Role Keys stay (R415, Table 17-1;
log entry 58). -/
def State.restoreDefaults (s : State) : State :=
  if !s.flash.restore then s
  else
    let stays := fun (k : Nat) => !persistentKey k || decide (0x2D0201 ≤ k ∧ k ≤ 0x2D0204) || (k == Ob.debugLock && s.nat Ob.debugLock == 2)
    let f := s.flash
    { s with objs := SMap.keep stays s.objs, doms := SMap.keep stays s.doms,
             flash := { f with nums := SMap.keep stays f.nums, doms := SMap.keep stays f.doms, hostNums := [], hostDoms := [],
                               calNums := [], calDoms := [], restore := false },
             link := { s.link with mirror := none } }

/-! ## The die reset (R389) -/

/-- Objects that keep their value through a die reset: the Lodge set, persistent objects, loop values, the coefficients' flags,
and the objects of contexts that survive (R344, R345, R389). -/
def keptKey (ctxs : Bool) (k : Nat) : Bool :=
  lodgeKey k || persistentKey k || loopKey k || (List.range 4).any (fun p => k == Ob.coefficientsStored p) || (ctxs && contextKey k)

/-- A context whose images survive: its partition and package, nothing running, no logical time; its staged set is gone (R389,
R392, R428). -/
def Context.survive (c : Context) : Context :=
  { Context.init with origin := c.origin, w := c.w, h := c.h, pkg := c.pkg, slot := c.slot, placement := c.placement,
                      dramBase := c.dramBase, dramBytes := c.dramBytes, subs := c.subs }

/-- The port as a die reset leaves it; the ring lies in DRAM. -/
def SensorPort.survive (dram : Bool) (q : SensorPort) : SensorPort :=
  if dram then { SensorPort.init with ring := q.ring, ringNext := q.ringNext, ringOff := q.ringOff } else SensorPort.init

/-- The whole die reset. `dram`: the DRAM keeps its contents; `ctxs`: contexts survive with it. Everything on the die that Table
16-5 does not name starts as Table 15-2 states. -/
def State.dieReset (s : State) (dram ctxs : Bool) : State :=
  let held := if ctxs then s else (List.range 8).foldl State.freeRegions s
  let source := s.nat Ob.timeSource
  let s1 := { held with
    mem := if dram then held.mem.filter (fun c => decide (c.1 < dramEnd)) else [],
    objs := SMap.keep (keptKey ctxs) held.objs,
    doms := SMap.keep (keptKey ctxs) held.doms,
    heldNum := [], heldDom := [],
    gate := { Gate.init with ports := s.gate.ports.mapVal (fun _ q => q.survive dram) },
    kerb := { Kerb.init with offDrivers := s.kerb.offDrivers },
    inputs := { s.inputs.survive with chans := s.inputs.chans.mapVal (fun _ c => { AnalogChan.init with corr := c.corr }) },
    market := { Market.init with ctxs := if ctxs then s.market.ctxs.mapVal (fun _ c => c.survive) else [] },
    queues := Queues.init,
    square := Square.init,
    cal := { Cal.init with offsetRef := s.cal.offsetRef, scaleRef := s.cal.scaleRef },
    link := { s.link with ports := s.link.ports.mapVal (fun _ l => { LinkPort.init with cageOff := l.cageOff }), requests := [], quarantine := [] },
    loader := { s.loader with load := none, commit := none, unloading := [], autoload := [], starts := [], readyDue := false, test := none },
    disc := { s.disc with inRow := 0, holdoverAt := none, syncHigh := false },
    recov := { s.recov with tally := [], prev := [], stall := [], windows := [] } }
  s1.setAll [(Ob.dieUp, 0), (Ob.timeSourceState, if source = 0 then 0 else 1)]

/-- The tallies' units and the sequencer at rest. -/
def State.quietSequencer (s : State) : State :=
  { s with recov := { s.recov with phase := .none, restart := false, suspects := [], replay := none } }

/-- The die rails removed: the device is HALTED with everything on the die and in the DRAM lost (R367, R368, R378). -/
def State.railsOff (s : State) : State :=
  let s1 := (s.dieReset false false).quietSequencer
  { s1 with power := { s1.power with rails := false }, ctrl := { s1.ctrl with transition := none } }.setAll
    [(Ob.deviceState, 7), (Ob.transitionPending, 0), (Ob.recoveryStage, 0)]

/-- Every module rail removed for 100 ms, drivers off (R397, R398, R440). -/
def State.cycleModule (s : State) : State :=
  let s1 := s.railsOff
  { s1 with power := { s1.power with lodge := false }, kerb := { s1.kerb with offDrivers := true },
            recov := { s1.recov with phase := .cycle } }

/-! ## Start -/

/-- Whether a firmware image verifies against the fused minimum (R400). -/
def Security.passes (x : Security) (i : Option Firmware) : Bool :=
  match i with
  | some f => f.signatureOk && decide (x.fusedMin ≤ f.version)
  | none => false

/-- The version of an image. -/
def imageVersion (i : Option Firmware) : Nat := (i.map (·.version)).getD 0

/-- The firmware verified (R400, R401); at a start of the module or a RESTART a stored image becomes primary first. When both
images fail, the die stays unpowered and the device is HALTED. -/
def State.bootFirmware (s : State) (start : Bool) : State :=
  let x := if start ∧ s.sec.stored then { s.sec with primary := s.sec.fallback, fallback := s.sec.primary, stored := false } else s.sec
  if x.passes x.primary then
    { s with sec := { x with running := .primary }, power := { s.power with rails := true } }.setAll
      [(Ob.secureBootState, 0), (Ob.firmwareSecurityVersion, imageVersion x.primary)]
  else
    let s1 := s.raise 0x0C01 noUnit
    if x.passes x.fallback then
      { s1 with sec := { x with running := .fallback }, power := { s1.power with rails := true } }.setAll
        [(Ob.secureBootState, 1), (Ob.firmwareSecurityVersion, imageVersion x.fallback)]
    else
      { s1 with sec := { x with running := .none }, power := { s1.power with rails := false } }.setAll
        [(Ob.deviceState, 7), (Ob.dieUp, 0)]

/-- The node ID and the data rate in force from a start on (R338). -/
def State.sidebandStart (s : State) : State :=
  { s with ctrl := { s.ctrl with nodeId := s.nat Ob.sidebandNodeId, canRate := s.nat Ob.sidebandDataRate } }

/-- The objects a power-up starts from: the mirror, Thermal Shutdowns, the audit log's mirror, and after a module power cycle the
Lodge's five counters (R344, R389, R416, Table 14-6). -/
def State.startObjs (s : State) (cycle : Bool) : SMap Int :=
  let five := [Ob.recoveryCount, Ob.hardResets, Ob.modulePowerCycles, Ob.lastRecoveryCause, Ob.lastRecoveryDuration]
  let stays := fun (k : Nat) => k == Ob.thermalShutdowns || (cycle && five.contains k)
  let n := s.flash.audited
  SMap.overlay (SMap.overlay s.flash.nums (SMap.keep stays s.objs))
    [(Ob.auditNewest, (((n + 4095) % 4096 * bnat (decide (0 < n)) : Nat) : Int)), (Ob.auditWraps, (s.flash.wraps : Int))]

/-- The module as its input power becomes valid: device time 0, everything volatile gone (R364, R389). -/
def State.powerUp (s0 : State) (cycle : Bool) : State :=
  let s := s0.restoreDefaults
  let n := s.startObjs cycle
  let base := { State.reset with
    freeCount := s.freeCount, pending := s.pending, objs := n, doms := s.flash.doms,
    kerb := { Kerb.init with offDrivers := false },
    inputs := s.inputs.survive,
    power := { Power.init with lodge := true },
    link := { Link.init with mirror := s.link.mirror, region := s.link.mirror.map Prod.fst, local_ := s.link.mirror.map Prod.snd },
    sec := { s.sec with mailbox := Session.init, canFd := Session.init, audit := s.flash.audit, audited := s.flash.audited, running := .none },
    flash := { s.flash with hostNums := SMap.keep loopKey s.flash.nums, hostDoms := SMap.keep loopKey s.flash.doms, due := none },
    loader := { Loader.init with slots := s.loader.slots, keys := s.loader.keys, versions := s.loader.versions },
    recov := { Recov.init with ledgers := s.recov.ledgers } }
  let s1 := base.setNat Ob.ledgersStored s.recov.ledgers.length
  let s2 := match s.link.mirror with
    | some m => (s1.setDom Ob.streetRegionMap m.1).setDom Ob.localMap m.2
    | none => s1
  let s3 := if cycle ∧ s0.recov.latch then s2.count 32 Ob.modulePowerCycles 1 else s2
  let s4 := s3.setAll ((List.range 4).map (fun n =>
    (Ob.triggerLevel n, ((bnat (s3.on (Ob.triggerEnable n) && s3.inputs.pins.get false n) : Nat) : Int))))
  (s4.sidebandStart.setNat Ob.timeSourceState (bnat (decide (s4.nat Ob.timeSource ≠ 0)))).bootFirmware true

/-- INPUT_POWER_VALID: the supply reaches 17.0 V on a module that is OFF, and Table 15-1 begins (R364, R365, R400). -/
def execInputPowerValid (s : State) : Host.Outcome State Fault Refusal :=
  if s.power.lodge ∨ s.recov.phase = .cycle then ok s else ok (s.powerUp false)

/-- MODULE_POWER_CYCLE_END: the rails return after 100 ms and Table 15-1 starts again with device time 0 (R397, R398). -/
def execModulePowerCycleEnd (s : State) : Host.Outcome State Fault Refusal :=
  if s.recov.phase = .cycle then ok (s.powerUp true) else ok s

/-! ## Bring-up of the die -/

/-- Analog channels and motion inputs whose enable objects are 1 start (Table 15-1, step 7). -/
def State.startInputs (s : State) : State :=
  let s1 := (List.range 8).foldl (fun s n => if s.on (Ob.channelEnable n) then (s.setNat (Ob.channelEnable n) 0).applyChannelEnable n 1 else s) s
  let s2 := (List.range 2).foldl (fun s m => if s.on (Ob.inertialEnable m) then (s.setNat (Ob.inertialEnable m) 0).applyInertialEnable m 1 else s) s1
  (List.range 4).foldl (fun s e => if s.on (Ob.encoderEnable e) then (s.setNat (Ob.encoderEnable e) 0).applyEncoderEnable e 1 else s) s2

/-- Sensor ports whose enable objects are 1 start. -/
def State.startPorts (s : State) : State :=
  (List.range 4).foldl (fun s p => if s.on (Ob.portEnable p) then (s.setNat (Ob.portEnable p) 0).applyPortEnable p 1 else s) s

/-- Chaivo ports whose enable objects are 1 train, from stored coefficients where there are any (R278, R388). -/
def State.startLinks (s : State) : State :=
  (List.range 4).foldl (fun s p => if s.on (Ob.linkPortEnable p) then (s.setNat (Ob.linkPortEnable p) 0).applyLinkEnable p 1 else s) s

/-- The slots' objects shown again (log entry 55), and the objects that count what contexts hold. -/
def State.showLoader (s : State) : State :=
  let s1 := (List.range 8).foldl State.showSlot s
  let routes := sumNat (s1.heldContexts.map (fun n => s1.nat (Ob.routeCount n)))
  let neurons := sumNat (s1.heldContexts.map (fun n => (((s1.ctx n).content.map (fun p => p.neurons.length)).getD 0)))
  s1.setAll [(Ob.routeEntriesFree, 33554432 - (routes : Int)), (Ob.neuronsResident, neurons)]

/-- The images of surviving contexts written into their tiles again (Table 16-6, step 8). -/
def State.restoreTiles (s : State) : State :=
  s.heldContexts.foldl (fun s n =>
    match (s.ctx n).pkg, (s.ctx n).content with
    | some pkg, some p =>
      let f : Fit := ⟨(s.ctx n).origin, s.nat (Ob.routeBase n), (s.ctx n).dramBase⟩
      let s1 := (s.writeTiles n f pkg p).writeImage n p
      if s.ctxState n = 3 ∨ s.ctxState n = 4 then s1.setTileStates n 4 else s1
    | _, _ => s) s

/-- The Autoload list taken up: contexts to load, those to start, whether READY is to be entered (R366, Table 14-7). -/
def State.takeAutoload (s : State) : State :=
  let entry := fun (n : Nat) => s.domNat Ob.autoload (2 * n) 2
  let listed := (List.range 8).filter (fun n => entry n % 256 < 8)
  let starts := listed.filter (fun n => bitAt (entry n) 8)
  { s with loader := { s.loader with autoload := listed, starts := starts, readyDue := starts ≠ [] } }

/-- The minimum security version rises to that of the primary image once it has reached STANDBY (R401). -/
def State.fuseVersion (s : State) : State :=
  match s.sec.running with
  | .primary => { s with sec := { s.sec with fusedMin := max s.sec.fusedMin (imageVersion s.sec.primary) } }
  | _ => s

end Sys2Proof.Machine
end

