-- ==== Sys2Proof/Machine/Power.lean ====
section
/-! DEFINITION. Supply and temperature (R364 to R368, R375 to R378, R435), the time discipline and the SYNC output (R370 to R374),
the heartbeat (R347). -/

namespace Sys2Proof.Machine

/-! ## Supply -/

/-- Input Voltage shown (Table 14-6). -/
def State.setInput (s : State) (mv : Nat) : State := s.setNat Ob.inputVoltage (satNat 40000 mv)

/-- INPUT_VOLTAGE_EXCURSION: the input stands at `mv`; notice 0x0D03 once per excursion from 18 V to 32 V (R367). -/
def execInputVoltageExcursion (t mv : Nat) (s0 : State) : Host.Outcome State Fault Refusal :=
  let s := s0.advance t
  if !s.power.lodge then ok s
  else
    let out := outsideInput mv
    let s1 := { s with power := { s.power with outside := out } }.setInput mv
    ok (s1.raiseIf (out && !s.power.outside) 0x0D03 noUnit)

/-- INPUT_BELOW_HOLD_UP: below 15.0 V for 10 µs the die rails are removed, with fault 0x0D04 (R367). -/
def execInputBelowHoldUp (t mv : Nat) (s0 : State) : Host.Outcome State Fault Refusal :=
  let s := s0.advance t
  if !s.power.lodge ∨ 15000 ≤ mv then ok s
  else if !s.power.rails then ok (s.setInput mv)
  else
    let s1 := s.railsOff.setInput mv
    ok ({ s1 with power := { s1.power with holdUp := true } }.raise 0x0D04 noUnit)

/-- INPUT_RESTORED: 17.0 V or more for 100 ms after such a removal, and the Lodge restarts the die from step 3 of Table 15-1
(R367). -/
def execInputRestored (t mv : Nat) (s0 : State) : Host.Outcome State Fault Refusal :=
  let s := s0.advance t
  if !s.power.holdUp ∨ mv < 17000 then ok s
  else
    let s1 := { s with power := { s.power with holdUp := false } }.setInput mv
    ok ((s1.setNat Ob.deviceState 1).bootFirmware false)

/-- INPUT_BELOW_LODGE_SUPPLY: below 9.0 V the module is OFF (R367, R435, R440). -/
def execInputBelowLodgeSupply (t : Nat) (s0 : State) : Host.Outcome State Fault Refusal :=
  let s := s0.advance t
  let s1 := s.railsOff
  ok { s1 with power := { Power.init with lodge := false }, kerb := { s1.kerb with offDrivers := true } }

/-- REGULATOR_OUT_OF_REGULATION: the rails are removed with fault 0x0D08; a failure within 1 s of the restart that followed an
earlier one holds the die off until the next power-up (R368). -/
def execRegulatorOutOfRegulation (t : Nat) (s0 : State) : Host.Outcome State Fault Refusal :=
  let s := s0.advance t
  if !s.power.rails then ok s
  else
    let again := s.power.regFails.any (fun r => decide (s.time < r + 1000000000))
    let s1 := s.railsOff
    ok ({ s1 with power := { s1.power with regHeld := again, regFails := [s.time] } }.raise 0x0D08 noUnit)

/-- SUPPLY_TAP_OVERCURRENT: a tap that has held its limit for 1 ms switches off (R435). -/
def execSupplyTapOvercurrent (t : Nat) (tap : Fin 5) (s0 : State) : Host.Outcome State Fault Refusal :=
  let s := s0.advance t
  if s.power.lodge then ok { s with power := { s.power with tapsOff := s.power.tapsOff.set tap s.time } } else ok s

/-- Taps that have been off for 1 s switch on again (R435). -/
def State.retryTaps (s : State) : State :=
  { s with power := { s.power with tapsOff := s.power.tapsOff.filter (fun x => decide (s.time < x.2 + 1000000000)) } }

/-- LODGE_SUPERVISOR_TIMEOUT: the Lodge firmware has been silent for 100 ms; every module rail goes off and the cause is
latched (R398). -/
def execLodgeSupervisorTimeout (t : Nat) (s0 : State) : Host.Outcome State Fault Refusal :=
  let s := s0.advance t
  if !s.power.lodge then ok s
  else
    let s1 := s.cycleModule
    ok { s1 with recov := { s1.recov with latch := true } }

/-! ## Temperature -/

/-- Junction and plate temperature shown. -/
def State.setTemps (s : State) (junction plate : Int) : State :=
  s.setAll [(Ob.junctionTemperature, clampInt (-32768) 32767 junction), (Ob.plateTemperature, clampInt (-32768) 32767 plate)]

/-- THERMAL_CAP_TICK: the cap on tile clocks falls, holds or rises by the junction temperature, in 0.1 °C (R377). -/
def execThermalCapTick (t : Nat) (junction plate : Int) (s0 : State) : Host.Outcome State Fault Refusal :=
  let s := (s0.advance t).setTemps junction plate
  if !s.power.rails then ok s
  else
    let th := s.num Ob.throttleThreshold
    let setCap := fun (s : State) (c : Nat) => { s with power := { s.power with cap := c } }
    if th ≤ junction then
      let s1 := setCap s (max 550 (s.power.cap - 50))
      if s.on Ob.throttleState then ok s1
      else ok (((s1.setNat Ob.throttleState 1).count 32 Ob.throttleEntries 1).raise 0x0D01 noUnit)
    else if th - 50 ≤ junction then ok s
    else
      let c := min 1350 (s.power.cap + 10)
      ok (if c = 1350 then (setCap s c).setNat Ob.throttleState 0 else setCap s c)

/-- THERMAL_SHUTDOWN: at 110 °C the rails are removed with fault 0x0D02 (R378). -/
def execThermalShutdown (t : Nat) (junction plate : Int) (s0 : State) : Host.Outcome State Fault Refusal :=
  let s := (s0.advance t).setTemps junction plate
  if !s.power.rails ∨ junction < 1100 then ok s
  else
    let s1 := s.railsOff.count 32 Ob.thermalShutdowns 1
    ok ({ s1 with power := { s1.power with shutdownAt := some s.time } }.raise 0x0D02 noUnit)

/-- Whether RESTART is held off by a regulator or by heat (R368, R378). -/
def State.restartHeld (s : State) : Bool :=
  s.power.regHeld || (match s.power.shutdownAt with
    | some a => decide (s.time < a + 10000000000 ∨ 850 < s.num Ob.plateTemperature)
    | none => false)

/-! ## The time discipline (R370 to R373) -/

/-- Time Source written: the source state becomes acquiring at once, or free-running with the trim at 0 (R371). -/
def State.applyTimeSource (s : State) (v : Nat) : State :=
  let s1 := s.setAll [(Ob.timeSource, (v : Int)), (Ob.timeSourceState, (bnat (decide (v ≠ 0)) : Int))]
  { s1 with disc := { s1.disc with inRow := 0, holdoverAt := none, stepped := false, trim := if v = 0 then 0 else s1.disc.trim } }

/-- Whether a time step is allowed (R372). -/
def State.stepAllowed (s : State) : Bool :=
  s.dev != 4 && (List.range 8).all (fun n => s.ctxState n != 2 && s.ctxState n != 3)

/-- An instant on the stepped time. -/
def stepped (off : Int) (a : Nat) : Nat := ((a : Int) - off).toNat

/-- A port of the Gate, whose durations go on across a step. -/
def SensorPort.step (off : Int) (q : SensorPort) : SensorPort :=
  { q with hotFrom := stepped off q.hotFrom, coldUntil := stepped off q.coldUntil, learnFrom := stepped off q.learnFrom,
           biasFrom := stepped off q.biasFrom }

/-- A Kerb rule across a step; its instants are in quarters of a nanosecond. -/
def KerbRule.step (off : Int) (r : KerbRule) : KerbRule :=
  { r with pulseEnd := stepped (4 * off) r.pulseEnd, inhibitEnd := stepped (4 * off) r.inhibitEnd }

/-- A result queue across a step. -/
def ResultQueue.step (off : Int) (r : ResultQueue) : ResultQueue :=
  { r with open_ := r.open_.map (fun b => { b with openedAt := stepped off b.openedAt }), fullAt := r.fullAt.map (stepped off),
           dropAt := r.dropAt.map (stepped off) }

/-- A link port across a step. -/
def LinkPort.step (off : Int) (l : LinkPort) : LinkPort :=
  { l with retry := l.retry.map (fun x => { x with sentAt := stepped off x.sentAt }), due := stepped off l.due,
           cageOff := l.cageOff.map (stepped off) }

/-- A session across a step. -/
def Session.step (off : Int) (x : Session) : Session :=
  { x with challenge := x.challenge.map (fun c => (stepped off c.1, c.2)), failedAt := stepped off x.failedAt,
           lastRequest := stepped off x.lastRequest }

/-- A step moves device time, not what durations measure: every instant a duration runs from or to moves with it (R373; log
entry 51). -/
def State.stepInstants (s : State) (off : Int) : State :=
  let at_ := stepped off
  { s with
    gate := { s.gate with ports := s.gate.ports.mapVal (fun _ q => q.step off) },
    kerb := { s.kerb with rules := s.kerb.rules.mapVal (fun _ r => r.step off),
                          pulses := s.kerb.pulses.map (fun q => { q with until_ := at_ q.until_ }) },
    queues := { s.queues with results := s.queues.results.mapVal (fun _ r => r.step off),
                              prov := s.queues.prov.mapVal (fun _ u => { u with held := u.held.map (fun h => { h with since := at_ h.since }) }) },
    link := { s.link with ports := s.link.ports.mapVal (fun _ l => l.step off),
                          requests := s.link.requests.map (fun r => { r with sentAt := at_ r.sentAt }),
                          quarantine := s.link.quarantine.map (fun q => (q.1, at_ q.2)) },
    ctrl := { s.ctrl with ecatLast := s.ctrl.ecatLast.map at_, canLast := s.ctrl.canLast.map at_ },
    power := { s.power with regFails := s.power.regFails.map at_, shutdownAt := s.power.shutdownAt.map at_,
                            tapsOff := s.power.tapsOff.mapVal (fun _ a => at_ a), meteredAt := at_ s.power.meteredAt },
    disc := { s.disc with syncUntil := stepped (2 * off) s.disc.syncUntil },
    sec := { s.sec with mailbox := s.sec.mailbox.step off, canFd := s.sec.canFd.step off },
    health := { s.health with lastNotice := s.health.lastNotice.mapVal (fun _ a => at_ a) },
    loader := { s.loader with unloading := s.loader.unloading.map (fun u => (u.1, at_ u.2)) },
    recov := { s.recov with returned := s.recov.returned.map at_, since := at_ s.recov.since },
    flash := { s.flash with due := s.flash.due.map at_ },
    cal := { s.cal with offsetFrom := s.cal.offsetFrom.mapVal (fun _ a => at_ a) },
    square := { s.square with restores := s.square.restores.map (fun r => (r.1, at_ (1000 * r.2) / 1000)) } }

/-- Device time stepped by −offset: ports re-anchor and ego-motion restarts (R373). -/
def State.stepTime (s : State) (offset : Int) : State :=
  let now := ((s.time : Int) - offset).toNat
  let s1 := { s.stepInstants offset with time := now, lastBoundary := now / 1000 * 1000 }
  let s2 := (List.range 4).foldl (fun s p => if s.nat (Ob.portState p) = 2 then s.applyReAnchor p else s) s1
  (s2.egoStart.count 32 Ob.timeSteps 1).raise 0x0D07 noUnit

/-- The discipline's counts after a sample; `offset` is device time minus source time. -/
def Discipline.sampled (d : Discipline) (offset : Int) (slew : Bool) : Discipline :=
  { d with inRow := if offset.natAbs ≤ 20 then d.inRow + 1 else 0, stepped := true, holdoverAt := none,
           trim := if slew then clampInt (-50000) 50000 (Config.piTrim offset d.trim) else d.trim }

/-- Whether the source selected is there (Table 15-3): EtherCAT at SAFEOP or above; the upstream port UP in fabric mode, with a time
distance that is not unknown (R298, R371). -/
def State.sourceThere (s : State) : Bool :=
  match s.nat Ob.timeSource with
  | 0 => false
  | 1 => decide (4 ≤ s.nat Ob.ethercatState)
  | 2 =>
    let p := s.nat Ob.timeUpstreamPort
    decide (p < 4) && s.linkUp p && !s.hostMode p && decide ((s.linkPort p).distance ≠ 0x3FFFF)
  | _ => true

/-- The offset of a sample in ns (Table 15-3): Neighbour Offset of the upstream port; an edge of the SYNC input against the nearest multiple
of SYNC In Period; the DC system time as measured (log entry 89). -/
def State.sampleOffset (s : State) (measured : Int) : Int :=
  match s.nat Ob.timeSource with
  | 2 => roundRat ((s.num (Ob.neighbourOffset (s.nat Ob.timeUpstreamPort)) : Rat) / 1000)
  | 3 =>
    let per := s.nat Ob.syncInPeriod
    let r := s.time % per
    if 2 * r ≤ per then (r : Int) else (r : Int) - per
  | _ => measured

/-- TIME_SOURCE_SAMPLE: Source Offset is updated and the discipline steps, slews, locks or leaves holdover (R372). -/
def execTimeSourceSample (t : Nat) (measured : Int) (s0 : State) : Host.Outcome State Fault Refusal :=
  let s := s0.advance t
  if !s.sourceThere ∨ !s.dieUp then ok s
  else
    let offset := s.sampleOffset measured
    let s1 := s.setNum Ob.sourceOffset (clampInt (-2147483648) 2147483647 offset)
    let big := decide (1000000 < offset.natAbs)
    if s.nat Ob.timeSourceState = 2 then ok { s1 with disc := s1.disc.sampled offset true }
    else
      let fresh := decide (s.nat Ob.timeSourceState ≠ 1) || !s.disc.stepped
      let s2 := s1.setNat Ob.timeSourceState 1
      if s.stepAllowed ∧ (big ∨ fresh ∧ 1000 < offset.natAbs) then
        ok ({ s2 with disc := { s2.disc with inRow := 0, stepped := true, holdoverAt := none } }.stepTime offset)
      else
        let d := s2.disc.sampled offset (!big)
        let s3 := { s2 with disc := d }
        ok (if 16 ≤ d.inRow then s3.setNat Ob.timeSourceState 2 else s3)

/-- TIME_SOURCE_LOST: a locked state passes to holdover with notice 0x0D05; an acquiring state stays (R372). -/
def execTimeSourceLost (t : Nat) (s0 : State) : Host.Outcome State Fault Refusal :=
  let s := s0.advance t
  if s.nat Ob.timeSourceState = 2 then
    ok (({ s with disc := { s.disc with holdoverAt := some s.time, inRow := 0 } }.setNat Ob.timeSourceState 3).raise 0x0D05 noUnit)
  else ok s

/-- HOLDOVER_LIMIT_EXPIRY: Holdover Limit has passed in holdover (R372). -/
def execHoldoverLimitExpiry (t : Nat) (s0 : State) : Host.Outcome State Fault Refusal :=
  let s := s0.advance t
  match s.disc.holdoverAt with
  | none => ok s
  | some a =>
    if s.nat Ob.timeSourceState = 3 ∧ a + s.nat Ob.holdoverLimit * 1000000 ≤ s.time then
      ok (({ s with disc := { s.disc with holdoverAt := none } }.setNat Ob.timeSourceState 0).raise 0x0D06 noUnit)
    else ok s

/-! ## The SYNC output (R374) -/

/-- SYNC_OUT_EDGE: device time is congruent to SYNC Out Phase modulo the period, and the output rises. -/
def execSyncOutEdge (t : Nat) (s0 : State) : Host.Outcome State Fault Refusal :=
  let s := s0.advance t
  let period := s.nat Ob.syncOutPeriod
  if s.dieUp ∧ 0 < period ∧ s.time % period = s.nat Ob.syncOutPhase % period then
    ok { s with disc := { s.disc with syncHigh := true, syncUntil := 2 * s.time + min period 20000 } }
  else ok s

/-- SYNC_OUT_PULSE_END: the pulse ends after the lesser of half the period and 10 µs. -/
def execSyncOutPulseEnd (t : Nat) (s0 : State) : Host.Outcome State Fault Refusal :=
  let s := s0.advance t
  if s.disc.syncUntil ≤ 2 * s.time then ok { s with disc := { s.disc with syncHigh := false } } else ok s

/-! ## The heartbeat (R347) -/

/-- PRODUCER_HEARTBEAT: the side-band sends its heartbeat while Producer Heartbeat Time is not 0. -/
def execProducerHeartbeat (t : Nat) (s0 : State) : Host.Outcome State Fault Refusal :=
  let s := s0.advance t
  if s.power.lodge ∧ s.nat Ob.producerHeartbeatTime ≠ 0 then ok { s with ctrl := { s.ctrl with heartbeats := s.ctrl.heartbeats + 1 } }
  else ok s

end Sys2Proof.Machine
end

