-- ==== Sys2Proof/Machine/Control.lean ====
section
/-! DEFINITION. Device and context commands (R326 to R330, Tables 13-1 and 13-2), the Control Claim (R332), the frames of the two
masters and Field Loss Action (R332, R337), Autoload (R366). -/

namespace Sys2Proof.Machine

/-! ## Device commands (Table 13-1) -/

/-- Whether some context is not EMPTY. -/
def State.anyContext (s : State) : Bool := (List.range 8).any (fun n => s.ctxState n != 0)

/-- Whether a Device Command is carried out: its row of Table 13-1 names the state, its condition holds, and no transition is
pending (R327). -/
def State.deviceAllowed (s : State) (cmd : Nat) : Bool :=
  s.nat Ob.transitionPending = 0 && (match cmd with
    | 1 => (s.dev = 2 && s.anyContext) || s.dev = 4
    | 2 => s.dev = 3
    | 3 => s.dev = 3 || s.dev = 4
    | 4 => s.evaluating
    | 5 => s.dev = 7 && !s.restartHeld
    | _ => false)

/-- A transition accepted (R327). -/
def State.accept (s : State) (cmd : Nat) (now : Bool) : State :=
  let s1 := { s with ctrl := { s.ctrl with transition := some ⟨cmd, s.dev, now⟩ } }.setNat Ob.transitionPending 1
  if now then s1.setNat Ob.lastTransitionStamp s.time else s1

/-- A transition complete: Device State shows the new state (R327). -/
def State.complete (s : State) (dev : Nat) : State :=
  { s with ctrl := { s.ctrl with transition := none } }.setAll [(Ob.deviceState, dev), (Ob.transitionPending, 0)]

/-- RUNNING contexts paused (Table 4-8). -/
def State.pauseAll (s : State) : State :=
  (List.range 8).foldl (fun s n => if s.ctxState n = 2 then s.pauseContext n else s) s

/-- HALT takes effect: outputs to their Safe Level, in RUN the open slots are fused (R228), RUNNING contexts pause (R65,
Table 13-1). -/
def State.applyHalt (s : State) : State :=
  let s1 := (s.accept 4 true).endDrives
  (if s.dev = 4 then s1.drainArcade else s1).pauseAll

/-- RESTART takes effect: the whole die is reset without a ledger and every context is EMPTY (Table 13-1, R351, R368, R429). -/
def State.applyRestart (s : State) : State :=
  let p := s.power
  let s1 := ((s.dropCommit.restoreDefaults).dieReset true false).accept 5 true
  ({ s1 with power := { p with shutdownAt := none, regFails := if p.regFails = [] then [] else [s.time] },
             recov := { s1.recov with phase := .reset, since := s.time, restart := true, suspects := [], replay := none, lost := false } }.sidebandStart).setAll
    [(Ob.deviceState, 6), (Ob.dieUp, 0)]

/-- A Device Command carried out (R327). -/
def State.applyDevice (s : State) (cmd : Nat) : State :=
  match cmd with
  | 3 => s.dropCommit.accept 3 false
  | 4 => s.applyHalt
  | 5 => s.applyRestart
  | k => s.accept k false

/-- Every result batch closed (R311). -/
def State.closeBatches (s : State) : State := (List.range 9).foldl State.closeBatch s

/-- Every context stopped and unloaded, in ascending number (R327). -/
def State.unloadAll (s : State) : State :=
  (List.range 8).foldl (fun s n =>
    let s1 := if s.ctxState n = 2 ∨ s.ctxState n = 3 then s.stopContext n else s
    if s1.ctxState n = 0 then s1 else s1.unload n) s

/-- A transition at its slot boundary (R327, R328): READY from STANDBY and RUN are entered at once; from RUN the outputs end,
the open slots are fused (R228) and no slot opens any more. A device in READY whose last context is EMPTY goes to STANDBY. -/
def State.transitionBoundary (s : State) : State :=
  match s.ctrl.transition with
  | none => if s.dev = 3 ∧ !s.anyContext then s.setNat Ob.deviceState 2 else s
  | some tr =>
    if tr.effective then s
    else
      let s1 := s.setNat Ob.lastTransitionStamp s.time
      match tr.cmd with
      | 1 => if tr.origin = 2 then (s1.complete 3).egoStart
        else { s1 with ctrl := { s1.ctrl with transition := some { tr with effective := true } } }.endDrives.drainArcade
      | 2 => (((s1.complete 4).endDrives).enterRunSquare).startQueue8
      | _ =>
        let s2 := { s1 with ctrl := { s1.ctrl with transition := some { tr with effective := true } } }.endDrives
        if tr.origin = 4 then s2.drainArcade else s2

/-- TRANSITION_COMPLETE: the actions of a transition in effect have finished (R327, R228, R311). A HALT waits for the contexts
that still pause; a RESTART ends with the bring-up of the die. -/
def execTransitionComplete (t : Nat) (s0 : State) : Host.Outcome State Fault Refusal :=
  let s := s0.advance t
  match s.ctrl.transition with
  | none => ok s
  | some tr =>
    if !tr.effective then ok s
    else
      let out := if tr.origin = 4 then s.settleQueue8.closeBatches else s
      match tr.cmd with
      | 1 => ok (out.closeBatches.complete 3)
      | 3 => ok ((out.closeBatches.unloadAll).complete 2)
      | 4 => if (List.range 8).any (fun n => (s.ctx n).pausing) then ok s else ok (out.complete 7)
      | _ => ok s

/-! ## Context commands (Table 13-2) -/

/-- Whether a Context Command is carried out (R329, R385). -/
def State.contextAllowed (s : State) (n cmd : Nat) : Bool :=
  let c := s.ctxState n
  let on := s.dev = 3 || s.dev = 4
  (s.dev != 5 && s.dev != 6) && (match cmd with
    | 1 => c == 1 && on
    | 2 => c == 2
    | 3 => c == 3 && on
    | 4 => c == 2 || c == 3
    | 5 => c == 1 || c == 3 || c == 4
    | _ => false)

/-- PAUSE: the tiles stop once their outstanding transactions end; a committed swap is applied once they have (R429). -/
def State.applyPause (s : State) (n : Nat) : State :=
  let s1 := s.pauseContext n
  if (s1.ctx n).pausing then s1 else s1.swapIfCommitted n

/-- A Context Command carried out. -/
def State.applyContext (s : State) (n cmd : Nat) : State :=
  match cmd with
  | 1 => s.startContext n
  | 2 => s.applyPause n
  | 3 => s.resumeContext n
  | 4 => s.stopContext n
  | _ => s.unload n

/-! ## The Control Claim (R332) -/

/-- Claim Holder's code of a master's side. -/
def claimSide (m : Master) : Nat :=
  match m with
  | .canFd => 2
  | _ => 1

/-- Main Silence in ms (R332). -/
def State.silence (s : State) : Nat :=
  match s.ctrl.ecatLast with
  | some a => satNat 65535 ((s.time - a) / 1000000)
  | none => 65535

/-- Whether no valid CAN FD frame has reached the device for 100 ms. -/
def State.canSilent (s : State) : Bool :=
  match s.ctrl.canLast with
  | some a => decide (a + 100000000 ≤ s.time)
  | none => true

/-- Whether a take of the claim is allowed (Table 13-3). -/
def State.takeAllowed (s : State) (m : Master) : Bool :=
  let st := s.nat Ob.ethercatState
  s.nat Ob.claimHolder = 0 || s.roleOf m = 4
    || (if claimSide m = 1 then s.canSilent else decide (100 ≤ s.silence) || st == 1 || st == 2 || st == 3)

/-- The holder of the claim changed. -/
def State.setHolder (s : State) (h : Nat) : State := (s.setNat Ob.claimHolder h).count 32 Ob.claimChanges 1

/-! ## Frames and field loss -/

/-- ETHERCAT_FRAME: Main Silence returns to 0, a field loss may end, and in OP the RxPDO waits for SYNC0 (R332, R333, R337). -/
def execEthercatFrame (t : Nat) (rx : List Byte) (s0 : State) : Host.Outcome State Fault Refusal :=
  let s := s0.advance t
  if !s.power.lodge then ok s
  else
    let op := decide (s.nat Ob.ethercatState = 8)
    ok { s with ctrl := { s.ctrl with ecatLast := some s.time, fieldLost := s.ctrl.fieldLost && !op,
                                      rxFrame := if op then some rx else s.ctrl.rxFrame } }

/-- CAN_FD_FRAME: a valid frame restarts the side-band's silence (R332). -/
def execCanFdFrame (t : Nat) (s0 : State) : Host.Outcome State Fault Refusal :=
  let s := s0.advance t
  if s.power.lodge then ok { s with ctrl := { s.ctrl with canLast := some s.time } } else ok s

/-- FIELD_LOSS: a loss begins; while the main side holds the claim, Field Loss Action issues GO_READY or HALT, where Table 13-1
lets it (R337). -/
def execFieldLoss (t : Nat) (s0 : State) : Host.Outcome State Fault Refusal :=
  let s := s0.advance t
  let lost := (s.ctrl.leftOp && decide (s.nat Ob.ethercatState ≠ 8)) || decide (100 ≤ s.silence)
  if s.ctrl.fieldLost ∨ !lost then ok s
  else
    let s1 := { s with ctrl := { s.ctrl with fieldLost := true } }
    let cmd := if s.nat Ob.fieldLossAction = 1 then 1 else if s.nat Ob.fieldLossAction = 2 then 4 else 0
    if s.nat Ob.claimHolder = 1 ∧ s1.deviceAllowed cmd then ok (s1.applyDevice cmd) else ok s1

/-! ## Autoload (R366) -/

/-- AUTOLOAD: the device's own next action: it loads the next listed context; once the last has ended and a context is to start, it
issues GO_READY; in READY it starts those that are LOADED. -/
def execAutoload (t : Nat) (s0 : State) : Host.Outcome State Fault Refusal :=
  let s := s0.advance t
  if !s.evaluating ∨ s.loader.load.isSome then ok s
  else match s.loader.autoload with
    | n :: rest =>
      let s1 := { s with loader := { s.loader with autoload := rest, asked := (0, 0) } }
      let slot := s.domNat Ob.autoload (2 * n) 1
      ok (if slot < 8 ∧ s1.loadAllowed slot n then s1.applyLoad slot n else s1)
    | [] =>
      if s.loader.readyDue ∧ s.dev = 2 then
        let s1 := { s with loader := { s.loader with readyDue := false } }
        ok (if s1.deviceAllowed 1 then s1.applyDevice 1 else { s1 with loader := { s1.loader with starts := [] } })
      else if s.dev = 3 ∨ s.dev = 4 then
        let s1 := { s with loader := { s.loader with starts := [], readyDue := false } }
        ok (s.loader.starts.foldl (fun s n => if s.contextAllowed n 1 then s.startContext n else s) s1)
      else ok s

end Sys2Proof.Machine
end

