-- ==== Sys2Proof/Machine/Views.lean ====
section
/-! DEFINITION. What the dictionary shows of state that no object holds: values and DOMAIN contents as a read returns them
(R338, R340 to R344). -/

namespace Sys2Proof.Machine

/-! ## Rings and logs -/

/-- An entry of the status log (Table 14-3). -/
def logBytes (e : LogEntry) : List Byte :=
  leBytes 16 (put 64 64 e.stamp + put 48 16 e.code + put 47 1 (bnat e.fault) + put 32 8 e.unit_ + put 0 32 e.count)

/-- The bytes of Status Log: Status Log Newest names the place of the newest entry (R353). -/
def State.logRing (s : State) : List Byte :=
  (List.range 256).flatMap (fun i =>
    match s.health.log[(s.nat Ob.statusLogNewest + 256 - i) % 256]? with
    | some e => logBytes e
    | none => List.replicate 16 0)

/-- The bytes of Edge Record, oldest entry first (R69). -/
def State.edgeRing (s : State) : List Byte := padTo 16384 (s.kerb.edges.flatMap edgeBytes)

/-- A write of the ledger's history (Table 16-3). -/
def writeBytes (w : WriteEntry) : List Byte :=
  leBytes 8 w.stamp ++ leBytes 2 (w.key / 256) ++ leBytes 1 (w.key % 256) ++ leBytes 1 w.port ++ leBytes 4 w.data.length ++ padTo 16 w.data

/-- The bytes of Tally Values. -/
def State.tallyBytes (s : State) : List Byte := (List.range 70).flatMap (fun u => leBytes 8 (s.recov.tally.get 0 u))

/-- A track's entry of Track Detail: the copy of the latest slot boundary (R250). -/
def State.detailBytes (s : State) (i : Nat) : List Byte :=
  s.square.detail.get (List.replicate 192 0) i

/-- A flash ledger by its number. -/
def State.flashLedger (s : State) (n : Nat) : Option FlashLedger := s.recov.ledgers[n]?

/-! ## Reads -/

/-- Whether an object has no fixed default (R338). -/
def openDefault (k : Nat) : Bool :=
  let i := k / 256
  i == 0x2230 || k == Ob.routeTableBase || k == Ob.residualRingBase || (decide (0x2910 ≤ i ∧ i < 0x2914) && k % 256 == 16)
    || (decide (0x2A10 ≤ i ∧ i < 0x2A14) && k % 256 == 9)

/-- A context's number by an index at `base`. -/
def idxOf (k base : Nat) : Nat := k / 256 - base

/-- The bits of the contexts for which `f` holds. -/
def ctxBits (f : Nat → Bool) : Nat := sumNat ((List.range 8).map (fun n => bnat (f n) * 2 ^ n))

/-- The highest subindex of an index whose count object no table lists (R341). -/
def countOf (i : Nat) : Option Nat :=
  match rowsOf i with
  | [] => none
  | rows => if rows.any (fun r => r.sub == 0) then none else some (rows.foldl (fun m r => max m (r.sub + r.n - 1)) 0)

/-- The values of the standard objects and of the Lodge set that no object holds. -/
def State.lodgeView (s : State) (m : Master) (k : Nat) : Option Int :=
  let i := k / 256
  let sub := k % 256
  if k = Ob.errorRegister then some (errorRegister s : Nat)
  else if i = 0x1003 then some (if sub = 0 then (s.health.stdErrors.length : Nat) else (nth 0 s.health.stdErrors (sub - 1) : Nat))
  else if k = Ob.storeParameters then some 2
  else if k = Ob.restoreDefaultParameters then some 1
  else if k = Ob.cobidEmcy then some (0x80 + s.ctrl.nodeId : Nat)
  else if k = Ob.mainSilence then some (s.silence : Nat)
  else if k = Ob.deviceTime then some (s.time : Nat)
  else if k = Ob.sessionRole then some ((s.session m).role : Nat)
  else if k = Ob.quarantinedContexts then some (ctxBits (fun n => s.ctxState n == 4) : Nat)
  else if 0x2C11 ≤ i ∧ i < 0x2C15 then
    some (match s.flashLedger (i - 0x2C11) with
      | some l => ((if sub = 1 then l.stamp else if sub = 2 then l.cause else l.bytes.length : Nat) : Int)
      | none => 0)
  else none

/-- The values of objects of the die that no object holds; Refine Enable of the anchor frame reads 0 (R266). -/
def State.dieView (s : State) (k : Nat) : Option Int :=
  let i := k / 256
  let sub := k % 256
  if 0x2340 ≤ i ∧ i < 0x2348 ∧ sub = 4 then some (bnat (s.outputDrive (idxOf k 0x2340)) : Nat)
  else if 0x2200 ≤ i ∧ i < 0x2208 ∧ sub = 15 then some (s.groupDelayPs (idxOf k 0x2200) : Nat)
  else if 0x2200 ≤ i ∧ i < 0x2208 ∧ sub = 16 then some (s.settlingCount (idxOf k 0x2200) : Nat)
  else if k = Ob.contextsRunning then some (((List.range 8).filter (fun n => s.ctxState n = 2)).length : Nat)
  else if k = Ob.tilesAsleep then some (((List.range 64).filter (fun t => s.nat (Ob.tileState t) = 1)).length : Nat)
  else if 0x2410 ≤ i ∧ i < 0x2418 ∧ (sub = 2 ∨ sub = 3 ∨ sub = 7) then
    let c := s.ctx (idxOf k 0x2410)
    some (if sub = 2 then (c.origin : Nat) else if sub = 3 then ((c.w - 1) + 8 * (c.h - 1) : Nat) else (c.subs.length : Nat))
  else if 0x2910 ≤ i ∧ i < 0x2914 ∧ sub = 17 then some (s.loopStatesOf (idxOf k 0x2910) : Nat)
  else if k = Ob.refineEnable (s.nat Ob.extrinsicAnchor) then some 0
  else if 0x2930 ≤ i ∧ i < 0x2940 ∧ sub = 6 then some (s.extStateOf (idxOf k 0x2930) : Nat)
  else if k = Ob.scaleLoopState then some (s.scaleStateOf : Nat)
  else if 0x2B10 ≤ i ∧ i < 0x2B19 ∧ sub = 9 then some ((s.queue (idxOf k 0x2B10)).fillBytes : Nat)
  else if 0x2B10 ≤ i ∧ i < 0x2B19 ∧ sub = 10 then some ((s.queue (idxOf k 0x2B10)).closedBytes : Nat)
  else none

/-- The value a read of a numeric object returns; with the die down an object outside the Lodge set reads its default, or 0
where it has no fixed one (R338, R341). -/
def State.readNum (s : State) (m : Master) (k : Nat) : Int :=
  match (if k % 256 = 0 then countOf (k / 256) else none) with
  | some c => (c : Nat)
  | none =>
    if !s.dieUp ∧ !lodgeKey k then (if openDefault k then 0 else dfltNum k)
    else match (if lodgeKey k then s.lodgeView m k else s.dieView k) with
      | some v => v
      | none => s.num k

/-- The characters of a string, padded to `n` bytes. -/
def charBytes (n : Nat) (t : String) : List Byte := padTo n (t.toList.map (fun c => BitVec.ofNat 8 c.toNat))

/-- The bytes a read of a DOMAIN or a string returns, `n` long where the object has a fixed size. The Result Windows are read by
`readQueue`, the challenge by `readChallenge`, debug data by `readDebug`. Track Detail is the copy of the latest slot boundary (R250;
log entry 60). -/
def State.readDom (s : State) (k n : Nat) : List Byte :=
  let i := k / 256
  if k = Ob.manufacturerDeviceName then charBytes n "Shetus 64E"
  else if k = Ob.manufacturerHardwareVersion then leBytes n (Config.factory 0)
  else if k = Ob.manufacturerSoftwareVersion then leBytes n (Config.factory 6)
  else if k = Ob.statusLog then s.logRing
  else if k = Ob.tallyValues then s.tallyBytes
  else if k = Ob.auditLog then auditRing s.sec.audit s.sec.audited
  else if 0x2C11 ≤ i ∧ i < 0x2C15 then ((s.flashLedger (i - 0x2C11)).map (·.bytes)).getD []
  else if k = Ob.accessRightsTable then s.accessTable
  else if !s.dieUp ∧ !lodgeKey k then (List.range n).map (dfltDomByte k)
  else if k = Ob.edgeRecord then s.edgeRing
  else if k = Ob.counterValues then (List.range 60).flatMap (fun c => leBytes 4 (s.kerb.counters.get 0 c))
  else if k = Ob.streamWatermarks then s.watermarkBytes
  else if k = Ob.trackDetail then (List.range 4096).flatMap s.detailBytes
  else if 0x2100 ≤ i ∧ i < 0x2140 ∧ i % 16 = 4 ∧ k % 256 = 6 then
    (s.port ((i - 0x2100) / 16)).hotList.flatMap (fun h => leBytes 4 (h.y * 65536 + h.x))
  else s.domBytes k 0 n

end Sys2Proof.Machine
end

