-- ==== Sys2Proof/Machine/Recovery.lean ====
section
/-! DEFINITION. Hang detection and recovery (R379 to R398): tallies, fence, ledger, reset, replay of suspects, return to service;
the end of the die's bring-up (R365). -/

namespace Sys2Proof.Machine

/-- The sequencer's state changed. -/
def State.modRecov (s : State) (f : Recov → Recov) : State := { s with recov := f s.recov }

/-! ## Tallies (R379, R380, Table 16-1) -/

/-- Whether a context is RUNNING, or PAUSED with transactions still outstanding (R393, Table 16-1). -/
def State.works (s : State) (n : Nat) : Bool :=
  decide (n < 8) && (s.ctxState n == 2 || (s.ctxState n == 3 && !s.quiet n))

/-- Whether a neuron unit holds unapplied input or a released step it has not reported. -/
def State.unitPends (s : State) (t : Nat) : Bool :=
  let u := s.nunit t
  let unreported : Bool := match u.released with
    | some k => decide ((s.ctx (s.tileCtx t)).opened = some k) && !(s.ctx (s.tileCtx t)).doneTiles.contains t
    | none => false
  s.market.spikes.any (fun m => m.tile == t) || u.far != [] || u.walks != [] || unreported

/-- Whether a tile has pending work. -/
def State.tilePends (s : State) (t : Nat) : Bool :=
  let st := s.nat (Ob.tileState t)
  s.works (s.tileCtx t) && (st == 2 || st == 3 || s.unitPends t)

/-- Whether a microsecond of a tile is exempt: it holds on a full queue under HOLD, waits for a delivery with an empty ring, or
holds only on transactions to other modules still within Response Timeout. -/
def State.tileExempt (s : State) (t : Nat) : Bool :=
  let tl := s.tile t
  let n := s.tileCtx t
  let inTime := s.link.requests.all (fun r => r.tile != t || r.answer.isSome || decide (s.time < r.sentAt + 1000 * s.nat Ob.responseTimeout))
  let remote := tl.trans != [] && tl.trans.all (fun x => x.acc.module.isSome) && inTime
  match tl.hold with
  | .resultCredit => s.nat (Ob.overflowPolicy n) == 0 && (s.queue n).fullAt.isSome
  | .wait id _ => id == 255 && tl.ringHeld == 0
  | .transactions => remote
  | .generator _ => remote
  | _ => false

/-- Whether the Square has pending work. -/
def State.squarePends (s : State) : Bool :=
  s.dev == 4 && (s.market.submissions != [] || s.square.open_.any (fun o => o.closed || decide (o.deadline < s.time)))

/-- Whether the Gate has pending work: pending packets, or samples of slots that have ended and are not yet written. -/
def State.gatePends (s : State) : Bool :=
  let old := fun (st : Nat) => decide (slotOf st < slotOf s.time)
  (List.range 4).any (fun p => match (s.port p).packet with
      | some pk => pk.items != []
      | none => false)
    || (List.range 8).any (fun n => (s.chan n).entries.any (fun e => old e.1))
    || (List.range 2).any (fun m => (s.inert m).entries.any (fun e => old e.1))
    || (List.range 4).any (fun e => (s.enc e).edges.any (fun x => old x.1))

/-- Whether a link port has pending work. -/
def State.linkPends (s : State) (p : Nat) : Bool :=
  let l := s.linkPort p
  s.linkUp p && (l.queue != [] || l.retry != [] || (match l.rx with
    | some r => r.route == .undecided
    | none => false))

/-- Whether a link port only waits for credits of a neighbour in host mode. -/
def State.linkExempt (s : State) (p : Nat) : Bool :=
  let l := s.linkPort p
  s.hostMode p && l.retry == [] && l.rx.isNone && l.queue != [] && (nextClass l).isNone

/-- Whether a unit has pending work: tiles 0 to 63, Square, Gate, L0 to L3. -/
def State.unitWorks (s : State) (u : Nat) : Bool :=
  if u < 64 then s.tilePends u else if u = 64 then s.squarePends else if u = 65 then s.gatePends else s.linkPends (u - 66)

/-- Whether the present microsecond of a unit is exempt. -/
def State.unitExempt (s : State) (u : Nat) : Bool :=
  if u < 64 then s.tileExempt u else if u < 66 then false else s.linkExempt (u - 66)

/-- The tiles of the suspect in replay. -/
def State.replayTiles (s : State) : List Nat :=
  match s.recov.replay with
  | some r => s.ctxTiles r.ctx
  | none => []

/-- The window in µs that a unit's next stall takes (R380); in a replay that of the suspect's tiles is at most Replay Slice (R395). -/
def State.nextWindow (s : State) (u : Nat) : Nat :=
  if u < 64 then
    let w := s.nat Ob.tallyWindowTile
    match s.recov.replay with
    | some r => if s.replayTiles.contains u then min w (1000 * r.slice) else w
    | none => w
  else if u = 64 then s.nat Ob.tallyWindowSquare
  else if u = 65 then s.nat Ob.tallyWindowGate
  else s.nat Ob.tallyWindowLink

/-- The window of a unit in µs: one that runs keeps the value it began with, and a change applies from the unit's next one (R352, R385). -/
def State.tallyWindow (s : State) (u : Nat) : Nat := s.recov.windows.get (s.nextWindow u) u

/-- Whether tallies are checked. -/
def State.watching (s : State) : Bool := s.evaluating || s.recov.phase == .replaying

/-- The stall time of a unit after a sample (R380). -/
def State.stallAfter (s : State) (u : Nat) : Nat :=
  let old := s.recov.stall.get 0 u
  if s.recov.tally.get 0 u ≠ s.recov.prev.get 0 u then 0
  else if !s.unitWorks u then 0
  else if s.unitExempt u then old
  else old + 1

/-- The tallies of tiles that hold only because a result queue under HOLD is full: each microsecond counts as progress (R308). -/
def State.countHolds (s : State) : State :=
  (List.range 64).foldl (fun s t =>
    let n := s.tileCtx t
    if (s.tile t).hold = .resultCredit ∧ s.nat (Ob.overflowPolicy n) = 0 ∧ (s.queue n).fullAt.isSome then s.progress t else s) s

/-- TALLY_SAMPLE: every microsecond the tallies are sampled (R308, R379, R380). -/
def execTallySample (t : Nat) (s0 : State) : Host.Outcome State Fault Refusal :=
  let s := (s0.advance t).countHolds
  if !s.watching then ok s
  else
    let stalls := (List.range 70).foldl (fun m u => m.set u (s.stallAfter u)) s.recov.stall
    let running := ((List.range 70).filter (fun u => s.stallAfter u ≠ 0)).map (fun u => (u, s.tallyWindow u))
    ok (s.modRecov (fun r => { r with stall := stalls, windows := running, prev := r.tally }))

/-- The units whose stall time has reached their window. -/
def State.expiredUnits (s : State) : List Nat :=
  (List.range 70).filter (fun u => decide (s.tallyWindow u ≤ s.recov.stall.get 0 u))

/-! ## Expiry and fence (R381 to R385, R393) -/

/-- The cause code of a unit (Table 16-1). -/
def causeOf (u : Nat) : Nat := if u < 64 then 0x0B01 else if u = 64 then 0x0B02 else if u = 65 then 0x0B03 else 0x0B04

/-- The unit field of a code raised for a unit. -/
def unitField (u : Nat) : Nat := if u < 64 then u else if u < 66 then noUnit else u - 66

/-- Whether an expiry ends in HALTED (R382). -/
def State.expiryHalts (s : State) (units : List Nat) : Bool :=
  let soon : Bool := match s.recov.returned with
    | some a => decide (s.time < a + 60000000000)
    | none => false
  !s.on Ob.recoveryEnable || soon || (s.recov.phase == .replaying && units.any (fun u => !s.replayTiles.contains u))

/-- The suspects of an expiry: contexts at work on a partition with an expired tile (R393). -/
def State.suspectsOf (s : State) (units : List Nat) : List Nat :=
  (List.range 8).filter (fun n => s.works n && (s.ctxTiles n).any (fun t => units.contains t))

/-- The subsystems fenced (Table 16-2): intake and slots discarded, RUNNING contexts pausing, batches closed, no load or commit or
transition goes on. -/
def State.fence (s : State) : State :=
  let s1 := ((((List.range 4).foldl State.closeEdges s).endDrives.pauseAll).abandonSlots).closeBatches
  let pend := s1.nat Ob.commitPending
  let s2 := (s1.dropCommit).setAll [(Ob.dieUp, 0), (Ob.loadProgress, 0), (Ob.commitPending, 0), (Ob.transitionPending, 0)]
  { s2 with
    gate := { s2.gate with feed := [], ports := s2.gate.ports.mapVal (fun _ q => { q with queue := [], backlog := [], packet := none, i3c := [] }) },
    market := { s2.market with submissions := [], ctxs := s2.market.ctxs.mapVal (fun _ c =>
      if pend = 2 ∧ c.swapAccepted then { c with staged := none, swapAccepted := false, swapping := false } else c) },
    loader := { s2.loader with load := none, unloading := [], test := none },
    ctrl := { s2.ctrl with transition := none },
    disc := { s2.disc with syncHigh := false } }

/-- TALLY_EXPIRY: units have stalled for their windows (R381 to R383). In a replay, an expiry of the suspect's own tiles is that of
REPLAY_HANG. -/
def execTallyExpiry (t : Nat) (s0 : State) : Host.Outcome State Fault Refusal :=
  let s := s0.advance t
  match s.expiredUnits with
  | [] => ok s
  | u :: us =>
    let units := u :: us
    if !s.watching ∨ (s.recov.phase = .replaying ∧ units.all (fun x => s.replayTiles.contains x)) then ok s
    else
      let sus := s.suspectsOf units
      let s1 := (s.raise (causeOf u) (unitField u)).count 32 Ob.recoveryCount 1
      let s2 := s1.setAll [(Ob.lastRecoveryCause, (causeOf u : Nat)), (Ob.lastHungUnit, (u : Nat)), (Ob.deviceState, 5), (Ob.recoveryStage, 1),
        (Ob.suspectContexts, (ctxBits (fun n => sus.contains n) : Nat))]
      let s3 := s2.modRecov (fun r =>
        { r with phase := .fencing, restart := false, expired := units, expiryAt := s.time, fenceAt := 0, cause := causeOf u, prior := s.dev,
                 ctxStates := (List.range 8).map s.ctxState, logicals := (List.range 8).map (fun n => ((s.ctx n).logical.getD 0)),
                 tallies := (List.range 70).map (fun x => s.recov.tally.get 0 x), halts := s.expiryHalts units, incomplete := false,
                 missing := [], suspects := sus, replay := none, lost := false })
      ok s3.fence

/-- A tile's outstanding transactions end: a hung tile's in error, any other's with their answers (R384, Table 16-2). -/
def State.drainTile (s : State) (t : Nat) : State :=
  let hung := s.recov.expired.contains t
  let s1 := (s.tile t).trans.foldl (fun s tr => s.answerTrans t tr (hung || tr.acc.module.isSome)) s
  (s1.modTile t (fun tl => { tl with unit_ := { tl.unit_ with misses := [] } })).showOutstanding t

/-- A tile's outstanding transactions dropped (Table 16-8). -/
def State.dropTile (s : State) (t : Nat) : State :=
  (s.modTile t (fun tl => { tl with trans := [], unit_ := { tl.unit_ with misses := [] } })).showOutstanding t

/-- The contexts that were pausing have paused. -/
def State.settlePauses (s : State) : State :=
  (List.range 8).foldl (fun s n =>
    if (s.ctx n).pausing then (s.modCtx n (fun c => { c with pausing := false })).stopTiles n 4 else s) s

/-- FENCE_COMPLETE: every subsystem has reported fence-done, and the ledger stage begins (R384, R386). -/
def execFenceComplete (t : Nat) (s0 : State) : Host.Outcome State Fault Refusal :=
  let s := s0.advance t
  if s.recov.phase ≠ .fencing then ok s
  else
    let s1 := ((List.range 64).foldl State.drainTile s).settlePauses
    ok ((s1.setNat Ob.recoveryStage 2).modRecov (fun r => { r with phase := .ledger, fenceAt := s.time }))

/-- FENCE_TIMEOUT: the fence is incomplete 2 ms after the expiry; outstanding work is dropped, and a recovery goes on with a hard
reset (R384, Table 16-8). -/
def execFenceTimeout (t : Nat) (s0 : State) : Host.Outcome State Fault Refusal :=
  let s := s0.advance t
  if s.recov.phase ≠ .fencing ∨ s.time < s.recov.expiryAt + 2000000 then ok s
  else
    let s1 := ((List.range 64).foldl State.dropTile s).settlePauses
    let s2 := (s1.raise 0x0B05 noUnit).setNat Ob.recoveryStage 2
    let s3 := if s.recov.halts then s2 else s2.count 32 Ob.hardResets 1
    ok ({ s3 with market := { s3.market with posts := [], spikes := [] } }.modRecov (fun r => { r with phase := .ledger, incomplete := true }))

/-! ## The ledger (R386, Tables 16-3 and 16-4) -/

/-- LEDGER_READ_TIMEOUT: a unit did not answer within 4 µs and is read no further (R386). -/
def execLedgerReadTimeout (t : Nat) (u : Fin 70) (s0 : State) : Host.Outcome State Fault Refusal :=
  let s := s0.advance t
  if s.recov.phase ≠ .ledger ∨ s.recov.missing.contains u.val then ok s
  else ok ((s.raise 0x0B07 (unitField u)).modRecov (fun r => { r with missing := r.missing ++ [u.val] }))

/-- The size of a unit's deep capture (Table 16-3). -/
def deepSize (u : Nat) : Nat := 1024 * (if u < 64 then 1536 else if u = 64 then 1808 else if u = 65 then 192 else 232)

/-- The deep captures: up to 4 of the expired units in order until the next does not fit, with their offsets. -/
def deepList : Nat → Nat → List Nat → List (Nat × Nat)
  | _, _, [] => []
  | 0, _, _ => []
  | n + 1, off, u :: us => if off + deepSize u ≤ 0x800000 then (u, off) :: deepList n (off + deepSize u) us else []

/-- What the capture path brought of an area, `n` bytes from `off` on (log entry 40). -/
def State.captured (s : State) (off n : Nat) : List Byte :=
  (List.range n).map (fun i => BitVec.ofNat 8 (Config.capture s.recov.expiryAt (off + i)))

/-- The ledger header (Table 16-4). -/
def State.ledgerHeader (s : State) (size : Nat) (deep : List (Nat × Nat)) : List Byte :=
  let r := s.recov
  let miss := fun (u : Nat) => bnat (r.missing.contains u)
  padTo 4096 (leBytes 4 size ++ leBytes 2 r.cause ++ leBytes 1 (s.nat Ob.lastHungUnit) ++ leBytes 1 r.prior ++ leBytes 4 (s.nat Ob.recoveryCount)
    ++ leBytes 4 (bnat r.incomplete + 2 * bnat r.halts) ++ leBytes 8 r.expiryAt ++ leBytes 8 r.fenceAt ++ leBytes 4 (s.nat Ob.revisionNumber)
    ++ leBytes 4 0 ++ leBytes 16 (sumNat (r.expired.map (fun u => 2 ^ u))) ++ r.ctxStates.flatMap (leBytes 1) ++ r.logicals.flatMap (leBytes 8)
    ++ r.tallies.flatMap (leBytes 8) ++ [Ob.tallyWindowTile, Ob.tallyWindowSquare, Ob.tallyWindowGate, Ob.tallyWindowLink].flatMap (fun k => leBytes 4 (s.nat k))
    ++ (List.range 70).flatMap (fun u => leBytes 1 (miss u)) ++ leBytes 2 0
    ++ padTo 64 (deep.flatMap (fun d => leBytes 1 d.1 ++ leBytes 1 (miss d.1) ++ leBytes 2 0 ++ leBytes 4 d.2 ++ leBytes 4 (deepSize d.1) ++ leBytes 4 0)))

/-- The ledger's bytes (Table 16-3). -/
def State.ledgerBytes (s : State) : List Byte :=
  let deep := deepList 4 0x230000 s.recov.expired
  let size := deep.foldl (fun z d => max z (d.2 + deepSize d.1)) 0x230000
  s.ledgerHeader size deep ++ s.logRing ++ s.edgeRing ++ padTo 40960 (s.ctrl.history.flatMap writeBytes) ++ s.captured 0x10000 0x200000
    ++ auditRing s.sec.audit s.sec.audited ++ s.captured 0x230000 (size - 0x230000)

/-- The ledger written into its DRAM area; one there whose flash copy had not completed is lost (R386). -/
def State.writeLedger (s : State) : State :=
  let s1 := { s with mem := Memory.splice s.mem (s.nat Ob.ledgerBase) s.ledgerBytes }
  (s1.raiseIf s.recov.dramLedger 0x0B0A noUnit).modRecov (fun r => { r with dramLedger := true })

/-- The reset of a recovery: self-refresh, RECOVERING, reset of the whole die (R388, R397). A hard reset keeps the DRAM only
where its self-refresh was confirmed, which the spec leaves open. -/
def State.recoverReset (s : State) : State :=
  let lost := s.recov.incomplete && decide (s.free % 2 = 1)
  let s1 := (s.drew (bnat s.recov.incomplete)).dieReset (!lost) (!lost)
  (s1.modRecov (fun r => { r with phase := .reset, since := s.time, lost := lost, prior := if lost then 2 else r.prior, suspects := if lost then [] else r.suspects,
                                  dramLedger := r.dramLedger && !lost })).setAll [(Ob.deviceState, 6), (Ob.recoveryStage, 3)]

/-- LEDGER_WRITTEN: the ledger is in DRAM; the device goes to HALTED without a reset, or the die is reset (R382, R386, R388). -/
def execLedgerWritten (t : Nat) (s0 : State) : Host.Outcome State Fault Refusal :=
  let s := s0.advance t
  if s.recov.phase ≠ .ledger then ok s
  else
    let s1 := s.writeLedger
    if s.recov.halts then ok (s1.quietSequencer.setAll [(Ob.deviceState, 7), (Ob.recoveryStage, 0)])
    else ok s1.recoverReset

/-! ## Reset and bring-up (R365, R388, R391, R397) -/

/-- RESET_RELEASE: reset is released 1 ms after its assertion (R388). -/
def execResetRelease (t : Nat) (s0 : State) : Host.Outcome State Fault Refusal :=
  let s := s0.advance t
  if s.recov.phase = .reset ∧ s.recov.since + 1000000 ≤ s.time then ok (s.modRecov (fun r => { r with phase := .released, since := s.time }))
  else ok s

/-- RESET_DONE: firmware is verified, and DRAM and Chaivo ports train (R388). -/
def execResetDone (t : Nat) (s0 : State) : Host.Outcome State Fault Refusal :=
  let s := s0.advance t
  if s.recov.phase ≠ .released then ok s
  else
    let s1 := ((s.setNat Ob.recoveryStage (if s.recov.restart then 0 else 4)).modRecov (fun r => { r with phase := .retraining })).bootFirmware s.recov.restart
    if s1.dev = 7 then
      ok ({ s1.quietSequencer with ctrl := { s1.ctrl with transition := none } }.setAll [(Ob.transitionPending, 0), (Ob.recoveryStage, 0)])
    else ok s1.startLinks

/-- Whether the die is being brought up at the start of the module. -/
def State.booting (s : State) : Bool := s.dev == 1 && s.power.rails && !s.dieUp

/-- The module power-cycled by the Lodge with 0x0B06 (R397). -/
def State.escalate (s : State) : State := ((s.raise 0x0B06 noUnit).count 32 Ob.modulePowerCycles 1).cycleModule

/-- RESET_DONE_TIMEOUT: no reset-done 50 ms after the release of reset or the restart of the rails (R397). -/
def execResetDoneTimeout (t : Nat) (s0 : State) : Host.Outcome State Fault Refusal :=
  let s := s0.advance t
  if s.recov.phase = .released ∧ s.recov.since + 50000000 ≤ s.time ∨ s.booting then ok s.escalate else ok s

/-- DRAM_RETRAIN_FAIL: retraining has failed for the third time (R397). -/
def execDramRetrainFail (t : Nat) (s0 : State) : Host.Outcome State Fault Refusal :=
  let s := s0.advance t
  if s.recov.phase = .retraining then ok s.escalate else ok s

/-- The Square's start: the wait limit, and every sensor at its floor (Table 15-2, R173). -/
def State.startHistory (s : State) : State :=
  let s1 := (List.range 24).foldl State.sensorToFloor s
  s1.setAll [(Ob.waitLimit, (max (s.nat Ob.waitLimitMin) (min (s.nat Ob.waitLimitMax) (s.nat Ob.pinnedWaitLimit)) : Nat)),
    (Ob.deviceStep, (s1.stepFor DevStep.init : Nat))]

/-- The sensor ports start again at step 10 of Table 16-6, once no suspect is left to be replayed. -/
def State.nextSuspect (s : State) : State :=
  if s.recov.suspects = [] then (s.modRecov (fun r => { r with phase := .returning, since := s.time })).startPorts else s

/-- STANDBY is entered with the die up, and enabled inputs start (Table 15-1, step 7, R401). -/
def State.enterStandby (s : State) : State :=
  (((s.setAll [(Ob.deviceState, 2), (Ob.dieUp, 1)]).showLoader.startHistory).startInputs.startPorts).fuseVersion

/-- DIE_BRINGUP_DONE: the die is ready. At power-up the calibration image is applied and Autoload begins (R365, R366, R274, R389);
after RESTART the device is in STANDBY (R327); in a recovery the contexts' images are rewritten and suspects are replayed (R391). -/
def execDieBringupDone (t : Nat) (s0 : State) : Host.Outcome State Fault Refusal :=
  let s := s0.advance t
  if s.booting then
    let s1 := s.applyCalImage.raiseIf s.link.mirror.isSome 0x0B0B noUnit
    ok (s1.enterStandby.startLinks.takeAutoload)
  else if s.recov.phase ≠ .retraining then ok s
  else if s.recov.restart then
    ok ((s.enterStandby.quietSequencer).complete 2)
  else
    let s1 := (((s.setAll [(Ob.dieUp, 1), (Ob.recoveryStage, 5)]).showLoader.startHistory).restoreTiles).startInputs
    let s2 := s1.modRecov (fun r => { r with phase := .replaying })
    ok ((if s.recov.lost then s2.takeAutoload else s2).nextSuspect)

/-- LEDGER_FLASH_COPY_DONE: the newest ledger joins those in flash, or the copy has failed (R387). -/
def execLedgerFlashCopyDone (t : Nat) (copied : Bool) (s0 : State) : Host.Outcome State Fault Refusal :=
  let s := s0.advance t
  if !s.recov.dramLedger ∨ !s.dieUp then ok s
  else if !copied then ok (s.raise 0x0B0A noUnit)
  else
    let base := s.nat Ob.ledgerBase
    let bs := Memory.slice s.mem base (Memory.readNat s.mem base 4)
    let s1 := s.modRecov (fun r => { r with dramLedger := false, ledgers := (⟨leAt bs 16 8, leAt bs 4 2, bs⟩ :: r.ledgers).take 4 })
    ok (s1.setNat Ob.ledgersStored s1.recov.ledgers.length)

/-- Ledger Clear: the flash ledgers are erased (R387). -/
def State.applyLedgerClear (s : State) : State := (s.modRecov (fun r => { r with ledgers := [] })).setNat Ob.ledgersStored 0

/-! ## Replay of suspects (R393 to R395) -/

/-- What the decoding of replayed packets carries: running time, the extended time with its raw value, the anchor, the last
stamp, the epoch in force, the stamp of the frame, the words made. -/
structure ReplayRun where
  running : Nat
  time : Nat
  raw : Nat
  anchor : Option (Nat × Nat)
  last : Option Nat
  epoch : Option Nat
  frame : Nat
  words : List LaneWord
  deriving DecidableEq, Repr

/-- Words behind those made. -/
def ReplayRun.put (r : ReplayRun) (ws : List LaneWord) : ReplayRun := { r with words := r.words ++ ws }

/-- The anchor set by the first event or trigger of a replay, with its START and EPOCH markers (R41, R394). -/
def ReplayRun.anchored (r : ReplayRun) (p ext arrival num : Nat) : ReplayRun :=
  match r.anchor with
  | some _ => r
  | none => { r with anchor := some (ext, arrival), epoch := some (arrival / 2 ^ 37) }.put
      [⟨1, startMarker p 1 arrival, num, arrival⟩, ⟨1, epochMarker p arrival, num, arrival⟩]

/-- A raw word of a replayed packet: decoded and restamped with a fresh anchor, through no stage (R394). -/
def State.replayWord (s : State) (p arrival num : Nat) (r : ReplayRun × Bool) (w : Nat) : ReplayRun × Bool :=
  let d := s.decodeWord p r.1.running r.2 w
  match d.what with
  | .discard => ({ r.1 with running := d.running }, d.timeSet)
  | .none_ => ({ r.1 with running := d.running, time := extendTime (s.timeWidth p) r.1.time r.1.raw d.running, raw := d.running }, d.timeSet)
  | .event x y pol =>
    let ext := extendTime (s.timeWidth p) r.1.time r.1.raw d.running
    let a := { r.1 with running := d.running, time := ext, raw := d.running }.anchored p ext arrival num
    let st := raised a.last (s.stampOf p (a.anchor.getD (ext, arrival)) ext)
    let mark := if a.epoch = some (st / 2 ^ 37) then a else { a with epoch := some (st / 2 ^ 37) }.put [⟨1, epochMarker p st, num, st⟩]
    ({ mark with last := some st }.put [⟨0, eventLane p pol x y st, num, st⟩], d.timeSet)
  | .trigger number level =>
    let ext := extendTime (s.timeWidth p) r.1.time r.1.raw d.running
    let a := { r.1 with running := d.running, time := ext, raw := d.running }.anchored p ext arrival num
    let st := raised a.last (s.stampOf p (a.anchor.getD (ext, arrival)) ext)
    ({ a with last := some st }.put [⟨1, triggerMarker p 0 number level st, num, st⟩], d.timeSet)

/-- A record of the ring replayed: a packet whose CRC had passed (R394, Table 2-8). -/
def State.replayRecord (s : State) (p first last : Nat) (r : ReplayRun) (x : RingRec) : ReplayRun :=
  let at_ := fun (i : Nat) => Memory.read s.mem (replayBase p + (x.off + i) % replaySize)
  let h := ofLeBytes ((List.range 16).map at_)
  let arrival := field h 64 64
  let payload := (List.range (field h 0 32)).map (fun i => at_ (16 + i))
  if field h 61 1 = 0 ∨ arrival < first ∨ last < arrival then r
  else if field h 48 5 ≠ 0 then r
  else
    if 3 ≤ s.nat (Ob.wordFormat p) then
      if payload = [] then (if field h 53 6 = 0 then { r with frame := arrival } else r)
      else r.put ((lineWords arrival r.frame payload).map (fun w => ⟨3, w, x.num, arrival⟩))
    else
      let n := s.wordBits p / 8
      ((List.range (payload.length / n)).foldl (fun a i => s.replayWord p arrival x.num a (leAt payload (n * i) n)) (r, false)).1

/-- The lane words of a port for a replay. -/
def State.replayPort (s : State) (p first last : Nat) : List LaneWord :=
  ((s.port p).ring.foldl (s.replayRecord p first last) ⟨0, 0, 0, none, none, none, 0, []⟩).words

/-- The ports a context subscribes to. -/
def State.subPorts (s : State) (n : Nat) : List Nat := (List.range 4).filter (fun p => (s.ctx n).subs.any (fun x => x.port.val == p))

/-- SUSPECT_REPLAY_START: the next suspect runs in REPLAY mode on the records of its range (R394). -/
def execSuspectReplayStart (t : Nat) (s0 : State) : Host.Outcome State Fault Refusal :=
  let s := s0.advance t
  match s.recov.suspects, s.recov.replay with
  | n :: _, none =>
    if s.recov.phase ≠ .replaying then ok s
    else
      let ports := s.subPorts n
      let oldest := ((ports.filterMap (fun p => ((s.port p).ring.head?).map (·.stamp))).min?).getD 0
      let first := max (nth 0 s.recov.logicals n) oldest
      let last := s.recov.expiryAt
      let s1 := ((s.startContext n).setMode n 3).modCtx n (fun c => { c with startLeft := 0 })
      let s2 := ports.foldl (fun s p => s.modPort p (fun q => refill { q with queue := [], backlog := s.replayPort p first last })) s1
      ok (s2.modRecov (fun r => { r with replay := some ⟨n, s.time, first, last, s.nat Ob.replaySlice⟩, stall := [], windows := [] }))
  | _, _ => ok s

/-- The replay in progress ends: undelivered words go, the context waits for step 10 with no logical time (R395). -/
def State.endReplay (s : State) (n : Nat) : State :=
  let s1 := (s.subPorts n).foldl (fun s p => s.modPort p (fun q => { q with queue := [], backlog := [] })) s
  let s2 := ((s1.modCtx n (fun c => { c with logical := none, exactNow := true, exactNext := false })).setMode n 0).setAll
    [(Ob.logicalTime n, 0), (Ob.lag n, 0)]
  (s2.modRecov (fun r => { r with replay := none, suspects := r.suspects.filter (fun x => x != n) })).nextSuspect

/-- The suspect in replay passes (R395). -/
def State.passReplay (s : State) (n : Nat) : State := ((s.pauseContext n).raise 0x0B09 n).endReplay n

/-- REPLAY_RANGE_DONE: every record of the range has been delivered and the logical time has reached its end (R395). -/
def execReplayRangeDone (t : Nat) (s0 : State) : Host.Outcome State Fault Refusal :=
  let s := s0.advance t
  match s.recov.replay with
  | some r =>
    let delivered := (s.subPorts r.ctx).all (fun p => (s.port p).queue == [] && (s.port p).backlog == [])
    let reached : Bool := match (s.ctx r.ctx).logical with
      | some l => decide (r.last ≤ l)
      | none => false
    if delivered ∧ reached then ok (s.passReplay r.ctx) else ok s
  | none => ok s

/-- REPLAY_SLICE_EXPIRY: Replay Slice has passed without an expiry (R395). -/
def execReplaySliceExpiry (t : Nat) (s0 : State) : Host.Outcome State Fault Refusal :=
  let s := s0.advance t
  match s.recov.replay with
  | some r => if r.started + 1000000 * r.slice ≤ s.time then ok (s.passReplay r.ctx) else ok s
  | none => ok s

/-- REPLAY_HANG: a tile tally of the suspect expires and the context is QUARANTINED (R395). -/
def execReplayHang (t : Nat) (s0 : State) : Host.Outcome State Fault Refusal :=
  let s := s0.advance t
  match s.recov.replay with
  | some r =>
    let n := r.ctx
    if s.expiredUnits.any (fun u => (s.ctxTiles n).contains u) then
      let s1 := ((s.leaveRunning n).setAll [(Ob.contextState n, 4), (Ob.contextStatus n, 0x0B08)]).stopTiles n 4
      ok (((s1.raise 0x0B08 n).modRecov (fun r => { r with stall := [], windows := [] })).endReplay n)
    else ok s
  | none => ok s

/-! ## Return to service (R391, R392) -/

/-- A context in its state at the expiry: RUNNING from the start of its arithmetic, or going on where its replay passed (R392). -/
def State.returnContext (s : State) (n : Nat) : State :=
  let suspect := bitAt (s.nat Ob.suspectContexts) n
  let s1 := (s.modCtx n (fun c => { c with logical := none, pausing := false })).setAll [(Ob.logicalTime n, 0), (Ob.lag n, 0)]
  if nth 0 s.recov.ctxStates n = 2 ∧ s.ctxState n = 3 then (if suspect then s1.runOn n else s1.startContext n) else s1

/-- Whether step 10 of Table 16-6 has come: each sensor port that was started is STREAMING, or 500 ms have passed (R391). -/
def State.portsReturned (s : State) : Bool :=
  (List.range 4).all (fun p => !s.on (Ob.portEnable p) || s.nat (Ob.portState p) == 2) || decide (s.recov.since + 500000000 ≤ s.time)

/-- RETURN_TO_SERVICE: device and contexts are in their states at the expiry (R392, Table 16-6, step 10). -/
def execReturnToService (t : Nat) (s0 : State) : Host.Outcome State Fault Refusal :=
  let s := s0.advance t
  if s.recov.phase ≠ .returning ∨ !s.portsReturned then ok s
  else
    let s1 := (s.heldContexts.filter (fun n => s.ctxState n ≠ 4)).foldl State.returnContext s
    let s2 := s1.setAll [(Ob.deviceState, (s.recov.prior : Nat)), (Ob.recoveryStage, 0),
      (Ob.lastRecoveryDuration, (satNat (2 ^ 32 - 1) ((s.time - s.recov.expiryAt) / 1000) : Nat))]
    let s3 := s2.quietSequencer.modRecov (fun r => { r with returned := some s.time, stall := [], windows := [], prev := r.tally })
    ok (if s.recov.prior = 4 then (s3.enterRunSquare).startQueue8 else s3)

end Sys2Proof.Machine
end

