-- ==== Sys2Proof/Machine/Checks.lean ====
section
/-! DEFINITION. The checks of a dictionary write (R334, Table 13-4): existence, length, role, access, certified lock, die, claim,
content and state. -/

namespace Sys2Proof.Machine

/-! ## Objects, lengths, values (checks 1 and 2) -/

/-- The row of an object, the count objects of R341 among them. -/
def objAt (k : Nat) : Option ObjRow :=
  match objRow k with
  | some r => some r
  | none =>
    if k % 256 = 0 then (countOf (k / 256)).map (fun c => ⟨0, 1, .u 8, .ro, 1, (c : Nat), .any⟩) else none

/-- The width of a numeric object in bits; 0 for a DOMAIN or a string. -/
def widthOf (r : ObjRow) : Nat :=
  match r.ty with
  | .u w => w
  | .i w => w
  | .real => 32
  | _ => 0

/-- Whether a download has the length of the object (R343, check 2). -/
def lengthOk (r : ObjRow) (n : Nat) : Bool :=
  if widthOf r ≠ 0 then n = widthOf r / 8
  else match r.rng with
    | .dom k => n = k
    | .domIn lo hi => decide (lo ≤ n ∧ n ≤ hi)
    | .domEntries size most => decide (n % size = 0 ∧ n ≤ size * most)
    | _ => true

/-- The value a download gives a numeric object. -/
def valueOf (r : ObjRow) (data : List Byte) : Int :=
  match r.ty with
  | .i w => signed w (ofLeBytes data)
  | _ => (ofLeBytes data : Nat)

/-- Whether a value lies in the object's Range column (check 9). -/
def inRange (rng : ORange) (v : Int) : Bool :=
  match rng with
  | .between lo hi => decide (lo ≤ v ∧ v ≤ hi)
  | .two a b c d => decide (a ≤ v ∧ v ≤ b ∨ c ≤ v ∧ v ≤ d)
  | .oneOf vs => vs.contains v
  | .mult m lo hi => decide (lo ≤ v ∧ v ≤ hi ∧ v % m = 0)
  | .bits mask => Nat.land v.toNat mask == v.toNat
  | .realIn lo hi => isReal32 v.toNat && decide (lo ≤ real32 v.toNat ∧ real32 v.toNat ≤ hi)
  | _ => true

/-! ## Mapping entries (R336, R350) -/

/-- A Result Window's queue, where the key names one. -/
def windowQueue (k : Nat) : Option Nat := if 0x200401 ≤ k ∧ k ≤ 0x200409 then some (k - 0x200401) else none

/-- Whether a mapping entry names an object R336 lets its direction map, with the object's exact width; an entry of 0 maps
nothing. -/
def mapEntryOk (rx : Bool) (e : Nat) : Bool :=
  if e = 0 then true
  else
    let k := e / 256
    if !rx ∧ (windowQueue k).isSome then e % 256 = 0
    else match objAt k with
      | none => false
      | some r => (if rx then r.acc != .ro else r.acc != .wo) && decide (widthOf r ≠ 0) && decide (e % 256 = widthOf r)

/-- The mapping entries assigned to a direction, in order. -/
def State.mapped (s : State) (rx : Bool) : List Nat :=
  let a := if rx then 0x1C1200 else 0x1C1300
  (List.range (s.nat a)).flatMap (fun i =>
    let idx := s.nat (a + 1 + i)
    if idx = 0 then [] else (List.range (s.nat (idx * 256))).map (fun j => s.nat (idx * 256 + 1 + j)))

/-- Bytes a mapping entry takes; a Result Window takes 4 + PDO Window bytes (R336). -/
def State.entryBytes (s : State) (e : Nat) : Nat :=
  match windowQueue (e / 256) with
  | some q => if e % 256 = 0 then 4 + s.nat (Ob.pdoWindow q) else e % 256 / 8
  | none => e % 256 / 8

/-- Whether the assigned mappings of a direction keep the limits of R336. -/
def State.mappingFits (s : State) (rx : Bool) : Bool :=
  let l := s.mapped rx
  decide (l.length ≤ 32 ∧ sumNat (l.map s.entryBytes) ≤ if rx then 256 else 1472)

/-- Whether a key is a mapping object of a direction. -/
def mappingKey (rx : Bool) (k : Nat) : Bool :=
  let b := if rx then 0x1600 else 0x1A00
  decide (b ≤ k / 256 ∧ k / 256 < b + 4)

/-- Whether a write of a mapping entry is in range. -/
def State.mappingOk (s : State) (k : Nat) (v : Int) : Bool :=
  let rx := mappingKey true k
  if k % 256 = 0 then true
  else mapEntryOk rx v.toNat && ((s.setNum k v).mappingFits rx || !s.mappingFits rx)

/-! ## Content (check 9) -/

/-- Whether every REAL32 of a DOMAIN is finite. -/
def realsOk (bs : List Byte) : Bool := (List.range (bs.length / 4)).all (fun i => isReal32 (leAt bs (4 * i) 4))

/-- Whether every REAL32 of a DOMAIN is above 0. -/
def positiveOk (bs : List Byte) : Bool := (List.range (bs.length / 4)).all (fun i => aboveZero (leAt bs (4 * i) 4))

/-- Whether Process Noise is in range (Table 9-6). -/
def noiseOk (bs : List Byte) : Bool :=
  realsOk bs && (List.range 3).all (fun i => decide (0 ≤ real32 (leAt bs (4 * i) 4) ∧ real32 (leAt bs (4 * i) 4) ≤ 1000000))

/-- Whether a Theta Table keeps θ_min at or below θ_max and its reserved fields at zero, with each θ in the range of its layer's format
(R157, R169, Table 6-4). -/
def thetaTableOk (layers : List LayerInfo) (bs : List Byte) : Bool :=
  (List.range 256).all (fun i => decide (leAt bs (8 * i) 2 ≤ leAt bs (8 * i + 2) 2 ∧ leAt bs (8 * i + 6) 2 = 0)) &&
    layers.all (fun l => [0, 2, 4].all (fun o => thetaOk l (leAt bs (8 * l.number + o) 2)))

/-- Whether a Bias Program is in range (R263): its template is 1 to 64 bytes long and the code lies in it, code size, step and
reserved bytes are as the table of R263 says. -/
def biasProgramOk (bs : List Byte) : Bool :=
  let b := fun o => leAt bs o 1
  decide (1 ≤ b 0 ∧ b 0 ≤ 64 ∧ 1 ≤ b 2 ∧ b 2 ≤ 2 ∧ 1 ≤ b 3 ∧ b 3 ≤ 15 ∧ leAt bs 12 4 = 0)

/-- Whether Encoder Roles is in range: roles 0 to 4, at most one line (R210). -/
def rolesOk (v : Nat) : Bool :=
  let r := (List.range 4).map (fun e => field v (4 * e) 4)
  r.all (fun x => decide (x ≤ 4)) && decide ((r.filter (fun x => x = 1)).length ≤ 1)

/-- Whether Autoload is in range (Table 14-7). -/
def autoloadOk (bs : List Byte) : Bool :=
  (List.range 8).all (fun n => decide ((leAt bs (2 * n) 1 < 8 ∨ leAt bs (2 * n) 1 = 0xFF) ∧ leAt bs (2 * n + 1) 1 ≤ 1))

/-- Whether Package Keys is in range: each entry zero or an uncompressed point of the curve (R403). -/
def packageKeysOk (bs : List Byte) : Bool :=
  (List.range 4).all (fun i => (bytesAt bs (97 * i) 97).all (fun b => b == 0) || packageKeyOk (bytesAt bs (97 * i) 97))

/-- Content of the Gate's objects (Tables 2-13, 6-4): port `p`, index offset `o`. -/
def State.gateContent (s : State) (p o sub : Nat) (v : Int) (data : List Byte) : Bool :=
  if o = 2 then fieldExtractorOk data
  else if o = 4 ∧ sub = 2 then decide (s.num (Ob.releaseThreshold p) ≤ v)
  else if o = 4 ∧ sub = 3 then decide (v ≤ s.num (Ob.hotThreshold p))
  else if o = 7 ∧ sub = 5 then decide (v ≤ s.num (Ob.keepCeiling p))
  else if o = 7 ∧ sub = 6 then decide (s.num (Ob.keepFloor p) ≤ v)
  else if o = 9 ∧ sub = 2 then i3cOk data
  else true

/-- Content of the inputs' objects (Tables 3-2, 3-4): index `i`. -/
def State.inputContent (s : State) (i sub : Nat) (v : Int) (data : List Byte) : Bool :=
  if 0x2200 ≤ i ∧ i < 0x2208 ∧ sub = 13 then decide (v = 0) || (s.domBytes (Ob.customFir (i - 0x2200)) 0 192).any (fun b => b != 0)
  else if 0x2200 ≤ i ∧ i < 0x2208 ∧ sub = 14 then customFirOk data
  else if 0x2210 ≤ i ∧ i < 0x2212 ∧ sub = 6 then s.readProgramOk (i - 0x2210) data
  else true

/-- Content of the Market's objects (Tables 2-14, 6-4). -/
def State.marketContent (s : State) (i sub : Nat) (v : Int) (data : List Byte) : Bool :=
  if i = 0x2303 then counterSetOk data
  else if 0x2310 ≤ i ∧ i < 0x2330 ∧ sub = 1 then decide (v = 0) || s.ruleFieldsOk (i - 0x2310)
  else if i = 0x2600 ∧ sub = 2 then decide (v ≤ s.num Ob.clockMax)
  else if i = 0x2600 ∧ sub = 3 then decide (s.num Ob.clockMin ≤ v)
  else if 0x2610 ≤ i ∧ i < 0x2618 ∧ sub = 9 then thetaTableOk (s.deltaLayers (i - 0x2610)) data
  else true

/-- Content of the Square's objects (Tables 8-6, 9-6; R206, R210). -/
def State.squareContent (s : State) (i sub : Nat) (v : Int) (data : List Byte) : Bool :=
  if 0x2700 ≤ i ∧ i < 0x2710 then
    if sub = 2 then intrinsicsOk data
    else if sub = 4 then extrinsicOk data
    else if sub = 5 then planeOk data
    else if sub = 6 then sizeOk v.toNat
    else true
  else if i = 0x2710 then
    if sub = 2 then rolesOk v.toNat
    else true
  else if i = 0x2730 then
    if sub = 1 then decide (v ≤ s.num Ob.waitLimitMax)
    else if sub = 2 then decide (s.num Ob.waitLimitMin ≤ v)
    else true
  else if i = 0x2800 then
    if sub = 1 then noiseOk data
    else if sub = 2 then decide (real32 v.toNat ≤ real32 (s.nat Ob.hintGate))
    else if sub = 3 then decide (real32 (s.nat Ob.gateThreshold) ≤ real32 v.toNat)
    else if sub = 8 then positiveOk data
    else if sub = 11 then unitOk data
    else true
  else if i = 0x2810 then
    if sub = 7 then decide (v ≤ s.num Ob.freezeSlots)
    else if sub = 8 then decide (s.num Ob.coastSlots ≤ v)
    else true
  else true

/-- Content of the calibration loops' objects (Table 10-4). -/
def State.calContent (s : State) (i sub : Nat) (v : Int) (data : List Byte) : Bool :=
  if 0x2910 ≤ i ∧ i < 0x2914 then
    if sub = 3 then decide (v ≤ s.num (Ob.refractoryMax (i - 0x2910)))
    else if sub = 4 then decide (s.num (Ob.refractoryMin (i - 0x2910)) ≤ v)
    else if sub = 6 then biasProgramOk data
    else if sub = 7 then decide (v.toNat % 2 ^ 32 < v.toNat / 2 ^ 32)
    else true
  else if 0x2930 ≤ i ∧ i < 0x2940 ∧ (sub = 3 ∨ sub = 4) then positiveOk data
  else true

/-- Content of the link's, the queues' and the provocation units' objects (Tables 11-8, 12-5; R324). -/
def State.exchangeContent (s : State) (i sub : Nat) (v : Int) (data : List Byte) : Bool :=
  if i = 0x2A01 ∨ i = 0x2A02 then mapOk data
  else if 0x2B10 ≤ i ∧ i < 0x2B19 ∧ sub = 1 then
    if i = 0x2B18 then decide (4096 ≤ v ∧ v ≤ 65536) else decide (1024 ≤ v ∧ v ≤ 16384)
  else if 0x2B10 ≤ i ∧ i < 0x2B19 ∧ sub = 2 then if i = 0x2B18 then decide (v = 1) else decide (v ≤ 1)
  else if 0x2B40 ≤ i ∧ i < 0x2B48 then
    let u := i - 0x2B40
    if sub = 3 then decide (v ≠ 0 ∨ s.nat (Ob.countRemaining u) ≠ 0)
    else if sub = 5 then decide (v ≠ 0 ∨ s.nat (Ob.trigger u) ≠ 0)
    else if sub = 11 ∧ u < 4 then decide (v = 0)
    else if sub = 12 ∧ u < 4 then decide (v = 15)
    else true
  else true

/-- Content of the security, time, package and diagnostics objects (Tables 14-5 to 14-8). -/
def State.systemContent (s : State) (m : Master) (k : Nat) (v : Int) (data : List Byte) : Bool :=
  if k = Ob.debugLock then decide (s.nat Ob.debugLock ≠ 2 ∨ v = 2)
  else if k = Ob.sessionResponse then s.responseOk m data
  else if 0x2D0201 ≤ k ∧ k ≤ 0x2D0204 then data.any (fun b => b != 0)
  else if k = Ob.accessRightsTable then accessRightsOk data
  else if k = Ob.dramFirewall then s.firewallOk data
  else if k = Ob.portFilters then portFiltersOk data
  else if k = Ob.packageKeys then packageKeysOk data
  else if k = Ob.syncOutPeriod then decide (v = 0 ∨ s.num Ob.syncOutPhase < v)
  else if k = Ob.syncOutPhase then decide (s.num Ob.syncOutPeriod = 0 ∨ v < s.num Ob.syncOutPeriod)
  else if k = Ob.autoload then autoloadOk data
  else if k = Ob.debugReadAddress then decide (v % 64 = 0)
  else true

/-- Whether the content of a write is in range beyond its Range column: relations between objects and fields of DOMAINs (R7,
R340, check 9). -/
def State.contentOk (s : State) (m : Master) (k : Nat) (v : Int) (data : List Byte) : Bool :=
  let i := k / 256
  let sub := k % 256
  if mappingKey true k || mappingKey false k then s.mappingOk k v
  else if i < 0x2100 then true
  else if i < 0x2200 then s.gateContent ((i - 0x2100) / 16) (i % 16) sub v data
  else if i < 0x2300 then s.inputContent i sub v data
  else if i < 0x2700 then s.marketContent i sub v data
  else if i < 0x2900 then s.squareContent i sub v data
  else if i < 0x2A00 then s.calContent i sub v data
  else if i < 0x2C00 then s.exchangeContent i sub v data
  else s.systemContent m k v data

/-! ## State and timing rules (check 10) -/

/-- State rules of the Gate (R33, R34, R70). -/
def State.gateState (s : State) (p o sub : Nat) (v : Int) : Bool :=
  if (o = 0 ∧ sub = 3) ∨ (o = 1 ∧ sub ≤ 4) ∨ o = 2 ∨ (o = 6 ∧ sub ≤ 4) then !s.on (Ob.portEnable p)
  else if o = 0 ∧ sub = 4 then if v = 1 then s.nat (Ob.portState p) = 3 else s.nat (Ob.portState p) ≠ 0
  else if o = 9 ∧ sub = 2 then (s.port p).i3c.length < 8
  else true

/-- State rules of the inputs (R81). -/
def State.inputState (s : State) (i sub : Nat) : Bool :=
  if 0x2200 ≤ i ∧ i < 0x2208 then sub == 1 || sub == 11 || !s.on (Ob.channelEnable (i - 0x2200))
  else if 0x2210 ≤ i ∧ i < 0x2212 then sub == 1 || !s.on (Ob.inertialEnable (i - 0x2210))
  else if 0x2220 ≤ i ∧ i < 0x2224 then sub == 1 || sub == 6 || sub == 7 || !s.on (Ob.encoderEnable (i - 0x2220))
  else if 0x2920 ≤ i ∧ i < 0x2928 then !s.on (Ob.channelEnable (i - 0x2920))
  else true

/-- State rules of the objects held with a context (R158, R162, R181, R186, R345). -/
def State.contextRule (s : State) (n i sub : Nat) : Bool :=
  let c := s.ctxState n
  decide (c ≠ 0) &&
    (if 0x2510 ≤ i ∧ i < 0x2518 ∧ (sub = 1 ∨ sub = 2 ∨ sub = 12) then decide (c ≠ 2 ∧ c ≠ 3)
     else if 0x2610 ≤ i ∧ i < 0x2618 ∧ sub = 6 then decide (c ≠ 2 ∧ c ≠ 3)
     else if 0x2610 ≤ i ∧ i < 0x2618 ∧ sub = 8 then c == 2
     else true)

/-- State rules of the Square and of calibration (R210, R251, R258). -/
def State.squareState (s : State) (k : Nat) (v : Int) : Bool :=
  if k = Ob.encoderRoles ∨ k = Ob.inertialSource ∨ k = Ob.inertialExtrinsic ∨ k = Ob.gravityReference ∨ k = Ob.mountHpCorner then
    !s.on Ob.egoEnable
  else if k = Ob.lineborne ∨ k = Ob.lineDirection then s.dev ≠ 4
  else if k = Ob.calibrationContext then
    decide (v = 255) || (match (s.ctx v.toNat).pkg with
      | some p => decide (s.ctxState v.toNat ≠ 0) && p.calRuntime
      | none => false)
  else true

/-- State rules of the link, the queues and the provocation units (R287, R302, R323, R324). -/
def State.exchangeState (s : State) (k : Nat) (v : Int) : Bool :=
  let i := k / 256
  let sub := k % 256
  if k = Ob.moduleAddress then (List.range 4).all (fun p => !s.on (Ob.linkPortEnable p))
  else if 0x2A10 ≤ i ∧ i < 0x2A14 then
    let p := i - 0x2A10
    if sub = 2 ∨ sub = 3 ∨ sub = 7 ∨ sub = 8 then !s.on (Ob.linkPortEnable p)
    else if sub = 5 then s.nat (Ob.linkPortState p) ≠ 0
    else true
  else if 0x2B10 ≤ i ∧ i < 0x2B18 ∧ sub = 1 then s.ctxState (i - 0x2B10) = 0
  else if i = 0x2B18 ∧ sub = 1 then decide (s.dev ≠ 3 ∧ s.dev ≠ 4)
  else if 0x2B40 ≤ i ∧ i < 0x2B48 then decide (sub = 1 ∧ v = 0) || !s.on (Ob.provocationEnable (i - 0x2B40))
  else true

/-- State rules of control, security, packages and diagnostics (R327, R329, R358, R415, R417, R421, R424, R427). -/
def State.systemState (s : State) (k : Nat) (v : Int) : Bool :=
  if k = Ob.deviceCommand then s.deviceAllowed v.toNat
  else if k / 256 = 0x2001 then s.contextAllowed (k % 256 - 1) v.toNat
  else if k = Ob.certifiedCommand then decide (v = 2) || s.mayCertify
  else if k = Ob.packageCommand then
    if v = 1 then s.loadAllowed (s.nat Ob.loadSlot) (s.nat Ob.loadContext)
    else if v = 2 then s.commitAllowed (s.nat Ob.loadContext) (s.nat Ob.commitTarget)
    else !s.loadReads (s.nat Ob.loadSlot)
  else if k = Ob.builtinTest then s.evaluating && s.loader.test.isNone
  else if k = Ob.debugReadAddress then s.nat Ob.debugLock = 0
  else true

/-- Whether the state rules of an object let a write through (check 10). -/
def State.stateOk (s : State) (k : Nat) (v : Int) : Bool :=
  let i := k / 256
  let sub := k % 256
  if mappingKey true k || mappingKey false k || i == 0x1C12 || i == 0x1C13 then s.nat Ob.ethercatState = 2
  else if 0x2100 ≤ i ∧ i < 0x2140 then s.gateState ((i - 0x2100) / 16) (i % 16) sub v
  else if 0x2200 ≤ i ∧ i < 0x2230 ∨ 0x2920 ≤ i ∧ i < 0x2930 then s.inputState i sub
  else if 0x2310 ≤ i ∧ i < 0x2330 then sub == 1 || !s.on (Ob.ruleEnable (i - 0x2310))
  else if contextKey k then s.contextRule (i % 16) i sub
  else if 0x3000 ≤ i ∧ i < 0x4000 ∧ sub = 8 then
    decide (s.tileCtx ((i - 0x3000) / 64) = 0xFF) || decide (s.ctxState (s.tileCtx ((i - 0x3000) / 64)) ≠ 2)
  else if 0x2A00 ≤ i ∧ i < 0x2C00 then s.exchangeState k v
  else if 0x2700 ≤ i ∧ i < 0x2A00 then s.squareState k v
  else s.systemState k v

/-! ## The verdict (Table 13-4) -/

/-- What becomes of a write request: an SDO abort, ignored with a reason, or applied. -/
inductive Verdict where
  | abort
  | ignored (reason : Nat)
  | applied
  deriving DecidableEq, Repr

/-- Whether a write is a state command (R331, R357). -/
def stateCommand (k : Nat) : Bool :=
  let i := k / 256
  k == Ob.deviceCommand || i == 0x2001 || (decide (0x2100 ≤ i ∧ i < 0x2140) && i % 16 == 0 && k % 256 == 4)
    || (decide (0x2820 ≤ i ∧ i < 0x2838) && k % 256 == 4) || k == Ob.degradationReset || k == Ob.calibrationRestart || k == Ob.packageCommand

/-- Whether a write names the value its object already holds, which passes the checks of value and state (R334; log entry 61). -/
def State.holds (s : State) (r : ObjRow) (k : Nat) (v : Int) (data : List Byte) : Bool :=
  r.acc == .rw && k != Ob.numberOfErrors && k != Ob.storeParameters && k != Ob.restoreDefaultParameters &&
    (if widthOf r ≠ 0 then decide (s.num k = v)
     else match r.rng with
       | .domEntries _ _ => s.accessTable == data
       | _ => s.domBytes k 0 data.length == data)

/-- Claim Request (R332): a take by the holder and a release by another are ignored with reason 4, a take no row of Table 13-3
allows with reason 5. -/
def State.claimVerdict (s : State) (m : Master) (v : Int) : Verdict :=
  if v = 1 then
    if s.nat Ob.claimHolder = claimSide m then .ignored 4 else if s.takeAllowed m then .applied else .ignored 5
  else if s.nat Ob.claimHolder = claimSide m then .applied else .ignored 4

/-- The first failing check of a write (R334, Table 13-4). -/
def State.verdict (s : State) (m : Master) (k : Nat) (data : List Byte) (toggleOk : Bool) : Verdict :=
  match objAt k with
  | none => .abort
  | some r =>
    let v := valueOf r data
    if !lengthOk r data.length || !toggleOk then .abort
    else if s.roleOf m < s.needRole true k r then .ignored 1
    else if r.acc = .ro then .ignored 2
    else if s.certLocks k data then .ignored 6
    else if !s.dieUp && !lodgeKey k then .ignored 7
    else if stateCommand k && decide (s.nat Ob.claimHolder ≠ claimSide m) then .ignored 5
    else if s.holds r k v data then .applied
    else if !(inRange r.rng v && s.contentOk m k v data) then .ignored 3
    else if k = Ob.claimRequest then s.claimVerdict m v
    else if s.stateOk k v then .applied
    else .ignored 4

end Sys2Proof.Machine
end

