-- ==== Sys2Proof/Machine/Dictionary.lean ====
section
/-! DEFINITION. What a dictionary write does once it has passed its checks, requests of the masters (R333, R334), and the commands
that are such requests. -/

namespace Sys2Proof.Machine

/-! ## Values in force from a slot boundary on -/

/-- Whether a write takes effect at the next slot boundary (R46, R56, R61, R62, R206, R210, R223, R251, R275): the objects whose
chapters say so. -/
def deferKey (k : Nat) : Bool :=
  let i := k / 256
  let sub := k % 256
  let o := i % 16
  (decide (0x2100 ≤ i ∧ i < 0x2140) && ((o == 4 && sub ≤ 3) || (o == 5 && sub == 1) || (o == 7 && sub == 1)))
    || decide (0x2300 ≤ i ∧ i ≤ 0x2303)
    || (decide (0x2700 ≤ i ∧ i < 0x2710) && decide (2 ≤ sub ∧ sub ≤ 7))
    || k == Ob.gyroBias || k == Ob.lateWindow || k == Ob.squareReserve || i == 0x2800
    || (i == 0x2810 && decide (2 ≤ sub ∧ sub ≤ 9)) || (decide (0x2820 ≤ i ∧ i < 0x2838) && sub == 2)

/-- The value of a write put into its object (R333). -/
def State.putValue (s : State) (r : ObjRow) (k : Nat) (v : Int) (data : List Byte) : State :=
  if widthOf r ≠ 0 then (if deferKey k then s.deferNum k v else s.setNum k v)
  else if deferKey k then s.deferDom k data.length data
  else s.setDom k data

/-! ## Effects by chapter -/

/-- Effects of the Gate's objects (R33, R34, R42, R43, R57): port `p`, index offset `o`. -/
def State.applyGate (s : State) (p o sub v : Nat) (data : List Byte) : Option State :=
  if o = 0 ∧ sub = 1 then some (if v = 0 then (s.applyPortEnable p 0).dropHeld p else s.applyPortEnable p v)
  else if o = 0 ∧ sub = 4 then some (if v = 1 then s.applyClearLost p else s.applyReAnchor p)
  else if o = 1 ∧ sub = 5 ∧ v = 0 then some ((s.setNat (Ob.rateTracking p) 0).deferNum (Ob.rateTrim p) 0)
  else if o = 9 ∧ sub = 2 then some (s.submitI3c p false data)
  else none

/-- Calibrated Offset written by the host (R255, R271). -/
def State.applyOffset (s : State) (k : Nat) (v : Int) : Option State :=
  (List.range 4).findSome? (fun p => if k = Ob.calibratedOffset p then some (s.hostOffset p v) else none)

/-- Effects of the inputs' enables and of Encoder Command (R81, R87, R90). -/
def State.applyInputs (s : State) (i sub v : Nat) : Option State :=
  if 0x2200 ≤ i ∧ i < 0x2208 ∧ sub = 1 then some (s.applyChannelEnable (i - 0x2200) v)
  else if 0x2210 ≤ i ∧ i < 0x2212 ∧ sub = 1 then some (s.applyInertialEnable (i - 0x2210) v)
  else if 0x2220 ≤ i ∧ i < 0x2224 ∧ sub = 1 then some (s.applyEncoderEnable (i - 0x2220) v)
  else if 0x2220 ≤ i ∧ i < 0x2224 ∧ sub = 7 then some (s.applyEncoderCommand (i - 0x2220))
  else none

/-- Effects of the Kerb path's objects (R63, R67). -/
def State.applyKerb (s : State) (i sub v : Nat) : Option State :=
  if 0x2310 ≤ i ∧ i < 0x2330 ∧ sub = 1 then some (s.applyRuleEnable (i - 0x2310) v)
  else if 0x2340 ≤ i ∧ i < 0x2348 ∧ sub = 3 then some (s.applyLatchClear (i - 0x2340))
  else none

/-- A bound or a pinned value put beyond its loop's safety limit by a write raises notice 0x0501 (R169, Table 6-3). -/
def State.noteBeyond (s : State) (k : Nat) : State :=
  let i := k / 256
  let sub := k % 256
  if 0x3000 ≤ i ∧ i < 0x4000 ∧ (sub = 17 ∨ sub = 18) then
    let t := (i - 0x3000) / 64
    let clock := s.nat (Ob.pinnedClock t)
    s.raiseIf (decide (s.power.cap < clock) || decide (s.nat (Ob.pinnedVoltage t) < s.voltLimit t (min clock s.power.cap))) 0x0501 t
  else if k = Ob.clockMin ∨ k = Ob.clockMax then s.raiseIf (decide (s.power.cap < s.nat k)) 0x0501 noUnit
  else if k = Ob.voltageMax then
    s.raiseIf ((List.range 64).any (fun t => s.tileRuns t && decide (s.nat k < s.voltLimit t (s.nat (Ob.tileClock t))))) 0x0501 noUnit
  else if 0x2610 ≤ i ∧ i < 0x2618 ∧ sub = 9 then
    s.raiseIf ((s.deltaLayers (i - 0x2610)).any (fun l => decide (l.number < 256) &&
      (List.range 3).any (fun j => decide (l.thetaCap < s.domNat k (8 * l.number + 2 * j) 2)))) 0x0501 (i - 0x2610)
  else s

/-- Effects of the Square's and of calibration's objects (R206, R210, R211, R246, R271, R274). -/
def State.applySquare (s : State) (k v : Nat) (data : List Byte) : Option State :=
  let i := k / 256
  let sub := k % 256
  if 0x2700 ≤ i ∧ i < 0x2710 ∧ sub = 4 then some (s.hostExtrinsic (i - 0x2700) data)
  else if k = Ob.encoderScale then some (s.hostScale data)
  else if k = Ob.egoEnable ∧ v = 1 ∧ !s.on Ob.egoEnable ∧ (s.dev = 3 ∨ s.dev = 4) then some ((s.setNat k 1).egoStart)
  else if k = Ob.referenceReset then some s.applyReferenceReset
  else if 0x2820 ≤ i ∧ i < 0x2838 ∧ sub = 4 then some (s.applyRestore (i - 0x2820))
  else if k = Ob.degradationReset then some (s.applyRestore 24)
  else if k = Ob.calibrationSave then some s.applyCalibrationSave
  else if k = Ob.calibrationRestart then some s.applyCalibrationRestart
  else none

/-- Effects of the link's objects and of the provocation units (R278, R288, R322, R323). -/
def State.applyExchange (s : State) (m : Master) (k v : Nat) (data : List Byte) : Option State :=
  let i := k / 256
  let sub := k % 256
  if i = 0x2A01 ∨ i = 0x2A02 then some (s.applyMap k data)
  else if 0x2A10 ≤ i ∧ i < 0x2A14 ∧ sub = 1 then
    some (if v = 0 then (s.applyLinkEnable (i - 0x2A10) 0).dropHeld (4 + (i - 0x2A10)) else s.applyLinkEnable (i - 0x2A10) v)
  else if 0x2A10 ≤ i ∧ i < 0x2A14 ∧ sub = 5 then some (s.applyRetrain (i - 0x2A10) v)
  else if 0x2B40 ≤ i ∧ i < 0x2B48 ∧ sub = 1 ∧ v = 1 then
    some ((((s.setNat k 1).armProv (i - 0x2B40)).raise 0x0A0B (i - 0x2B40)).auditEntry 12 m.code (s.roleOf m) i sub (sha384 data))
  else none

/-- Effects of the standard, control, recovery and time objects (R326 to R332, R348 to R351, R356, R372). -/
def State.applyControl (s : State) (m : Master) (k v : Nat) (data : List Byte) : Option State :=
  if k = Ob.numberOfErrors then some { s with health := { s.health with stdErrors := [] } }
  else if k = Ob.storeParameters then some s.writeMirror
  else if k = Ob.restoreDefaultParameters then
    some ({ s with flash := { s.flash with restore := true } }.auditEntry 15 m.code (s.roleOf m) 0x1011 1 (sha384 data))
  else if k = Ob.deviceCommand then some (s.applyDevice v)
  else if k / 256 = 0x2001 then some (s.applyContext (k % 256 - 1) v)
  else if k = Ob.claimRequest then some (s.setHolder (if v = 1 then claimSide m else 0))
  else if k = Ob.statusAcknowledge then some (s.setNat Ob.faultsPending 0)
  else if k = Ob.ledgerClear then some s.applyLedgerClear
  else if k = Ob.timeSource then some (s.applyTimeSource v)
  else if 0x2E30 ≤ k / 256 ∧ k / 256 < 0x2E34 ∧ k % 256 = 1 then some (s.applyTriggerEnable (k / 256 - 0x2E30) v)
  else if 0x2610 ≤ k / 256 ∧ k / 256 < 0x2618 ∧ k % 256 = 8 then some (s.applyForceExact (k / 256 - 0x2610))
  else none

/-- Effects of the security, package and diagnostics objects (R403, R409 to R418, R358, R421, R424, R427). -/
def State.applySystem (s : State) (m : Master) (k v : Nat) (data : List Byte) : Option State :=
  if k = Ob.certifiedCommand then some (s.applyCertified m v)
  else if k = Ob.debugLock then some (s.applyDebugLock m v)
  else if k = Ob.sessionResponse then some (s.openSession m (leAt data 0 1))
  else if k = Ob.sessionClose then some (s.closeSession m m.code)
  else if 0x2D0201 ≤ k ∧ k ≤ 0x2D0204 then some (s.applyRoleKey m (k - 0x2D0201) data)
  else if k = Ob.accessRightsTable then some (s.applyProtection m k 4 data)
  else if k = Ob.dramFirewall then some (s.applyProtection m k 5 data)
  else if k = Ob.portFilters then some (s.applyProtection m k 6 data)
  else if k = Ob.packageKeys then some (s.applyPackageKeys m data)
  else if k = Ob.packageCommand then
    some (if v = 1 then
        { s with loader := { s.loader with asked := (m.code, s.roleOf m) } }.applyLoad (s.nat Ob.loadSlot) (s.nat Ob.loadContext)
      else if v = 2 then s.applyCommit (s.nat Ob.loadContext) (s.nat Ob.commitTarget)
      else s.applyErase (s.nat Ob.loadSlot))
  else if k = Ob.builtinTest then some (s.applyTest v)
  else none

/-- A write that has passed its checks takes effect (R333). -/
def State.applyWrite (s : State) (m : Master) (r : ObjRow) (k : Nat) (v : Int) (data : List Byte) : State :=
  let i := k / 256
  let sub := k % 256
  let n := v.toNat
  let special : Option State :=
    if 0x2100 ≤ i ∧ i < 0x2140 then (s.applyOffset k v).orElse (fun _ => s.applyGate ((i - 0x2100) / 16) (i % 16) sub n data)
    else if 0x2200 ≤ i ∧ i < 0x2300 then s.applyInputs i sub n
    else if 0x2300 ≤ i ∧ i < 0x2400 then s.applyKerb i sub n
    else if 0x2700 ≤ i ∧ i < 0x2A00 then s.applySquare k n data
    else if 0x2A00 ≤ i ∧ i < 0x2C00 then s.applyExchange m k n data
    else (s.applyControl m k n data).orElse (fun _ => s.applySystem m k n data)
  match special with
  | some s1 => s1
  | none => (s.putValue r k v data).noteBeyond k

/-! ## Requests (R333, R334) -/

/-- Whether a request reaches the dictionary: the Lodge is supplied, and the port carries it (R335, R336, R338). -/
def State.reaches (s : State) (m : Master) : Bool :=
  let st := s.nat Ob.ethercatState
  s.power.lodge && (match m with
    | .mailbox => decide (st = 2 ∨ st = 4 ∨ st = 8)
    | .pdo => st == 8
    | .canFd => decide (20000000 ≤ s.time))

/-- A request ignored (R334). -/
def State.ignore (s : State) (m : Master) (k reason : Nat) : State :=
  (s.count 32 Ob.ignoredCount 1).setAll
    [(Ob.lastIndex, (k / 256 : Nat)), (Ob.lastSubindex, (k % 256 : Nat)), (Ob.lastPort, (m.code : Nat)),
     (Ob.lastReason, (reason : Nat)), (Ob.lastStamp, (s.time : Nat))]

/-- What a refused request does beside being counted: a wrong Session Response is noticed and logged (R409), a refused debug
access noticed (R415). -/
def State.refusedToo (s : State) (m : Master) (k reason : Nat) (data : List Byte) : State :=
  if k = Ob.sessionResponse ∧ reason = 3 then s.failResponse m (leAt data 0 1)
  else if k = Ob.debugReadAddress ∧ reason = 4 then s.raise 0x0C08 noUnit
  else s

/-- An applied write kept: for the ledger's history (Table 16-3), for the flash mirror (R344), and the host's own values of
objects that loops write (R274). -/
def State.keepWrite (s : State) (m : Master) (r : ObjRow) (k : Nat) (v : Int) (data : List Byte) : State :=
  let w : WriteEntry := ⟨s.time, m.code, k, data⟩
  let num := decide (widthOf r ≠ 0)
  let f := s.flash
  { s with ctrl := { s.ctrl with history := (s.ctrl.history ++ [w]).drop (s.ctrl.history.length - 1279) },
           flash := { f with due := if persistentKey k then some s.time else f.due,
                             hostNums := if loopKey k && num then f.hostNums.set k v else f.hostNums,
                             hostDoms := if loopKey k && !num then f.hostDoms.set k data else f.hostDoms } }

/-- A write request of a master applied whole (R333, R334). -/
def State.request (s0 : State) (m : Master) (k : Nat) (data : List Byte) (toggleOk : Bool := true) : State :=
  if !s0.reaches m then s0
  else
    let s := s0.touch m
    match s.verdict m k data toggleOk with
    | .abort => s
    | .ignored reason => (s.ignore m k reason).refusedToo m k reason data
    | .applied =>
      match objAt k with
      | none => s
      | some r => (s.applyWrite m r k (valueOf r data) data).keepWrite m r k (valueOf r data) data

/-- A request that writes a number of `n` bytes. -/
def State.requestNat (s : State) (m : Master) (k n v : Nat) : State := s.request m k (leBytes n v)

/-- An upload of a DOMAIN that answers with bytes: its role, die and lock checks, then the state it leaves (R334). -/
def State.upload (s0 : State) (m : Master) (k : Nat) (read : State → State) : State :=
  if !s0.reaches m then s0
  else
    let s := s0.touch m
    match objAt k with
    | none => s
    | some r =>
      if s.roleOf m < s.needRole false k r then s.ignore m k 1
      else if !s.dieUp && !lodgeKey k then s.ignore m k 7
      else read s

/-! ## The commands that are requests -/

/-- PORT_ENABLE. -/
def execPortEnable (t : Nat) (m : Master) (p : Fin 4) (v : Nat) (s0 : State) : Host.Outcome State Fault Refusal :=
  ok ((s0.advance t).requestNat m (Ob.portEnable p) 1 v)

/-- CLEAR_LOST: Port Command 1. -/
def execClearLost (t : Nat) (m : Master) (p : Fin 4) (s0 : State) : Host.Outcome State Fault Refusal :=
  ok ((s0.advance t).requestNat m (Ob.portCommand p) 1 1)

/-- RE_ANCHOR: Port Command 2. -/
def execReAnchor (t : Nat) (m : Master) (p : Fin 4) (s0 : State) : Host.Outcome State Fault Refusal :=
  ok ((s0.advance t).requestNat m (Ob.portCommand p) 1 2)

/-- I3C_TRANSFER. -/
def execI3cTransfer (t : Nat) (m : Master) (p : Fin 4) (data : List Byte) (s0 : State) : Host.Outcome State Fault Refusal :=
  ok ((s0.advance t).request m (Ob.i3cTransfer p) data)

/-- RULE_ENABLE. -/
def execRuleEnable (t : Nat) (m : Master) (n : Fin 32) (v : Nat) (s0 : State) : Host.Outcome State Fault Refusal :=
  ok ((s0.advance t).requestNat m (Ob.ruleEnable n) 1 v)

/-- LATCH_CLEAR. -/
def execLatchClear (t : Nat) (m : Master) (k : Fin 8) (v : Nat) (s0 : State) : Host.Outcome State Fault Refusal :=
  ok ((s0.advance t).requestNat m (Ob.latchClear k) 1 v)

/-- CHANNEL_ENABLE. -/
def execChannelEnable (t : Nat) (m : Master) (n : Fin 8) (v : Nat) (s0 : State) : Host.Outcome State Fault Refusal :=
  ok ((s0.advance t).requestNat m (Ob.channelEnable n) 1 v)

/-- CUSTOM_FIR_WRITE. -/
def execCustomFirWrite (t : Nat) (m : Master) (n : Fin 8) (data : List Byte) (s0 : State) : Host.Outcome State Fault Refusal :=
  ok ((s0.advance t).request m (Ob.customFir n) data)

/-- ENCODER_COMMAND. -/
def execEncoderCommand (t : Nat) (m : Master) (e : Fin 4) (v : Nat) (s0 : State) : Host.Outcome State Fault Refusal :=
  ok ((s0.advance t).requestNat m (Ob.encoderCommand e) 1 v)

/-- FORCE_EXACT. -/
def execForceExact (t : Nat) (m : Master) (n : Fin 8) (v : Nat) (s0 : State) : Host.Outcome State Fault Refusal :=
  ok ((s0.advance t).requestNat m (Ob.forceExact n) 1 v)

/-- START of a context: Context Command 1. -/
def execContextStart (t : Nat) (m : Master) (n : Fin 8) (s0 : State) : Host.Outcome State Fault Refusal :=
  ok ((s0.advance t).requestNat m (Ob.contextCommand n) 1 1)

/-- PAUSE of a context: Context Command 2. -/
def execContextPause (t : Nat) (m : Master) (n : Fin 8) (s0 : State) : Host.Outcome State Fault Refusal :=
  ok ((s0.advance t).requestNat m (Ob.contextCommand n) 1 2)

/-- RESUME of a context: Context Command 3. -/
def execContextResume (t : Nat) (m : Master) (n : Fin 8) (s0 : State) : Host.Outcome State Fault Refusal :=
  ok ((s0.advance t).requestNat m (Ob.contextCommand n) 1 3)

/-- STOP of a context: Context Command 4. -/
def execContextStop (t : Nat) (m : Master) (n : Fin 8) (s0 : State) : Host.Outcome State Fault Refusal :=
  ok ((s0.advance t).requestNat m (Ob.contextCommand n) 1 4)

/-- UNLOAD of a context: Context Command 5. -/
def execContextUnload (t : Nat) (m : Master) (n : Fin 8) (s0 : State) : Host.Outcome State Fault Refusal :=
  ok ((s0.advance t).requestNat m (Ob.contextCommand n) 1 5)

/-- TIME_SOURCE_WRITE. -/
def execTimeSourceWrite (t : Nat) (m : Master) (v : Nat) (s0 : State) : Host.Outcome State Fault Refusal :=
  ok ((s0.advance t).requestNat m Ob.timeSource 1 v)

/-- REFERENCE_RESET. -/
def execReferenceReset (t : Nat) (m : Master) (v : Nat) (s0 : State) : Host.Outcome State Fault Refusal :=
  ok ((s0.advance t).requestNat m Ob.referenceReset 1 v)

/-- PROJECTION_SET_WRITE: a write of a part of a frame's set (R206). -/
def execProjectionSetWrite (t : Nat) (m : Master) (f : Fin 16) (sub : Fin 8) (data : List Byte) (s0 : State) :
    Host.Outcome State Fault Refusal :=
  ok ((s0.advance t).request m (obKey (0x2700 + f) sub) data)

/-- SENSOR_RESTORE. -/
def execSensorRestore (t : Nat) (m : Master) (n : Fin 24) (v : Nat) (s0 : State) : Host.Outcome State Fault Refusal :=
  ok ((s0.advance t).requestNat m (Ob.sensorRestore n) 1 v)

/-- DEGRADATION_RESET. -/
def execDegradationReset (t : Nat) (m : Master) (v : Nat) (s0 : State) : Host.Outcome State Fault Refusal :=
  ok ((s0.advance t).requestNat m Ob.degradationReset 1 v)

/-- CALIBRATION_RESTART. -/
def execCalibrationRestart (t : Nat) (m : Master) (v : Nat) (s0 : State) : Host.Outcome State Fault Refusal :=
  ok ((s0.advance t).requestNat m Ob.calibrationRestart 1 v)

/-- CALIBRATION_SAVE. -/
def execCalibrationSave (t : Nat) (m : Master) (v : Nat) (s0 : State) : Host.Outcome State Fault Refusal :=
  ok ((s0.advance t).requestNat m Ob.calibrationSave 1 v)

/-- CHAIVO_PORT_ENABLE. -/
def execChaivoPortEnable (t : Nat) (m : Master) (p : Fin 4) (v : Nat) (s0 : State) : Host.Outcome State Fault Refusal :=
  ok ((s0.advance t).requestNat m (Ob.linkPortEnable p) 1 v)

/-- RETRAIN from stored coefficients: Retrain Command 1. -/
def execRetrainStored (t : Nat) (m : Master) (p : Fin 4) (s0 : State) : Host.Outcome State Fault Refusal :=
  ok ((s0.advance t).requestNat m (Ob.retrainCommand p) 1 1)

/-- RETRAIN in full: Retrain Command 2. -/
def execRetrainFull (t : Nat) (m : Master) (p : Fin 4) (s0 : State) : Host.Outcome State Fault Refusal :=
  ok ((s0.advance t).requestNat m (Ob.retrainCommand p) 1 2)

/-- STREET_MAP_WRITE: the Region Map or the Local Map. -/
def execStreetMapWrite (t : Nat) (m : Master) (local_ : Bool) (data : List Byte) (s0 : State) : Host.Outcome State Fault Refusal :=
  ok ((s0.advance t).request m (if local_ then Ob.localMap else Ob.streetRegionMap) data)

/-- GO_READY: Device Command 1. -/
def execGoReady (t : Nat) (m : Master) (s0 : State) : Host.Outcome State Fault Refusal :=
  ok ((s0.advance t).requestNat m Ob.deviceCommand 1 1)

/-- GO_RUN: Device Command 2. -/
def execGoRun (t : Nat) (m : Master) (s0 : State) : Host.Outcome State Fault Refusal :=
  ok ((s0.advance t).requestNat m Ob.deviceCommand 1 2)

/-- GO_STANDBY: Device Command 3. -/
def execGoStandby (t : Nat) (m : Master) (s0 : State) : Host.Outcome State Fault Refusal :=
  ok ((s0.advance t).requestNat m Ob.deviceCommand 1 3)

/-- HALT: Device Command 4. -/
def execHalt (t : Nat) (m : Master) (s0 : State) : Host.Outcome State Fault Refusal :=
  ok ((s0.advance t).requestNat m Ob.deviceCommand 1 4)

/-- RESTART: Device Command 5. -/
def execRestart (t : Nat) (m : Master) (s0 : State) : Host.Outcome State Fault Refusal :=
  ok ((s0.advance t).requestNat m Ob.deviceCommand 1 5)

/-- Taking the Control Claim: Claim Request 1. -/
def execClaimTake (t : Nat) (m : Master) (s0 : State) : Host.Outcome State Fault Refusal :=
  ok ((s0.advance t).requestNat m Ob.claimRequest 1 1)

/-- Releasing the Control Claim: Claim Request 2. -/
def execClaimRelease (t : Nat) (m : Master) (s0 : State) : Host.Outcome State Fault Refusal :=
  ok ((s0.advance t).requestNat m Ob.claimRequest 1 2)

/-- DICTIONARY_WRITE: a write of any object of the dictionary. -/
def execDictionaryWrite (t : Nat) (m : Master) (index : BitVec 16) (sub : BitVec 8) (data : List Byte) (toggleOk : Bool)
    (s0 : State) : Host.Outcome State Fault Refusal :=
  ok ((s0.advance t).request m (obKey index.toNat sub.toNat) data toggleOk)

/-- STORE_PARAMETERS. -/
def execStoreParameters (t : Nat) (m : Master) (v : Nat) (s0 : State) : Host.Outcome State Fault Refusal :=
  ok ((s0.advance t).requestNat m Ob.storeParameters 4 v)

/-- RESTORE_DEFAULT_PARAMETERS. -/
def execRestoreDefaultParameters (t : Nat) (m : Master) (v : Nat) (s0 : State) : Host.Outcome State Fault Refusal :=
  ok ((s0.advance t).requestNat m Ob.restoreDefaultParameters 4 v)

/-- A write of Number of Errors. -/
def execNumberOfErrorsClear (t : Nat) (m : Master) (v : Nat) (s0 : State) : Host.Outcome State Fault Refusal :=
  ok ((s0.advance t).requestNat m Ob.numberOfErrors 1 v)

/-- STATUS_ACKNOWLEDGE. -/
def execStatusAcknowledge (t : Nat) (m : Master) (v : Nat) (s0 : State) : Host.Outcome State Fault Refusal :=
  ok ((s0.advance t).requestNat m Ob.statusAcknowledge 1 v)

/-- SESSION_CHALLENGE: an upload of Session Challenge (R409). -/
def execSessionChallenge (t : Nat) (m : Master) (s0 : State) : Host.Outcome State Fault Refusal :=
  ok ((s0.advance t).upload m Ob.sessionChallenge (fun s => (s.readChallenge m).2))

/-- SESSION_RESPONSE. -/
def execSessionResponse (t : Nat) (m : Master) (data : List Byte) (s0 : State) : Host.Outcome State Fault Refusal :=
  ok ((s0.advance t).request m Ob.sessionResponse data)

/-- SESSION_CLOSE. -/
def execSessionClose (t : Nat) (m : Master) (v : Nat) (s0 : State) : Host.Outcome State Fault Refusal :=
  ok ((s0.advance t).requestNat m Ob.sessionClose 1 v)

/-- ROLE_KEY_WRITE: key 0 Owner to 3 Observer. -/
def execRoleKeyWrite (t : Nat) (m : Master) (which : Fin 4) (data : List Byte) (s0 : State) : Host.Outcome State Fault Refusal :=
  ok ((s0.advance t).request m (Ob.roleKey which) data)

/-- PACKAGE_KEYS_WRITE. -/
def execPackageKeysWrite (t : Nat) (m : Master) (data : List Byte) (s0 : State) : Host.Outcome State Fault Refusal :=
  ok ((s0.advance t).request m Ob.packageKeys data)

/-- ACCESS_RIGHTS_WRITE. -/
def execAccessRightsWrite (t : Nat) (m : Master) (data : List Byte) (s0 : State) : Host.Outcome State Fault Refusal :=
  ok ((s0.advance t).request m Ob.accessRightsTable data)

/-- DRAM_FIREWALL_WRITE. -/
def execDramFirewallWrite (t : Nat) (m : Master) (data : List Byte) (s0 : State) : Host.Outcome State Fault Refusal :=
  ok ((s0.advance t).request m Ob.dramFirewall data)

/-- PORT_FILTERS_WRITE. -/
def execPortFiltersWrite (t : Nat) (m : Master) (data : List Byte) (s0 : State) : Host.Outcome State Fault Refusal :=
  ok ((s0.advance t).request m Ob.portFilters data)

/-- DEBUG_LOCK_WRITE. -/
def execDebugLockWrite (t : Nat) (m : Master) (v : Nat) (s0 : State) : Host.Outcome State Fault Refusal :=
  ok ((s0.advance t).requestNat m Ob.debugLock 1 v)

/-- DEBUG_READ_DATA: an upload of Debug Read Data (R415). -/
def execDebugReadData (t : Nat) (m : Master) (s0 : State) : Host.Outcome State Fault Refusal :=
  ok ((s0.advance t).upload m Ob.debugReadData (fun s => s.readDebug.2))

/-- Certified Command 1 (R417). -/
def execCertifiedEnter (t : Nat) (m : Master) (s0 : State) : Host.Outcome State Fault Refusal :=
  ok ((s0.advance t).requestNat m Ob.certifiedCommand 1 1)

/-- Certified Command 2 (R417). -/
def execCertifiedLeave (t : Nat) (m : Master) (s0 : State) : Host.Outcome State Fault Refusal :=
  ok ((s0.advance t).requestNat m Ob.certifiedCommand 1 2)

/-- LOAD: Package Command 1 (R421). -/
def execLoad (t : Nat) (m : Master) (s0 : State) : Host.Outcome State Fault Refusal :=
  ok ((s0.advance t).requestNat m Ob.packageCommand 1 1)

/-- COMMIT: Package Command 2 (R427). -/
def execCommit (t : Nat) (m : Master) (s0 : State) : Host.Outcome State Fault Refusal :=
  ok ((s0.advance t).requestNat m Ob.packageCommand 1 2)

/-- ERASE: Package Command 3 (R357, R424). -/
def execErase (t : Nat) (m : Master) (s0 : State) : Host.Outcome State Fault Refusal :=
  ok ((s0.advance t).requestNat m Ob.packageCommand 1 3)

/-- BUILT_IN_TEST (R358). -/
def execBuiltInTest (t : Nat) (m : Master) (v : Nat) (s0 : State) : Host.Outcome State Fault Refusal :=
  ok ((s0.advance t).requestNat m Ob.builtinTest 1 v)

/-- LEDGER_CLEAR. -/
def execLedgerClear (t : Nat) (m : Master) (v : Nat) (s0 : State) : Host.Outcome State Fault Refusal :=
  ok ((s0.advance t).requestNat m Ob.ledgerClear 1 v)

end Sys2Proof.Machine
end

