-- ==== Sys2Proof/Machine/ProcessData.lean ====
section
/-! DEFINITION. The EtherCAT state machine (R335), process data at SYNC0 (R336, R350, R314). -/

namespace Sys2Proof.Machine

/-! ## The EtherCAT state machine -/

/-- Whether the EtherCAT state machine has a transition between two states: 1 INIT, 2 PREOP, 3 Bootstrap, 4 SAFEOP, 8 OP. -/
def ecatMove (a b : Nat) : Bool :=
  [(1, 2), (1, 3), (3, 1), (2, 1), (2, 4), (4, 1), (4, 2), (4, 8), (8, 1), (8, 2), (8, 4)].contains (a, b)

/-- The AL status code that refuses a requested state, 0 where it is entered (Table 13-5, R350; log entry 62). -/
def State.alCode (s : State) (st sync0 : Nat) : Nat :=
  let cur := s.nat Ob.ethercatState
  if st = cur then 0
  else if !([1, 2, 3, 4, 8].contains st) then 0x0012
  else if !ecatMove cur st then 0x0011
  else if st = 3 ∧ s.dev ≠ 2 ∧ s.dev ≠ 7 then 0x0011
  else if st = 4 ∧ cur = 2 then
    if sync0 < 31250 then 0x0030
    else if !s.mappingFits true then 0x001D
    else if !s.mappingFits false then 0x001E
    else 0
  else 0

/-- The cycle of SYNC0 in force, as the SyncManager objects show it (Table 14-2). -/
def State.setCycle (s : State) (ns : Nat) : State :=
  { s with ctrl := { s.ctrl with sync0 := ns } }.setAll [(Ob.outputCycleTime, (ns : Nat)), (Ob.inputCycleTime, (ns : Nat))]

/-- What the previous value of an RxPDO entry is taken as on entry to OP: the object's value, 0 for a wo object (R336). -/
def State.entryStart (s : State) (e : Nat) : Nat :=
  match objAt (e / 256) with
  | some r => if r.acc = .wo then 0 else unsigned (widthOf r) (s.readNum .pdo (e / 256))
  | none => 0

/-- A state entered (R335, R336, R337, R350). -/
def State.enterEcat (s : State) (st sync0 : Nat) : State :=
  let cur := s.nat Ob.ethercatState
  let s1 := s.setNat Ob.ethercatState st
  let s2 :=
    if st = 4 ∧ cur = 2 then
      let s2 := s1.setCycle sync0
      { s2 with ctrl := { s2.ctrl with windows := (List.range 9).map (fun q => s2.nat (Ob.pdoWindow q)) } }
    else if st < 4 then s1.setCycle 0
    else s1
  if st = 8 then
    let es := s2.mapped true
    { s2 with ctrl := { s2.ctrl with
        rxPrev := (List.range es.length).map (fun j => (j, s2.entryStart (nth 0 es j))), rxFrame := none, leftOp := false,
        fieldLost := s2.ctrl.fieldLost && decide (100 ≤ s2.silence) } }
  else if cur = 8 then { s2 with ctrl := { s2.ctrl with leftOp := true, rxFrame := none } }
  else s2

/-- ETHERCAT_STATE_REQUEST: the state is entered, or refused with an AL status code (R335). -/
def execEthercatStateRequest (t : Nat) (st sync0 : Nat) (s0 : State) : Host.Outcome State Fault Refusal :=
  let s := s0.advance t
  if !s.power.lodge then ok s
  else
    let code := s.alCode st sync0
    let s1 := { s with ctrl := { s.ctrl with alStatus := code } }
    if code = 0 ∧ st ≠ s.nat Ob.ethercatState then ok (s1.enterEcat st sync0) else ok s1

/-! ## Process data -/

/-- The entries of the RxPDO with their places in the frame: position, mapping entry, byte offset. -/
def rxPlaces : List Nat → Nat → Nat → List (Nat × Nat × Nat)
  | [], _, _ => []
  | e :: es, j, off => (j, e, off) :: rxPlaces es (j + 1) (off + e % 256 / 8)

/-- An RxPDO entry: where its value differs from the previous one it is a request of the PDO port (R336, R334; log entry 63). -/
def State.applyEntry (s : State) (rx : List Byte) (x : Nat × Nat × Nat) : State :=
  let n := x.2.1 % 256 / 8
  let bs := bytesAt rx x.2.2 n
  if n = 0 ∨ ofLeBytes bs = s.ctrl.rxPrev.get 0 x.1 then s
  else
    let s1 := { s with ctrl := { s.ctrl with rxPrev := s.ctrl.rxPrev.set x.1 (ofLeBytes bs) } }
    s1.request .pdo (x.2.1 / 256) bs

/-- The RxPDO frame received last, applied in OP. -/
def State.applyFrame (s : State) : State :=
  match s.ctrl.rxFrame with
  | none => s
  | some rx =>
    if s.nat Ob.ethercatState ≠ 8 then s
    else (rxPlaces (s.mapped true) 0 0).foldl (fun s x => s.applyEntry rx x) { s with ctrl := { s.ctrl with rxFrame := none } }

/-- The Result Window of a queue at a SYNC0 event and the state after its read (R314, R336). -/
def State.readWindow (s : State) (q : Nat) : List Byte × State :=
  let w := nth 256 s.ctrl.windows q
  if s.dieUp ∧ s.readerInForce q = 1 then
    let r := s.readQueue q w
    (leBytes 4 r.1 ++ padTo w r.2.1, r.2.2)
  else (padTo (4 + w) [1], s)

/-- The nine windows, read in order. -/
def State.readWindows (s : State) : List (List Byte) × State :=
  (List.range 9).foldl (fun (a : List (List Byte) × State) q => (a.1 ++ [(a.2.readWindow q).1], (a.2.readWindow q).2)) ([], s)

/-- The bytes of a TxPDO entry. -/
def State.txEntry (s : State) (ws : List (List Byte)) (e : Nat) : List Byte :=
  match windowQueue (e / 256) with
  | some q => nth [] ws q
  | none => leBytes (e % 256 / 8) (unsigned (e % 256) (s.readNum .pdo (e / 256)))

/-- SYNC0_EVENT: RxPDO changes are applied, the result windows read and the TxPDO latched (R314, R336). -/
def execSync0Event (t : Nat) (s0 : State) : Host.Outcome State Fault Refusal :=
  let s := s0.advance t
  let st := s.nat Ob.ethercatState
  if !s.power.lodge ∨ (st ≠ 4 ∧ st ≠ 8) then ok s
  else
    let s1 := s.applyFrame
    let r := s1.readWindows
    let s2 := r.2
    ok { s2 with ctrl := { s2.ctrl with txLatch := (s2.mapped false).flatMap (s2.txEntry r.1) } }

end Sys2Proof.Machine
end

