-- ==== Sys2Proof/Machine/Boundary.lean ====
section
/-! DEFINITION. The slot boundary (R5): what waits for it takes effect there. -/

namespace Sys2Proof.Machine

/-- The instant of the slot boundary that comes next: strictly later than every command taken so far, so a write or command applied
exactly at a boundary takes effect at the one after it (R5). -/
def State.boundaryTime (s : State) : Nat := nextBoundary s.time

/-- The slot boundary's effects on a die that is up: staged writes and loop commits go into force as an epoch where they bear one
(R255), encoders load, rate rings advance, the calibration runtime gets its budget at a millisecond (R258), a device transition and
a commit take effect (R327, R429), and the Square opens its slot (R222). -/
def State.dieBoundary (s : State) : State :=
  let changed := (s.heldNum.map Prod.fst) ++ (s.heldDom.map Prod.fst)
  let s1 := s.calBoundary (slotOf s.time)
  let s2 := { s1 with heldNum := [], heldDom := [] }.kerbSwap changed s.time
  let s3 := s2.encoderBoundary.rateRings
  s3.calMillisecond.transitionBoundary.commitBoundary.squareBoundary

/-- SLOT_BOUNDARY: device time reaches a multiple of 1,000 ns (R5). -/
def execSlotBoundary (s0 : State) : Host.Outcome State Fault Refusal :=
  let s := { s0 with time := s0.boundaryTime, lastBoundary := s0.boundaryTime }.retryTaps
  if s.dieUp ∧ !s.fenced then ok s.dieBoundary else ok s

end Sys2Proof.Machine
end

