-- ==== Sys2Proof/Machine/Scrub.lean ====
section
/-! DEFINITION. Errors that the checks of Table 12-4 find in memories and on the mesh (R100, R316, R318 to R320). -/

namespace Sys2Proof.Machine

/-- An error counter of 0x2B20: 0 mesh corrected, 1 mesh uncorrectable, 2 DRAM corrected, 3 DRAM uncorrectable, 4 DRAM link ECC corrected,
5 Square SRAM corrected, 6 uncorrectable, 7 Lodge corrected, 8 uncorrectable (Table 12-5). -/
def State.integrity (s : State) (i : Nat) : State := s.count 64 (Ob.integrityCounter i) 1

/-! ## The Square's SRAMs (R319) -/

/-- A filed measurement discarded: the `i`-th of an Arcade slot not yet fused. -/
def State.loseMeasurement (s : State) (slot i : Nat) : State :=
  if s.square.open_.any (fun o => o.k == slot && decide (i < o.meas.length) && s.square.fusing.all (fun f => f.k != slot)) then
    (s.setSquare { s.square with open_ := s.square.open_.map (fun o => if o.k = slot then { o with meas := dropNth o.meas i } else o) }).lostItem
  else s

/-- An entry of the late queue discarded (R318, R319). -/
def State.loseLate (s : State) (i : Nat) : State :=
  if i < s.square.late.length then
    ((s.setSquare { s.square with late := dropNth s.square.late i }).setNat Ob.lateQueueFill (s.square.late.length - 1)).lostItem
  else s

/-! ## The mesh (Table 12-4) -/

/-- An uncorrectable flit: a C1 response becomes an error response (R110), an item of another class is discarded. -/
def State.loseFlit (s : State) (x : MeshItem) (i : Nat) : State :=
  match x with
  | .response tile =>
    match (s.tile tile).trans[i]? with
    | some tr => if tr.acc.module.isNone then s.endTrans tile tr true [] else s
    | none => s
  | .post => { s with market := { s.market with posts := dropNth s.market.posts i } }
  | .spike => { s with market := { s.market with spikes := dropNth s.market.spikes i } }
  | .record => { s with market := { s.market with submissions := dropNth s.market.submissions i } }
  | .result q => s.modQueue q (fun r => { r with posts := dropNth r.posts i })

/-! ## The Lodge's retention memory (R320) -/

/-- The street map restored from its flash mirror. -/
def State.restoreMap (s : State) : State :=
  let bytes := fun (m : Option (List Byte)) => m.getD ((List.range 1024).map (fun i => if i % 2 = 0 then 0x3F else 0))
  let r := s.link.mirror.map Prod.fst
  let l := s.link.mirror.map Prod.snd
  let s1 := (s.setDom Ob.streetRegionMap (bytes r)).setDom Ob.localMap (bytes l)
  { s1 with link := { s1.link with region := r, local_ := l, swap := false, mirrorDue := false } }

/-- A port's trained coefficients lost: the next training is a full one. -/
def State.loseCoefficients (s : State) (p : Nat) : State :=
  (s.setNat (Ob.coefficientsStored p) 0).modLink p (fun l => { l with full := true })

/-! ## The commands -/

/-- A single flipped bit corrected: counted, with its notice (R100, Table 12-4). -/
def State.correctWord (s : State) (store : SramStore) : State :=
  match store with
  | .tile t _ => s.correctTile t
  | .mesh _ => (s.integrity 0).raiseSlow 0x0A04 noUnit
  | .streetMap => s.integrity 7
  | .coefficients => s.integrity 7
  | _ => s.integrity 5

/-- An uncorrectable error in a store (Table 12-4, R319, R320); `i` is the place, track or slot of the entry it hits. -/
def State.failWord (s : State) (store : SramStore) (i : Nat) : State :=
  match store with
  | .tile t x => s.failTile t x
  | .mesh x => ((s.integrity 1).loseFlit x i).raise 0x0A05 noUnit
  | .tracks =>
    let s1 := s.integrity 6
    s1.setSquare { s1.square with doomed := if s1.square.doomed.contains i then s1.square.doomed else s1.square.doomed ++ [i] }
  | .measurements slot => (s.integrity 6).loseMeasurement slot i
  | .lateQueue => (s.integrity 6).loseLate i
  | .history =>
    let s1 := s.integrity 6
    s1.setSquare { s1.square with spoiled := if s1.square.spoiled.contains i then s1.square.spoiled else i :: s1.square.spoiled }
  | .anchors =>
    let s1 := s.integrity 6
    s1.setSquare { s1.square with spoiledAnchors := if s1.square.spoiledAnchors.contains i then s1.square.spoiledAnchors else i :: s1.square.spoiledAnchors }
  | .streetMap => ((s.integrity 8).restoreMap).raise 0x0A0A noUnit
  | .coefficients => ((s.integrity 8).loseCoefficients (i % 4)).raise 0x0A0A noUnit

/-- SRAM_SCRUB: a word read or scrubbed: a single flipped bit is corrected, an uncorrectable error has the effect of its store (R100,
R316, R319, R320). -/
def execSramScrub (t : Nat) (store : SramStore) (i : Nat) (found : Upset) (s0 : State) : Host.Outcome State Fault Refusal :=
  let s := s0.advance t
  match found with
  | .none => ok s
  | .single => ok (s.correctWord store)
  | .double => ok (s.failWord store i)

/-- What an uncorrectable error in a DRAM word does beside its notice: the read it hits is answered with an error response, to another
module with status 6 (R110, R290); the surface entries of a word that cannot be read are invalid, and an entry of the late queue whose
measurement cannot be read back is discarded (R318). -/
def State.failDram (s : State) (word : DramWord) : State :=
  match word with
  | .late i => s.loseLate i
  | .link => s
  | .tileRead tile i =>
    match (s.tile tile).trans[i]? with
    | some tr => if tr.acc.module.isNone ∧ !tr.acc.write ∧ targetOf tr.acc.addr.toNat = .dram then s.endTrans tile tr true [] else s
    | none => s
  | .linkRead p h => if s.forUs p h 1 ∧ targetOf (hB h) = .dram then s.refuse p h 6 else s
  | .at_ a =>
    let w := a / 8 * 8
    match (List.range 4).find? (fun p => decide (surfaceBase p ≤ w ∧ w < surfaceBase p + 0x4000000)) with
    | some p => { s with mem := Memory.mapRange s.mem w (w + 8) (clearValid (s.surfFormat p) (surfaceBase p)) }
    | none => s

/-- DRAM_SCRUB: a single-bit error is corrected with notice 0x0A06 at most once per second; an uncorrectable one raises 0x0A07
(R318). -/
def execDramScrub (t : Nat) (found : DramUpset) (s0 : State) : Host.Outcome State Fault Refusal :=
  let s := s0.advance t
  match found.upset with
  | .none => ok s
  | .single => ok ((s.integrity (if found.word = .link then 4 else 2)).raiseSlow 0x0A06 noUnit)
  | .double => ok (((s.integrity 3).raise 0x0A07 noUnit).failDram found.word)

end Sys2Proof.Machine
end

