-- ==== Sys2Proof/Machine/Dispatch.lean ====
section
/-! DEFINITION. One arm per command: what each does to everything but the queue. -/

namespace Sys2Proof.Machine

/-- The effect of a command. -/
def exec (i : Instr) (s : State) : Host.Outcome State Fault Refusal :=
  match i with
  | .inputPowerValid => Sys2Proof.Machine.execInputPowerValid s
  | .dieBringupDone t => Sys2Proof.Machine.execDieBringupDone t s
  | .autoload t => Sys2Proof.Machine.execAutoload t s
  | .inputVoltageExcursion t mv => Sys2Proof.Machine.execInputVoltageExcursion t mv s
  | .inputBelowHoldUp t mv => Sys2Proof.Machine.execInputBelowHoldUp t mv s
  | .inputRestored t mv => Sys2Proof.Machine.execInputRestored t mv s
  | .inputBelowLodgeSupply t => Sys2Proof.Machine.execInputBelowLodgeSupply t s
  | .regulatorOutOfRegulation t => Sys2Proof.Machine.execRegulatorOutOfRegulation t s
  | .thermalCapTick t junction plate => Sys2Proof.Machine.execThermalCapTick t junction plate s
  | .thermalShutdown t junction plate => Sys2Proof.Machine.execThermalShutdown t junction plate s
  | .lodgeSupervisorTimeout t => Sys2Proof.Machine.execLodgeSupervisorTimeout t s
  | .slotBoundary => Sys2Proof.Machine.execSlotBoundary s
  | .timeSourceWrite t m v => Sys2Proof.Machine.execTimeSourceWrite t m v s
  | .timeSourceSample t offset => Sys2Proof.Machine.execTimeSourceSample t offset s
  | .timeSourceLost t => Sys2Proof.Machine.execTimeSourceLost t s
  | .holdoverLimitExpiry t => Sys2Proof.Machine.execHoldoverLimitExpiry t s
  | .syncOutEdge t => Sys2Proof.Machine.execSyncOutEdge t s
  | .syncOutPulseEnd t => Sys2Proof.Machine.execSyncOutPulseEnd t s
  | .portEnable t m p v => Sys2Proof.Machine.execPortEnable t m p v s
  | .clearLost t m p => Sys2Proof.Machine.execClearLost t m p s
  | .reAnchor t m p => Sys2Proof.Machine.execReAnchor t m p s
  | .csi2PacketHeader t p h => Sys2Proof.Machine.execCsi2PacketHeader t p h s
  | .eventWord t p w => Sys2Proof.Machine.execEventWord t p w s
  | .framePacket t p item => Sys2Proof.Machine.execFramePacket t p item s
  | .payloadCrcCheck t p ok => Sys2Proof.Machine.execPayloadCrcCheck t p ok s
  | .rateTrimWindowEnd t p => Sys2Proof.Machine.execRateTrimWindowEnd t p s
  | .hotWindowEnd t p => Sys2Proof.Machine.execHotWindowEnd t p s
  | .coldTimeExpiry t p => Sys2Proof.Machine.execColdTimeExpiry t p s
  | .surfaceLineWriteback t line => Sys2Proof.Machine.execSurfaceLineWriteback t line s
  | .governorTick t => Sys2Proof.Machine.execGovernorTick t s
  | .gateDeliveryFlit t turn => Sys2Proof.Machine.execGateDeliveryFlit t turn s
  | .i3cTransfer t m p data => Sys2Proof.Machine.execI3cTransfer t m p data s
  | .i3cTransferComplete t p result data => Sys2Proof.Machine.execI3cTransferComplete t p result data s
  | .inBandInterrupt t p addr payload => Sys2Proof.Machine.execInBandInterrupt t p addr payload s
  | .triggerInputEdge t n level => Sys2Proof.Machine.execTriggerInputEdge t n level s
  | .kerbDecayTick t c => Sys2Proof.Machine.execKerbDecayTick t c s
  | .coarseCode t n q => Sys2Proof.Machine.execCoarseCode t n q s
  | .kerbPulseEnd t src => Sys2Proof.Machine.execKerbPulseEnd t src s
  | .kerbInhibitEnd t n => Sys2Proof.Machine.execKerbInhibitEnd t n s
  | .ruleEnable t m n v => Sys2Proof.Machine.execRuleEnable t m n v s
  | .latchClear t m k v => Sys2Proof.Machine.execLatchClear t m k v s
  | .channelEnable t m n v => Sys2Proof.Machine.execChannelEnable t m n v s
  | .customFirWrite t m n data => Sys2Proof.Machine.execCustomFirWrite t m n data s
  | .modulatorOverload t n positive => Sys2Proof.Machine.execModulatorOverload t n positive s
  | .decimatedSample t n mods overrange => Sys2Proof.Machine.execDecimatedSample t n mods overrange s
  | .settlingDone t n => Sys2Proof.Machine.execSettlingDone t n s
  | .offsetCalPeriod t n measured => Sys2Proof.Machine.execOffsetCalPeriod t n measured s
  | .slotBlockWrite t input => Sys2Proof.Machine.execSlotBlockWrite t input s
  | .blockComplete t input => Sys2Proof.Machine.execBlockComplete t input s
  | .inertialReadTrigger t r => Sys2Proof.Machine.execInertialReadTrigger t r s
  | .inertialReadComplete t m data => Sys2Proof.Machine.execInertialReadComplete t m data s
  | .drdySilence t m => Sys2Proof.Machine.execDrdySilence t m s
  | .encoderEdge t e a b => Sys2Proof.Machine.execEncoderEdge t e a b s
  | .indexEdge t z => Sys2Proof.Machine.execIndexEdge t z s
  | .encoderCommand t m e v => Sys2Proof.Machine.execEncoderCommand t m e v s
  | .encoderLineFault t e => Sys2Proof.Machine.execEncoderLineFault t e s
  | .encoderLineRestore t e => Sys2Proof.Machine.execEncoderLineRestore t e s
  | .bundleIssue t tile => Sys2Proof.Machine.execBundleIssue t tile s
  | .agWaitRelease t tile ag => Sys2Proof.Machine.execAgWaitRelease t tile ag s
  | .agCompletionPost t tile ag => Sys2Proof.Machine.execAgCompletionPost t tile ag s
  | .transactionIssue t tile issuer acc => Sys2Proof.Machine.execTransactionIssue t tile issuer acc s
  | .transactionResponse t tile slot error => Sys2Proof.Machine.execTransactionResponse t tile slot error s
  | .postArrival t j => Sys2Proof.Machine.execPostArrival t j s
  | .waitRelease t tile => Sys2Proof.Machine.execWaitRelease t tile s
  | .tileWake t tile => Sys2Proof.Machine.execTileWake t tile s
  | .inputMarkAutoRaise t tile => Sys2Proof.Machine.execInputMarkAutoRaise t tile s
  | .stepOpen t n => Sys2Proof.Machine.execStepOpen t n s
  | .stepRelease t tile => Sys2Proof.Machine.execStepRelease t tile s
  | .stepDoneReport t tile => Sys2Proof.Machine.execStepDoneReport t tile s
  | .spikeMessage t j => Sys2Proof.Machine.execSpikeMessage t j s
  | .routeCacheMissResponse t tile error => Sys2Proof.Machine.execRouteCacheMissResponse t tile error s
  | .sramScrub t store j found => Sys2Proof.Machine.execSramScrub t store j found s
  | .lagPublish t => Sys2Proof.Machine.execLagPublish t s
  | .voltageLoopTick t tile canaries power => Sys2Proof.Machine.execVoltageLoopTick t tile canaries power s
  | .guardCanaryError t tile => Sys2Proof.Machine.execGuardCanaryError t tile s
  | .deltaAudit t n layer samples => Sys2Proof.Machine.execDeltaAudit t n layer samples s
  | .forceExact t m n v => Sys2Proof.Machine.execForceExact t m n v s
  | .contextStart t m n => Sys2Proof.Machine.execContextStart t m n s
  | .contextPause t m n => Sys2Proof.Machine.execContextPause t m n s
  | .contextPauseDone t n => Sys2Proof.Machine.execContextPauseDone t n s
  | .contextResume t m n => Sys2Proof.Machine.execContextResume t m n s
  | .contextStop t m n => Sys2Proof.Machine.execContextStop t m n s
  | .contextUnload t m n => Sys2Proof.Machine.execContextUnload t m n s
  | .measurementFiled t j => Sys2Proof.Machine.execMeasurementFiled t j s
  | .feedWord r => Sys2Proof.Machine.execFeedWord r s
  | .feedWindowRefresh t => Sys2Proof.Machine.execFeedWindowRefresh t s
  | .slotClose t => Sys2Proof.Machine.execSlotClose t s
  | .slotDeadline t => Sys2Proof.Machine.execSlotDeadline t s
  | .egoSettle t => Sys2Proof.Machine.execEgoSettle t s
  | .egoCausalPublish t => Sys2Proof.Machine.execEgoCausalPublish t s
  | .fusionStart t => Sys2Proof.Machine.execFusionStart t s
  | .fusionEnd t => Sys2Proof.Machine.execFusionEnd t s
  | .referenceReset t m v => Sys2Proof.Machine.execReferenceReset t m v s
  | .projectionSetWrite t m f sub data => Sys2Proof.Machine.execProjectionSetWrite t m f sub data s
  | .sensorRestore t m n v => Sys2Proof.Machine.execSensorRestore t m n v s
  | .degradationReset t m v => Sys2Proof.Machine.execDegradationReset t m v s
  | .waitLimitLoopTick t => Sys2Proof.Machine.execWaitLimitLoopTick t s
  | .refractoryLearnWindowEnd t p => Sys2Proof.Machine.execRefractoryLearnWindowEnd t p s
  | .biasWindowEnd t p => Sys2Proof.Machine.execBiasWindowEnd t p s
  | .timeOffsetWindowEnd t p estimate peak => Sys2Proof.Machine.execTimeOffsetWindowEnd t p estimate peak s
  | .extrinsicWindowEnd t f rotation translation => Sys2Proof.Machine.execExtrinsicWindowEnd t f rotation translation s
  | .scaleWindowEnd t => Sys2Proof.Machine.execScaleWindowEnd t s
  | .calibrationRestart t m v => Sys2Proof.Machine.execCalibrationRestart t m v s
  | .calibrationSave t m v => Sys2Proof.Machine.execCalibrationSave t m v s
  | .linkDeskewCorrection t p ps => Sys2Proof.Machine.execLinkDeskewCorrection t p ps s
  | .chaivoPortEnable t m p v => Sys2Proof.Machine.execChaivoPortEnable t m p v s
  | .retrainStored t m p => Sys2Proof.Machine.execRetrainStored t m p s
  | .retrainFull t m p => Sys2Proof.Machine.execRetrainFull t m p s
  | .trainingComplete t p => Sys2Proof.Machine.execTrainingComplete t p s
  | .trainingStallNotice t p => Sys2Proof.Machine.execTrainingStallNotice t p s
  | .downRetryTimer t p => Sys2Proof.Machine.execDownRetryTimer t p s
  | .blockLockLoss t p => Sys2Proof.Machine.execBlockLockLoss t p s
  | .sfpInsertion t p ident => Sys2Proof.Machine.execSfpInsertion t p ident s
  | .sfpOvercurrent t p => Sys2Proof.Machine.execSfpOvercurrent t p s
  | .flitHeader t p h => Sys2Proof.Machine.execFlitHeader t p h s
  | .flitTrailer t p payload trailer => Sys2Proof.Machine.execFlitTrailer t p payload trailer s
  | .flitAckReceived t p ack cls credits => Sys2Proof.Machine.execFlitAckReceived t p ack cls credits s
  | .nakReceived t p lastGood => Sys2Proof.Machine.execNakReceived t p lastGood s
  | .retryTimeout t p => Sys2Proof.Machine.execRetryTimeout t p s
  | .linkBlock t p content => Sys2Proof.Machine.execLinkBlock t p content s
  | .timingBlockSend t p => Sys2Proof.Machine.execTimingBlockSend t p s
  | .timingBlockReceive t p content arrivalPs => Sys2Proof.Machine.execTimingBlockReceive t p content arrivalPs s
  | .timeMessageSend t p => Sys2Proof.Machine.execTimeMessageSend t p s
  | .time t p a b => Sys2Proof.Machine.execTime t p a b s
  | .hello t p a b => Sys2Proof.Machine.execHello t p a b s
  | .link t p b => Sys2Proof.Machine.execLink t p b s
  | .read t p h => Sys2Proof.Machine.execRead t p h s
  | .write t p h data => Sys2Proof.Machine.execWrite t p h data s
  | .writePosted t p h data => Sys2Proof.Machine.execWritePosted t p h data s
  | .pull t p h => Sys2Proof.Machine.execPull t p h s
  | .readResp t h data => Sys2Proof.Machine.execReadResp t h data s
  | .writeAck t h => Sys2Proof.Machine.execWriteAck t h s
  | .pullResp t h data => Sys2Proof.Machine.execPullResp t h data s
  | .errorResp t h => Sys2Proof.Machine.execErrorResp t h s
  | .kerbPostMessage t p h => Sys2Proof.Machine.execKerbPostMessage t p h s
  | .echo t p h => Sys2Proof.Machine.execEcho t p h s
  | .echoReply t h => Sys2Proof.Machine.execEchoReply t h s
  | .responseTimeout t tag => Sys2Proof.Machine.execResponseTimeout t tag s
  | .hostModeFrame t p fcsOk frame => Sys2Proof.Machine.execHostModeFrame t p fcsOk frame s
  | .streetMapWrite t m local_ data => Sys2Proof.Machine.execStreetMapWrite t m local_ data s
  | .streetMapSwap t => Sys2Proof.Machine.execStreetMapSwap t s
  | .mapFlashMirror t => Sys2Proof.Machine.execMapFlashMirror t s
  | .resultRecordEntry t w => Sys2Proof.Machine.execResultRecordEntry t w s
  | .batchTailTimeout t q => Sys2Proof.Machine.execBatchTailTimeout t q s
  | .queueStallNotice t q => Sys2Proof.Machine.execQueueStallNotice t q s
  | .commitTargetUnload t => Sys2Proof.Machine.execCommitTargetUnload t s
  | .provocationItem t j item => Sys2Proof.Machine.execProvocationItem t j item s
  | .provocationSwapTimeout t j => Sys2Proof.Machine.execProvocationSwapTimeout t j s
  | .dramScrub t found => Sys2Proof.Machine.execDramScrub t found s
  | .goReady t m => Sys2Proof.Machine.execGoReady t m s
  | .goRun t m => Sys2Proof.Machine.execGoRun t m s
  | .goStandby t m => Sys2Proof.Machine.execGoStandby t m s
  | .halt t m => Sys2Proof.Machine.execHalt t m s
  | .restart t m => Sys2Proof.Machine.execRestart t m s
  | .transitionComplete t => Sys2Proof.Machine.execTransitionComplete t s
  | .claimTake t m => Sys2Proof.Machine.execClaimTake t m s
  | .claimRelease t m => Sys2Proof.Machine.execClaimRelease t m s
  | .dictionaryWrite t m index sub data toggleOk => Sys2Proof.Machine.execDictionaryWrite t m index sub data toggleOk s
  | .sync0Event t => Sys2Proof.Machine.execSync0Event t s
  | .ethercatStateRequest t st sync0 => Sys2Proof.Machine.execEthercatStateRequest t st sync0 s
  | .fieldLoss t => Sys2Proof.Machine.execFieldLoss t s
  | .storeParameters t m v => Sys2Proof.Machine.execStoreParameters t m v s
  | .restoreDefaultParameters t m v => Sys2Proof.Machine.execRestoreDefaultParameters t m v s
  | .parameterMirrorWrite t => Sys2Proof.Machine.execParameterMirrorWrite t s
  | .numberOfErrorsClear t m v => Sys2Proof.Machine.execNumberOfErrorsClear t m v s
  | .statusAcknowledge t m v => Sys2Proof.Machine.execStatusAcknowledge t m v s
  | .sessionChallenge t m => Sys2Proof.Machine.execSessionChallenge t m s
  | .sessionResponse t m data => Sys2Proof.Machine.execSessionResponse t m data s
  | .sessionClose t m v => Sys2Proof.Machine.execSessionClose t m v s
  | .sessionTimeout t m => Sys2Proof.Machine.execSessionTimeout t m s
  | .roleKeyWrite t m which data => Sys2Proof.Machine.execRoleKeyWrite t m which data s
  | .packageKeysWrite t m data => Sys2Proof.Machine.execPackageKeysWrite t m data s
  | .accessRightsWrite t m data => Sys2Proof.Machine.execAccessRightsWrite t m data s
  | .dramFirewallWrite t m data => Sys2Proof.Machine.execDramFirewallWrite t m data s
  | .portFiltersWrite t m data => Sys2Proof.Machine.execPortFiltersWrite t m data s
  | .debugLockWrite t m v => Sys2Proof.Machine.execDebugLockWrite t m v s
  | .debugReadData t m => Sys2Proof.Machine.execDebugReadData t m s
  | .certifiedEnter t m => Sys2Proof.Machine.execCertifiedEnter t m s
  | .certifiedLeave t m => Sys2Proof.Machine.execCertifiedLeave t m s
  | .trngTestFail t => Sys2Proof.Machine.execTrngTestFail t s
  | .trngRetest t pass => Sys2Proof.Machine.execTrngRetest t pass s
  | .firmwareFoeWrite t image => Sys2Proof.Machine.execFirmwareFoeWrite t image s
  | .packageFoeWrite t slot phase => Sys2Proof.Machine.execPackageFoeWrite t slot phase s
  | .load t m => Sys2Proof.Machine.execLoad t m s
  | .loadComplete t => Sys2Proof.Machine.execLoadComplete t s
  | .commit t m => Sys2Proof.Machine.execCommit t m s
  | .erase t m => Sys2Proof.Machine.execErase t m s
  | .builtInTest t m v => Sys2Proof.Machine.execBuiltInTest t m v s
  | .builtInTestDone t results ms => Sys2Proof.Machine.execBuiltInTestDone t results ms s
  | .ledgerClear t m v => Sys2Proof.Machine.execLedgerClear t m v s
  | .tallySample t => Sys2Proof.Machine.execTallySample t s
  | .tallyExpiry t => Sys2Proof.Machine.execTallyExpiry t s
  | .fenceComplete t => Sys2Proof.Machine.execFenceComplete t s
  | .fenceTimeout t => Sys2Proof.Machine.execFenceTimeout t s
  | .ledgerReadTimeout t unit => Sys2Proof.Machine.execLedgerReadTimeout t unit s
  | .ledgerWritten t => Sys2Proof.Machine.execLedgerWritten t s
  | .resetRelease t => Sys2Proof.Machine.execResetRelease t s
  | .resetDone t => Sys2Proof.Machine.execResetDone t s
  | .resetDoneTimeout t => Sys2Proof.Machine.execResetDoneTimeout t s
  | .dramRetrainFail t => Sys2Proof.Machine.execDramRetrainFail t s
  | .ledgerFlashCopyDone t ok => Sys2Proof.Machine.execLedgerFlashCopyDone t ok s
  | .suspectReplayStart t => Sys2Proof.Machine.execSuspectReplayStart t s
  | .replayRangeDone t => Sys2Proof.Machine.execReplayRangeDone t s
  | .replaySliceExpiry t => Sys2Proof.Machine.execReplaySliceExpiry t s
  | .replayHang t => Sys2Proof.Machine.execReplayHang t s
  | .returnToService t => Sys2Proof.Machine.execReturnToService t s
  | .supplyTapOvercurrent t tap => Sys2Proof.Machine.execSupplyTapOvercurrent t tap s
  | .producerHeartbeat t => Sys2Proof.Machine.execProducerHeartbeat t s
  | .ethercatFrame t rx => Sys2Proof.Machine.execEthercatFrame t rx s
  | .canFdFrame t => Sys2Proof.Machine.execCanFdFrame t s
  | .modulePowerCycleEnd => Sys2Proof.Machine.execModulePowerCycleEnd s
  | .weightSwapComplete t n => Sys2Proof.Machine.execWeightSwapComplete t n s
  | .imageRewriteDone t n => Sys2Proof.Machine.execImageRewriteDone t n s
  | .linkBlockSend t p => Sys2Proof.Machine.execLinkBlockSend t p s
  | .tagReuseExpiry t tag => Sys2Proof.Machine.execTagReuseExpiry t tag s
  | .auditLogFlashMirror t => Sys2Proof.Machine.execAuditLogFlashMirror t s

end Sys2Proof.Machine
end

