-- ==== Sys2Proof/Safety.lean ====
section
/-! DEFINITION. The words the statements are written in: the parts of the state and what leaves them alone, the limits every
run keeps, the dictionary request a command stands for. -/

namespace Sys2Proof.Machine

/-! ## Parts of the state -/

/-- The parts of the state. `objects` are the numeric objects, `domains` the DOMAIN objects, `held` the values in force behind both. -/
inductive Part where
  | time | boundary | free | memory | objects | domains | held | health | control | power | discipline | gate | kerb | inputs
  | market | queues | square | calibration | link | security | flash | loader | recovery
  deriving DecidableEq, Repr

/-- A part is the same in two states. -/
def Part.same (s u : State) : Part → Prop
  | .time => u.time = s.time
  | .boundary => u.lastBoundary = s.lastBoundary
  | .free => u.freeCount = s.freeCount
  | .memory => u.mem = s.mem
  | .objects => u.objs = s.objs
  | .domains => u.doms = s.doms
  | .held => u.heldNum = s.heldNum ∧ u.heldDom = s.heldDom
  | .health => u.health = s.health
  | .control => u.ctrl = s.ctrl
  | .power => u.power = s.power
  | .discipline => u.disc = s.disc
  | .gate => u.gate = s.gate
  | .kerb => u.kerb = s.kerb
  | .inputs => u.inputs = s.inputs
  | .market => u.market = s.market
  | .queues => u.queues = s.queues
  | .square => u.square = s.square
  | .calibration => u.cal = s.cal
  | .link => u.link = s.link
  | .security => u.sec = s.sec
  | .flash => u.flash = s.flash
  | .loader => u.loader = s.loader
  | .recovery => u.recov = s.recov

/-- A command's next state differs from the state it ran on in the parts listed only; the queue of waiting commands is the same. -/
def Only (ps : List Part) (s u : State) : Prop := u.pending = s.pending ∧ ∀ p, p ∉ ps → p.same s u

/-- Every numeric object but those listed reads as before. -/
def Objects (ks : List Nat) (s u : State) : Prop := ∀ k, k ∉ ks → u.num k = s.num k

/-- The objects that a notice or a fault writes beside the log (R348, R353). -/
def logKeys : List Nat := [Ob.statusLogNewest, Ob.faultCount, Ob.faultsPending, Ob.noticeCount]

/-- One occurrence of a code has been put into the status log, under R353, at the device time of the new state. -/
def Logged (code unit_ : Nat) (s u : State) : Prop := u.health.log = logAfter u.time code unit_ s.health.log

/-! ## Limits every run keeps -/

/-- The memory is in its canonical form; the status log holds at most 256 entries (R353), the Standard Error Field 16 (R349), the
audit log and its mirror 4,096 (R416), the history of writes 1,280 (Table 16-3), flash 4 ledgers (R387); the thermal cap lies between
550 and 1,350 MHz (R377) and the trim of the time discipline within 50,000 ppb (R372). -/
structure State.Inv (s : State) : Prop where
  mem : Memory.wf s.mem = true
  log : s.health.log.length ≤ 256
  errors : s.health.stdErrors.length ≤ 16
  audit : s.sec.audit.length ≤ 4096
  mirror : s.flash.audit.length ≤ 4096
  history : s.ctrl.history.length ≤ 1280
  ledgers : s.recov.ledgers.length ≤ 4
  cap : 550 ≤ s.power.cap ∧ s.power.cap ≤ 1350
  trim : -50000 ≤ s.disc.trim ∧ s.disc.trim ≤ 50000

/-! ## Dictionary requests -/

/-- A write request of a master: instant, master, object, data, whether the toggle bits of its segments hold. -/
structure Request where
  t : Nat
  m : Master
  key : Nat
  data : List Byte
  toggleOk : Bool
  deriving DecidableEq, Repr

/-- The write request that a command stands for; none for the commands that write no object. -/
def requestOf : Instr → Option Request
  | .portEnable t m p v => some ⟨t, m, Ob.portEnable p, leBytes 1 v, true⟩
  | .clearLost t m p => some ⟨t, m, Ob.portCommand p, leBytes 1 1, true⟩
  | .reAnchor t m p => some ⟨t, m, Ob.portCommand p, leBytes 1 2, true⟩
  | .i3cTransfer t m p data => some ⟨t, m, Ob.i3cTransfer p, data, true⟩
  | .ruleEnable t m n v => some ⟨t, m, Ob.ruleEnable n, leBytes 1 v, true⟩
  | .latchClear t m k v => some ⟨t, m, Ob.latchClear k, leBytes 1 v, true⟩
  | .channelEnable t m n v => some ⟨t, m, Ob.channelEnable n, leBytes 1 v, true⟩
  | .customFirWrite t m n data => some ⟨t, m, Ob.customFir n, data, true⟩
  | .encoderCommand t m e v => some ⟨t, m, Ob.encoderCommand e, leBytes 1 v, true⟩
  | .forceExact t m n v => some ⟨t, m, Ob.forceExact n, leBytes 1 v, true⟩
  | .contextStart t m n => some ⟨t, m, Ob.contextCommand n, leBytes 1 1, true⟩
  | .contextPause t m n => some ⟨t, m, Ob.contextCommand n, leBytes 1 2, true⟩
  | .contextResume t m n => some ⟨t, m, Ob.contextCommand n, leBytes 1 3, true⟩
  | .contextStop t m n => some ⟨t, m, Ob.contextCommand n, leBytes 1 4, true⟩
  | .contextUnload t m n => some ⟨t, m, Ob.contextCommand n, leBytes 1 5, true⟩
  | .timeSourceWrite t m v => some ⟨t, m, Ob.timeSource, leBytes 1 v, true⟩
  | .referenceReset t m v => some ⟨t, m, Ob.referenceReset, leBytes 1 v, true⟩
  | .projectionSetWrite t m f sub data => some ⟨t, m, obKey (0x2700 + f) sub, data, true⟩
  | .sensorRestore t m n v => some ⟨t, m, Ob.sensorRestore n, leBytes 1 v, true⟩
  | .degradationReset t m v => some ⟨t, m, Ob.degradationReset, leBytes 1 v, true⟩
  | .calibrationRestart t m v => some ⟨t, m, Ob.calibrationRestart, leBytes 1 v, true⟩
  | .calibrationSave t m v => some ⟨t, m, Ob.calibrationSave, leBytes 1 v, true⟩
  | .chaivoPortEnable t m p v => some ⟨t, m, Ob.linkPortEnable p, leBytes 1 v, true⟩
  | .retrainStored t m p => some ⟨t, m, Ob.retrainCommand p, leBytes 1 1, true⟩
  | .retrainFull t m p => some ⟨t, m, Ob.retrainCommand p, leBytes 1 2, true⟩
  | .streetMapWrite t m local_ data => some ⟨t, m, if local_ then Ob.localMap else Ob.streetRegionMap, data, true⟩
  | .goReady t m => some ⟨t, m, Ob.deviceCommand, leBytes 1 1, true⟩
  | .goRun t m => some ⟨t, m, Ob.deviceCommand, leBytes 1 2, true⟩
  | .goStandby t m => some ⟨t, m, Ob.deviceCommand, leBytes 1 3, true⟩
  | .halt t m => some ⟨t, m, Ob.deviceCommand, leBytes 1 4, true⟩
  | .restart t m => some ⟨t, m, Ob.deviceCommand, leBytes 1 5, true⟩
  | .claimTake t m => some ⟨t, m, Ob.claimRequest, leBytes 1 1, true⟩
  | .claimRelease t m => some ⟨t, m, Ob.claimRequest, leBytes 1 2, true⟩
  | .dictionaryWrite t m index sub data toggleOk => some ⟨t, m, obKey index.toNat sub.toNat, data, toggleOk⟩
  | .storeParameters t m v => some ⟨t, m, Ob.storeParameters, leBytes 4 v, true⟩
  | .restoreDefaultParameters t m v => some ⟨t, m, Ob.restoreDefaultParameters, leBytes 4 v, true⟩
  | .numberOfErrorsClear t m v => some ⟨t, m, Ob.numberOfErrors, leBytes 1 v, true⟩
  | .statusAcknowledge t m v => some ⟨t, m, Ob.statusAcknowledge, leBytes 1 v, true⟩
  | .sessionResponse t m data => some ⟨t, m, Ob.sessionResponse, data, true⟩
  | .sessionClose t m v => some ⟨t, m, Ob.sessionClose, leBytes 1 v, true⟩
  | .roleKeyWrite t m which data => some ⟨t, m, Ob.roleKey which, data, true⟩
  | .packageKeysWrite t m data => some ⟨t, m, Ob.packageKeys, data, true⟩
  | .accessRightsWrite t m data => some ⟨t, m, Ob.accessRightsTable, data, true⟩
  | .dramFirewallWrite t m data => some ⟨t, m, Ob.dramFirewall, data, true⟩
  | .portFiltersWrite t m data => some ⟨t, m, Ob.portFilters, data, true⟩
  | .debugLockWrite t m v => some ⟨t, m, Ob.debugLock, leBytes 1 v, true⟩
  | .certifiedEnter t m => some ⟨t, m, Ob.certifiedCommand, leBytes 1 1, true⟩
  | .certifiedLeave t m => some ⟨t, m, Ob.certifiedCommand, leBytes 1 2, true⟩
  | .load t m => some ⟨t, m, Ob.packageCommand, leBytes 1 1, true⟩
  | .commit t m => some ⟨t, m, Ob.packageCommand, leBytes 1 2, true⟩
  | .erase t m => some ⟨t, m, Ob.packageCommand, leBytes 1 3, true⟩
  | .builtInTest t m v => some ⟨t, m, Ob.builtinTest, leBytes 1 v, true⟩
  | .ledgerClear t m v => some ⟨t, m, Ob.ledgerClear, leBytes 1 v, true⟩
  | _ => none

/-- The request is applied in a state: it reaches the dictionary and passes every check of Table 13-4 (R334). -/
def Request.Applied (r : Request) (s : State) : Prop :=
  (s.advance r.t).reaches r.m = true ∧ ((s.advance r.t).touch r.m).verdict r.m r.key r.data r.toggleOk = .applied

/-- The request is ignored with a reason (R334). -/
def Request.Ignored (r : Request) (s : State) (reason : Nat) : Prop :=
  (s.advance r.t).reaches r.m = true ∧ ((s.advance r.t).touch r.m).verdict r.m r.key r.data r.toggleOk = .ignored reason

/-- The command is a write request that is applied. -/
def Accepted (c : Instr) (s : State) : Prop := ∃ r, requestOf c = some r ∧ r.Applied s

/-- The objects that show the last ignored request (R334). -/
def ignoredKeys : List Nat :=
  [Ob.ignoredCount, Ob.lastIndex, Ob.lastSubindex, Ob.lastPort, Ob.lastReason, Ob.lastStamp]

/-- What every applied write may change beside its own effect: device time, the session's instant, the history of writes, the flash
mirror's need (R333, R344, R410). -/
def bookParts : List Part := [.time, .security, .control, .flash]

end Sys2Proof.Machine
end

