-- ==== Sys2Proof/Certificates/Slice0/Obligations.lean ====
section
/-! DEFINITION. The statements for the provers: what commands do, what they leave alone, what every step keeps. Each command of the table
completes in one of them: its conclusion is that exec answers a next state, under hypotheses on the state and the operands alone. -/

section

open Sys2Proof Sys2Proof.Machine

/-! ## The step, power-up, limits, notices, memory -/

/-- A step with a command at the front of the queue of waiting commands runs that command on the state with the queue's rest. -/
def Obligations.StepTakesTheFrontCommand : Prop :=
  ∀ (s : State) (c : Instr) (rest : List Instr),
    step { s with pending := c :: rest } = exec c { s with pending := rest }

/-- At power-up device time is 0, Device State is BOOT (1), the die is down, no context is loaded, no Claim Holder, no fault is pending, the
status log is empty, no command waits and both masters stand without a session, and the limits of State.Inv hold: canonical memory, the ring sizes
of the logs, the range of the thermal cap and of the trim. That memory reads 0 is the model's choice (log entry 1). It states parts of R326, R364.
-/
def Obligations.PowerUpState : Prop :=
  State.reset.time = 0 ∧ State.reset.num Ob.deviceState = 1 ∧ State.reset.num Ob.dieUp = 0 ∧ State.reset.num Ob.claimHolder = 0 ∧
  State.reset.num Ob.faultsPending = 0 ∧ State.reset.health.log = [] ∧ State.reset.pending = [] ∧
  (∀ n : Fin 8, State.reset.ctxState n = 0) ∧ State.reset.roleOf .mailbox = 0 ∧ State.reset.roleOf .canFd = 0 ∧
  (∀ a, Memory.read State.reset.mem a = 0) ∧ State.reset.Inv

/-- Every step from a state that keeps the limits of State.Inv gives a state that keeps them: memory stays in its canonical form, the status
log at most 256 entries, the Standard Error Field 16, the audit log 4,096, the history of writes 1,280, the ledgers in flash 4, the thermal cap
between 550 and 1,350 MHz, the trim within 50,000 ppb. -/
def Obligations.EveryStepKeepsLimits : Prop := ∀ s u : State, s.Inv → step s = .next u → u.Inv

/-- Every command in every state answers a next state, with the commands that wait behind it as they were: no command ends in a fault or a
refusal. -/
def Obligations.EveryCommandAnswers : Prop := ∀ (c : Instr) (s : State), ∃ u, exec c s = .next u ∧ u.pending = s.pending

/-- Raising a code leaves a log of at most 256 entries when it had at most 256. Where the newest entry with its code and unit was first seen less
than 1 s ago, that entry's count rises by one, saturating at 32 bits, and no entry is written. Otherwise a new entry with count 1 stands in front.
A fault raises Fault Count and Faults Pending and enters the Standard Error Field, of at most 16, with 0xFF00 in its low half; a notice raises
Notice Count and leaves the Standard Error Field. Nothing else of the state changes but the number of the newest entry. It states parts of R353.
-/
def Obligations.RaisedCodeIsLogged : Prop :=
  ∀ (s : State) (code unit_ : Nat),
    Only [.objects, .health] s (s.raise code unit_) ∧ Objects logKeys s (s.raise code unit_) ∧
    (s.health.log.length ≤ 256 → (s.raise code unit_).health.log.length ≤ 256) ∧
    (∀ (older newer : List LogEntry) (e : LogEntry), s.health.log = newer ++ e :: older →
        (∀ x ∈ newer, ¬ (x.code = code ∧ x.unit_ = unit_)) → e.code = code → e.unit_ = unit_ →
        (s.time < e.stamp + 1000000000 →
          (s.raise code unit_).health.log = newer ++ { e with count := min (e.count + 1) (2 ^ 32 - 1) } :: older) ∧
        (e.stamp + 1000000000 ≤ s.time →
          (s.raise code unit_).health.log = (⟨s.time, code, isFault code, unit_, 1⟩ :: s.health.log).take 256)) ∧
    ((∀ x ∈ s.health.log, ¬ (x.code = code ∧ x.unit_ = unit_)) →
        (s.raise code unit_).health.log = (⟨s.time, code, isFault code, unit_, 1⟩ :: s.health.log).take 256) ∧
    (isFault code = true →
        (s.raise code unit_).health.stdErrors = ((code * 65536 + 0xFF00) :: s.health.stdErrors).take 16 ∧
        (s.raise code unit_).nat Ob.faultCount = (s.nat Ob.faultCount + 1) % 2 ^ 64 ∧
        (s.raise code unit_).nat Ob.faultsPending = min (s.nat Ob.faultsPending + 1) 65535 ∧
        (s.raise code unit_).num Ob.noticeCount = s.num Ob.noticeCount ∧
        ∃ r, (s.raise code unit_).health.emcy = some (r, code)) ∧
    (isFault code = false →
        (s.raise code unit_).health.stdErrors = s.health.stdErrors ∧ (s.raise code unit_).health.emcy = s.health.emcy ∧
        (s.raise code unit_).nat Ob.noticeCount = (s.nat Ob.noticeCount + 1) % 2 ^ 64 ∧
        (s.raise code unit_).num Ob.faultCount = s.num Ob.faultCount ∧
        (s.raise code unit_).num Ob.faultsPending = s.num Ob.faultsPending)

/-- Bytes stored at an address are read back there, every byte outside them reads as before, and memory keeps its canonical form. It states parts
of R8, R108. -/
def Obligations.StoredBytesReadBack : Prop :=
  ∀ (s : State) (a : Nat) (bs : List Byte), Memory.wf s.mem = true →
    Memory.wf (s.store a bs).mem = true ∧
    (∀ i, i < bs.length → Memory.read (s.store a bs).mem (a + i) = bs.getD i 0) ∧
    (∀ x, x < a ∨ a + bs.length ≤ x → Memory.read (s.store a bs).mem x = Memory.read s.mem x) ∧
    Only [.memory] s (s.store a bs)

/-! ## Requests, device and context control -/

/-- Every command that is a write request, dictionaryWrite and each row that names one object, completes when it passes every check: its next
state is that of the write applied to its object, with the write kept for the ledger's history and marked for the flash mirror. It states parts of
R333, R334. -/
def Obligations.AppliedRequestCompletes : Prop :=
  ∀ (c : Instr) (r : Request) (s : State), requestOf c = some r → r.Applied s →
    ∃ row, objAt r.key = some row ∧
      exec c s = .next ((((s.advance r.t).touch r.m).applyWrite r.m row r.key (valueOf row r.data) r.data).keepWrite r.m row r.key
        (valueOf row r.data) r.data)

/-- A write request that is ignored raises Ignored Count by one and records its object, port, reason and instant in the Ignored Requests objects.
Nothing else changes but device time and the session's instant of its last request. A wrong Session Response and a refused debug access have more
effects and are not part of this statement. It states parts of R334. -/
def Obligations.IgnoredRequestIsRecorded : Prop :=
  ∀ (c : Instr) (r : Request) (s : State) (reason : Nat), requestOf c = some r → r.Ignored s reason →
    ¬ (r.key = Ob.sessionResponse ∧ reason = 3) → ¬ (r.key = Ob.debugReadAddress ∧ reason = 4) →
    ∃ u, exec c s = .next u ∧ u.time = max s.time r.t ∧
      u.nat Ob.ignoredCount = (s.nat Ob.ignoredCount + 1) % 2 ^ 32 ∧
      u.nat Ob.lastIndex = r.key / 256 ∧ u.nat Ob.lastSubindex = r.key % 256 ∧ u.nat Ob.lastPort = r.m.code ∧
      u.nat Ob.lastReason = reason ∧ u.nat Ob.lastStamp = u.time ∧
      Objects ignoredKeys s u ∧ Only [.time, .objects, .security] s u

/-- A write request that fails checks 1 to 3 of Table 13-4 is aborted and changes no object and no part of the device but device time and the
session's instant; one that does not reach the dictionary changes device time only. It states parts of R334. -/
def Obligations.AbortedRequestChangesNothing : Prop :=
  ∀ (c : Instr) (r : Request) (s : State), requestOf c = some r →
    ((s.advance r.t).reaches r.m = false → exec c s = .next (s.advance r.t)) ∧
    ((s.advance r.t).reaches r.m = true → ((s.advance r.t).touch r.m).verdict r.m r.key r.data r.toggleOk = .abort →
      ∃ u, exec c s = .next u ∧ Only [.time, .security] s u)

/-- A write to an object that does not exist is aborted. With the object's length and toggle bits right: a role below the object's is ignored with
reason 1; a write to a ro object by a session with the role, with 2; a write outside the Lodge set while the die is down, that passes the checks
before, with 7; a state command by a master that does not hold the claim, that passes the checks before, with 5. It states parts of R334, R342. -/
def Obligations.FirstFailingCheckDecides : Prop :=
  ∀ (s : State) (m : Master) (k : Nat) (data : List Byte),
    (∀ toggleOk, objAt k = none → s.verdict m k data toggleOk = .abort) ∧
    (∀ r, objAt k = some r → lengthOk r data.length = true →
      s.verdict m k data false = .abort ∧
      (s.roleOf m < s.needRole true k r → s.verdict m k data true = .ignored 1) ∧
      (s.needRole true k r ≤ s.roleOf m → r.acc = .ro → s.verdict m k data true = .ignored 2) ∧
      (s.needRole true k r ≤ s.roleOf m → r.acc ≠ .ro → s.certLocks k data = true → s.verdict m k data true = .ignored 6) ∧
      (s.needRole true k r ≤ s.roleOf m → r.acc ≠ .ro → s.certLocks k data = false →
        (s.dieUp = false → lodgeKey k = false → s.verdict m k data true = .ignored 7) ∧
        ((s.dieUp = true ∨ lodgeKey k = true) → stateCommand k = true → s.nat Ob.claimHolder ≠ claimSide m →
          s.verdict m k data true = .ignored 5)))

/-- After an applied write of a numeric object with an index from 0x2400 up to 0x260F the object reads the value written, and no other object
changes but those of the status log; memory and every part but health, device time, the session's instant, the history of writes and the need of
the flash mirror stay as they are. It states parts of R333. -/
def Obligations.WrittenSettingReadsBack : Prop :=
  ∀ (c : Instr) (r : Request) (row : ObjRow) (s : State), requestOf c = some r → r.Applied s → objAt r.key = some row → widthOf row ≠ 0 →
    0x2400 ≤ r.key / 256 → r.key / 256 < 0x2610 →
    ∃ u, exec c s = .next u ∧ u.num r.key = valueOf row r.data ∧ Objects (r.key :: logKeys) s u ∧
      Only ([.objects, .health] ++ bookParts) s u

/-- After an applied write of a counter object of the Kerb path (0x2300 to 0x2303) the object reads the value written, while the value in force
stays what it was. At a SLOT_BOUNDARY with the die up and not fenced every deferred value comes into force: no object has a value in force other
than the one it reads. It states parts of R5, R62, R333. -/
def Obligations.DeferredWriteWaitsForTheBoundary : Prop :=
  (∀ (c : Instr) (r : Request) (row : ObjRow) (s : State), requestOf c = some r → r.Applied s → objAt r.key = some row → widthOf row ≠ 0 →
    0x2300 ≤ r.key / 256 → r.key / 256 ≤ 0x2303 →
    ∃ u, exec c s = .next u ∧ u.num r.key = valueOf row r.data ∧ u.forceNum r.key = s.forceNum r.key ∧
      Objects [r.key] s u ∧ Only ([.objects, .held] ++ bookParts) s u) ∧
  (∀ s : State, s.dieUp = true → s.fenced = false →
    ∃ u, exec .slotBoundary s = .next u ∧ s.time < u.time ∧ u.time % 1000 = 0 ∧ u.lastBoundary = u.time ∧
      ∀ k, u.forceNum k = u.num k)

/-- An accepted GO_READY or GO_RUN sets Transition Pending to 1 and waits for its slot boundary; Device State keeps showing the old state and no
other object changes. GO_STANDBY does the same and drops a commit that waits. HALT takes effect at once: every RUNNING context pauses, rules drive
nothing, out of RUN the late queue and the Arcade are emptied, and Device State still shows the old state. RESTART resets the die: RECOVERING with
every context EMPTY. It states parts of R326, R327. -/
def Obligations.DeviceCommandsAreAccepted : Prop :=
  ∀ (t : Nat) (m : Master) (s : State),
    (Accepted (.goReady t m) s → ∃ u, exec (.goReady t m) s = .next u ∧ u.num Ob.transitionPending = 1 ∧
      u.ctrl.transition = some ⟨1, s.dev, false⟩ ∧ Objects [Ob.transitionPending] s u ∧ Only (.objects :: bookParts) s u) ∧
    (Accepted (.goRun t m) s → ∃ u, exec (.goRun t m) s = .next u ∧ u.num Ob.transitionPending = 1 ∧
      u.ctrl.transition = some ⟨2, s.dev, false⟩ ∧ Objects [Ob.transitionPending] s u ∧ Only (.objects :: bookParts) s u) ∧
    (Accepted (.goStandby t m) s → ∃ u, exec (.goStandby t m) s = .next u ∧ u.num Ob.transitionPending = 1 ∧
      u.ctrl.transition = some ⟨3, s.dev, false⟩ ∧ u.loader.commit = none ∧
      Objects [Ob.transitionPending, Ob.commitPending] s u ∧ Only ([.objects, .loader] ++ bookParts) s u) ∧
    (Accepted (.halt t m) s → ∃ u, exec (.halt t m) s = .next u ∧ u.num Ob.transitionPending = 1 ∧
      u.ctrl.transition = some ⟨4, s.dev, true⟩ ∧ u.nat Ob.lastTransitionStamp = u.time ∧ u.dev = s.dev ∧
      (∀ n, n < 8 → u.ctxState n = if s.ctxState n = 2 then 3 else s.ctxState n) ∧
      u.kerb.levels = [] ∧ u.kerb.pulses = [] ∧ (∀ k, u.outputDrive k = false) ∧
      Only ([.memory, .objects, .domains, .health, .kerb, .market, .queues, .square, .calibration, .recovery] ++ bookParts) s u ∧
      (s.dev ≠ 4 → Only ([.objects, .kerb, .market, .queues] ++ bookParts) s u) ∧ (s.dev = 4 → u.square.late = [] ∧ u.square.top = none)) ∧
    (Accepted (.restart t m) s → ∃ u, exec (.restart t m) s = .next u ∧ u.dev = 6 ∧ u.dieUp = false ∧
      u.num Ob.transitionPending = 1 ∧ (∀ n, n < 8 → u.ctxState n = 0) ∧ u.recov.phase = .reset ∧ u.recov.restart = true)

/-- At its slot boundary a transition from STANDBY to READY and one from READY to RUN show the new state with Transition Pending 0; a transition
out of RUN or to STANDBY becomes effective and ends the Kerb path's drives; a device in READY whose last context is EMPTY goes to STANDBY. In each
case but the last Last Transition Stamp is the boundary's time. TRANSITION_COMPLETE of an effective GO_READY shows READY, of GO_STANDBY STANDBY,
of a HALT for which no context still pauses HALTED, each with Transition Pending 0. It states parts of R327. -/
def Obligations.TransitionsTakeEffect : Prop :=
  (∀ s : State,
    (s.ctrl.transition = some ⟨1, 2, false⟩ → s.transitionBoundary.dev = 3 ∧ s.transitionBoundary.num Ob.transitionPending = 0 ∧
      s.transitionBoundary.ctrl.transition = none ∧ s.transitionBoundary.nat Ob.lastTransitionStamp = s.time) ∧
    (∀ o, s.ctrl.transition = some ⟨2, o, false⟩ → s.transitionBoundary.dev = 4 ∧ s.transitionBoundary.num Ob.transitionPending = 0 ∧
      s.transitionBoundary.ctrl.transition = none ∧ s.transitionBoundary.nat Ob.lastTransitionStamp = s.time) ∧
    (∀ tr, s.ctrl.transition = some tr → tr.effective = false → (tr.cmd = 1 ∧ tr.origin ≠ 2 ∨ tr.cmd = 3) →
      s.transitionBoundary.ctrl.transition = some { tr with effective := true } ∧ s.transitionBoundary.dev = s.dev ∧
      s.transitionBoundary.nat Ob.lastTransitionStamp = s.time ∧ s.transitionBoundary.kerb.levels = []) ∧
    (s.ctrl.transition = none → s.dev = 3 → s.anyContext = false → s.transitionBoundary = s.setNat Ob.deviceState 2)) ∧
  (∀ (s : State) (t : Nat) (tr : Transition), s.ctrl.transition = some tr → tr.effective = true →
    (tr.cmd = 1 → ∃ u, exec (.transitionComplete t) s = .next u ∧ u.dev = 3 ∧ u.num Ob.transitionPending = 0 ∧ u.ctrl.transition = none) ∧
    (tr.cmd = 3 → ∃ u, exec (.transitionComplete t) s = .next u ∧ u.dev = 2 ∧ u.num Ob.transitionPending = 0 ∧ u.ctrl.transition = none ∧
      ∀ n, n < 8 → u.ctxState n = 0) ∧
    (tr.cmd = 4 → (∀ n, n < 8 → (s.ctx n).pausing = false) →
      ∃ u, exec (.transitionComplete t) s = .next u ∧ u.dev = 7 ∧ u.num Ob.transitionPending = 0 ∧ u.ctrl.transition = none))

/-- Device Commands, Context Commands, Port Commands, Sensor Restore, Degradation Reset, Calibration Restart and Package Commands from a master
whose side does not hold the Control Claim leave every object and part as they are, but for the Ignored Requests objects, device time and the
session's instant. An accepted take sets Claim Holder to the requester's side and an accepted release sets it to none; both raise Claim Changes by
one and change no other object. A take is accepted by the checks of Table 13-4 only when the claim is free, the requester is Owner, or the other
side is silent as Table 13-3 says; a take by the holder and a release by another are ignored with reason 4, a take no row of Table 13-3 allows
with reason 5. It states parts of R331, R332. -/
def Obligations.ControlClaimGoverns : Prop :=
  ∀ (t : Nat) (m : Master) (s : State),
    (Accepted (.claimTake t m) s → ∃ u, exec (.claimTake t m) s = .next u ∧ u.nat Ob.claimHolder = claimSide m ∧
      u.nat Ob.claimChanges = (s.nat Ob.claimChanges + 1) % 2 ^ 32 ∧ Objects [Ob.claimHolder, Ob.claimChanges] s u ∧
      Only (.objects :: bookParts) s u) ∧
    (Accepted (.claimRelease t m) s → ∃ u, exec (.claimRelease t m) s = .next u ∧ u.nat Ob.claimHolder = 0 ∧
      u.nat Ob.claimChanges = (s.nat Ob.claimChanges + 1) % 2 ^ 32 ∧ Objects [Ob.claimHolder, Ob.claimChanges] s u ∧
      Only (.objects :: bookParts) s u) ∧
    (s.nat Ob.claimHolder = claimSide m → s.claimVerdict m 1 = .ignored 4) ∧
    (s.nat Ob.claimHolder ≠ claimSide m → s.claimVerdict m 2 = .ignored 4) ∧
    (s.nat Ob.claimHolder ≠ claimSide m → s.takeAllowed m = true → s.claimVerdict m 1 = .applied) ∧
    (s.nat Ob.claimHolder ≠ claimSide m → s.takeAllowed m = false → s.claimVerdict m 1 = .ignored 5) ∧
    (s.nat Ob.claimHolder = 0 ∨ s.roleOf m = 4 → s.takeAllowed m = true) ∧
    (∀ (c : Instr) (r : Request) (u : State), requestOf c = some r → stateCommand r.key = true → s.nat Ob.claimHolder ≠ claimSide r.m →
      exec c s = .next u → Objects ignoredKeys s u ∧ Only [.time, .objects, .security] s u)

/-- An accepted START shows RUNNING with Context Status 0 and no lag; PAUSE shows PAUSED; RESUME of a context that needs no rewrite of its image
shows RUNNING with the evaluation that begins exact, and one that needs it waits for the rewrite; STOP shows LOADED; UNLOAD shows EMPTY and leaves
the context without package and partition. Other contexts keep their state. CONTEXT_PAUSE_DONE of a pausing context whose transactions have ended
and whose staged weights are not committed halts its tiles. WEIGHT_SWAP_COMPLETE of a swapping context applies the staged set and
IMAGE_REWRITE_DONE of a rewriting context runs it on. It states parts of R126, R128, R428, R429. -/
def Obligations.ContextCommandsAct : Prop :=
  ∀ (t : Nat) (m : Master) (n : Fin 8) (s : State),
    (Accepted (.contextStart t m n) s → ∃ u, exec (.contextStart t m n) s = .next u ∧ u.ctxState n = 2 ∧
      u.num (Ob.contextStatus n) = 0 ∧ u.num (Ob.lag n) = 0 ∧ (u.ctx n).logical = none ∧ (u.ctx n).exactNow = true ∧
      (∀ k : Fin 8, k ≠ n → u.ctxState k = s.ctxState k) ∧ u.mem = s.mem) ∧
    (Accepted (.contextPause t m n) s → ∃ u, exec (.contextPause t m n) s = .next u ∧ u.ctxState n = 3 ∧
      ∀ k : Fin 8, k ≠ n → u.ctxState k = s.ctxState k) ∧
    (Accepted (.contextResume t m n) s → (s.ctx n).needRewrite = false →
      ∃ u, exec (.contextResume t m n) s = .next u ∧ u.ctxState n = 2 ∧ u.num (Ob.contextStatus n) = 0 ∧ (u.ctx n).exactNow = true ∧
        (∀ k : Fin 8, k ≠ n → u.ctxState k = s.ctxState k) ∧ u.mem = s.mem) ∧
    (Accepted (.contextResume t m n) s → (s.ctx n).needRewrite = true →
      ∃ u, exec (.contextResume t m n) s = .next u ∧ (u.ctx n).rewriting = true ∧ u.ctxState n = s.ctxState n ∧ u.mem = s.mem) ∧
    (Accepted (.contextStop t m n) s → ∃ u, exec (.contextStop t m n) s = .next u ∧ u.ctxState n = 1 ∧ u.num (Ob.lag n) = 0 ∧
      ∀ k : Fin 8, k ≠ n → u.ctxState k = s.ctxState k) ∧
    (Accepted (.contextUnload t m n) s → ∃ u, exec (.contextUnload t m n) s = .next u ∧ u.ctxState n = 0 ∧ u.ctx n = Context.init ∧
      u.mem = s.mem ∧ ∀ k : Fin 8, k ≠ n → u.ctxState k = s.ctxState k) ∧
    ((s.ctx n).pausing = true → s.quiet n = true → (s.ctx n).swapAccepted = false →
      ∃ u, exec (.contextPauseDone t n) s = .next u ∧ (u.ctx n).pausing = false ∧ (∀ x ∈ s.ctxTiles n, u.nat (Ob.tileState x) = 4) ∧
        Only [.time, .objects, .market] s u) ∧
    (∀ p, (s.ctx n).swapping = true → (s.ctx n).staged = some p →
      ∃ u, exec (.weightSwapComplete t n) s = .next u ∧ (u.ctx n).staged = none ∧ (u.ctx n).swapping = false ∧ (u.ctx n).exactNow = true ∧
        u.ctxState n = s.ctxState n) ∧
    (∀ p, (s.ctx n).rewriting = true → (s.ctx n).content = some p →
      ∃ u, exec (.imageRewriteDone t n) s = .next u ∧ u.ctxState n = 2 ∧ (u.ctx n).rewriting = false ∧ (u.ctx n).needRewrite = false)

/-! ## Supply, temperature, time, bring-up, frames -/

/-- On a supplied Lodge an input voltage event shows the voltage and raises 0x0D03 exactly when the input leaves 18 V to 32 V. Below 15.0 V the
rails of a powered die are removed with fault 0x0D04 and HALTED, and at 17.0 V or more after such a removal the firmware starts again. Below 9.0 V
the module is off and every driver with it. A regulator failure removes the rails with 0x0D08, and holds the die off when an earlier one lies less
than 1 s back. A supply tap that holds its limit switches off. A silent Lodge firmware takes every rail off with its cause latched. It states parts of R367, R368, R435, R440. -/
def Obligations.SupplyEventsAct : Prop :=
  ∀ (t mv : Nat) (s : State),
    (s.power.lodge = true → ∃ u, exec (.inputVoltageExcursion t mv) s = .next u ∧ u.nat Ob.inputVoltage = min mv 40000 ∧
      u.power = { s.power with outside := decide (mv < 18000 ∨ 32000 < mv) } ∧
      ((mv < 18000 ∨ 32000 < mv) → s.power.outside = false → Logged 0x0D03 noUnit s u) ∧
      (18000 ≤ mv ∧ mv ≤ 32000 ∨ s.power.outside = true → u.health = s.health) ∧
      Objects (Ob.inputVoltage :: logKeys) s u ∧ Only [.time, .objects, .health, .power] s u) ∧
    (s.power.lodge = true → s.power.rails = true → mv < 15000 → ∃ u, exec (.inputBelowHoldUp t mv) s = .next u ∧ u.dev = 7 ∧
      u.dieUp = false ∧ u.power.rails = false ∧ u.power.holdUp = true ∧ u.mem = [] ∧ u.num Ob.transitionPending = 0 ∧
      Logged 0x0D04 noUnit s u ∧ Only [.time, .memory, .objects, .domains, .held, .health, .control, .power, .discipline, .gate, .kerb, .inputs,
        .market, .queues, .square, .calibration, .link, .loader, .recovery] s u) ∧
    (s.power.holdUp = true → 17000 ≤ mv → ∃ u, exec (.inputRestored t mv) s = .next u ∧ u.power.holdUp = false ∧
      u.nat Ob.inputVoltage = min mv 40000 ∧
      (s.sec.passes s.sec.primary = true → u.dev = 1 ∧ u.power.rails = true ∧ u.sec.running = .primary ∧ u.nat Ob.secureBootState = 0) ∧
      (s.sec.passes s.sec.primary = false → s.sec.passes s.sec.fallback = true →
        u.dev = 1 ∧ u.power.rails = true ∧ u.sec.running = .fallback ∧ u.nat Ob.secureBootState = 1 ∧ Logged 0x0C01 noUnit s u) ∧
      (s.sec.passes s.sec.primary = false → s.sec.passes s.sec.fallback = false →
        u.dev = 7 ∧ u.power.rails = false ∧ u.sec.running = .none ∧ Logged 0x0C01 noUnit s u)) ∧
    (∃ u, exec (.inputBelowLodgeSupply t) s = .next u ∧ u.power = Power.init ∧ u.dev = 7 ∧ u.dieUp = false ∧ u.mem = [] ∧
      ∀ k, u.outputLevel k = none) ∧
    (s.power.rails = true → ∃ u, exec (.regulatorOutOfRegulation t) s = .next u ∧ u.dev = 7 ∧ u.power.rails = false ∧
      (u.power.regHeld = true ↔ ∃ r ∈ s.power.regFails, max s.time t < r + 1000000000) ∧ Logged 0x0D08 noUnit s u) ∧
    (s.power.lodge = true → ∀ tap : Fin 5, ∃ u, exec (.supplyTapOvercurrent t tap) s = .next u ∧
      u.power = { s.power with tapsOff := s.power.tapsOff.set tap u.time } ∧ Only [.time, .power] s u) ∧
    (s.power.lodge = true → ∃ u, exec (.lodgeSupervisorTimeout t) s = .next u ∧ u.power.lodge = false ∧ u.power.rails = false ∧
      u.recov.phase = .cycle ∧ u.recov.latch = true ∧ ∀ k, u.outputLevel k = none)

/-- When the input becomes valid on a module that is off, and when the rails return after a module power cycle, device time is 0, the Lodge is
supplied, the memory of the device is empty, both sessions are closed, no command that waits is lost, the flash slots, the flash ledgers and the
audit log's mirror stay, and a primary image that verifies runs with the rails on; an image that waits in the fallback slot becomes the primary
first. It states parts of R364, R365, R400. -/
def Obligations.PowerUpStartsTheModule : Prop :=
  ∀ (c : Instr) (s : State),
    (c = .inputPowerValid ∧ s.power.lodge = false ∧ s.recov.phase ≠ .cycle ∨ c = .modulePowerCycleEnd ∧ s.recov.phase = .cycle) →
    ∃ u, exec c s = .next u ∧ u.time = 0 ∧ u.power.lodge = true ∧ u.mem = [] ∧ u.pending = s.pending ∧
      u.roleOf .mailbox = 0 ∧ u.roleOf .canFd = 0 ∧ u.loader.slots = s.loader.slots ∧ u.recov.ledgers = s.recov.ledgers ∧
      u.sec.audit = s.flash.audit ∧ u.sec.fusedMin = s.sec.fusedMin ∧
      (s.sec.stored = false → s.sec.passes s.sec.primary = true → u.power.rails = true ∧ u.sec.running = .primary) ∧
      (s.sec.stored = true → s.sec.passes s.sec.fallback = true →
        u.power.rails = true ∧ u.sec.running = .primary ∧ u.sec.primary = s.sec.fallback ∧ u.sec.fallback = s.sec.primary)

/-- On a powered die a thermal tick shows both temperatures. At the throttle threshold or above the cap falls by 50 MHz, not below 550, and the
entry into throttling is counted and raises 0x0D01; within 5.0 °C below it the cap holds; below that it rises by 10 MHz, not above 1,350, and
throttling ends there. At 110 °C the rails are removed with fault 0x0D02, HALTED, and the shutdown is counted. It states parts of R377, R378. -/
def Obligations.TemperatureActs : Prop :=
  ∀ (t : Nat) (j p : Int) (s : State), s.power.rails = true →
    (∃ u, exec (.thermalCapTick t j p) s = .next u ∧ u.num Ob.junctionTemperature = max (-32768) (min 32767 j) ∧
      u.num Ob.plateTemperature = max (-32768) (min 32767 p) ∧
      (s.num Ob.throttleThreshold ≤ j → u.power = { s.power with cap := max 550 (s.power.cap - 50) } ∧
        (s.num Ob.throttleState ≠ 1 → u.num Ob.throttleState = 1 ∧ u.nat Ob.throttleEntries = (s.nat Ob.throttleEntries + 1) % 2 ^ 32 ∧
          Logged 0x0D01 noUnit s u) ∧
        (s.num Ob.throttleState = 1 → u.num Ob.throttleState = 1 ∧ u.health = s.health)) ∧
      (s.num Ob.throttleThreshold - 50 ≤ j → j < s.num Ob.throttleThreshold →
        u.power = s.power ∧ u.num Ob.throttleState = s.num Ob.throttleState ∧ u.health = s.health) ∧
      (j < s.num Ob.throttleThreshold - 50 → u.power = { s.power with cap := min 1350 (s.power.cap + 10) } ∧ u.health = s.health ∧
        u.num Ob.throttleState = if 1340 ≤ s.power.cap then 0 else s.num Ob.throttleState) ∧
      Objects ([Ob.junctionTemperature, Ob.plateTemperature, Ob.throttleState, Ob.throttleEntries] ++ logKeys) s u ∧
      Only [.time, .objects, .health, .power] s u) ∧
    (1100 ≤ j → ∃ u, exec (.thermalShutdown t j p) s = .next u ∧ u.dev = 7 ∧ u.dieUp = false ∧ u.power.rails = false ∧
      u.power.shutdownAt = some u.time ∧ u.mem = [] ∧ Logged 0x0D02 noUnit s u ∧
      u.nat Ob.thermalShutdowns = (s.nat Ob.thermalShutdowns + 1) % 2 ^ 32)

/-- The offset of a sample is the one measured against the DC system time (source 1), Neighbour Offset to the nanosecond (source 2), the distance
of device time from the nearest multiple of SYNC In Period (source 3). With the die up and the selected source there, a sample shows its offset. A
locked discipline stays locked with a trim within 50,000 ppb. Another acquires; where no step is allowed or the offset is at most 1 µs it counts
samples within 20 ns and locks with the sixteenth in a row; where a step is allowed, an offset above 1 ms, or above 1 µs at the first sample,
steps device time by it, is counted and raises 0x0D07. A lost source turns locked into holdover with 0x0D05 and leaves another state. Holdover
ends after Holdover Limit, free-running, with 0x0D06. A Time Source write shows the source and acquires, or frees the run with trim 0 where it
writes 0. The SYNC output rises where device time is congruent to SYNC Out Phase modulo a period above 0 with the die up, and falls at the end of
the pulse. A heartbeat is sent while Producer Heartbeat Time is not 0. It states parts of R371, R372, R374. -/
def Obligations.TimeDisciplineActs : Prop :=
  ∀ (t : Nat) (x : Int) (s : State),
    (s.nat Ob.timeSource = 1 → s.sampleOffset x = x) ∧
    (s.nat Ob.timeSource = 2 → (s.num (Ob.neighbourOffset (s.nat Ob.timeUpstreamPort)) - 1000 * s.sampleOffset x).natAbs ≤ 500) ∧
    (s.nat Ob.timeSource = 3 → 0 < s.nat Ob.syncInPeriod →
      ((s.time : Int) - s.sampleOffset x) % s.nat Ob.syncInPeriod = 0 ∧ 2 * (s.sampleOffset x).natAbs ≤ s.nat Ob.syncInPeriod) ∧
    (∀ off, s.dieUp = true → (s.advance t).sourceThere = true → (s.advance t).sampleOffset x = off →
      (s.nat Ob.timeSourceState = 2 → ∃ u, exec (.timeSourceSample t x) s = .next u ∧ u.time = max s.time t ∧
        u.num Ob.sourceOffset = max (-2147483648) (min 2147483647 off) ∧ u.nat Ob.timeSourceState = 2 ∧ -50000 ≤ u.disc.trim ∧ u.disc.trim ≤ 50000 ∧
        Objects [Ob.sourceOffset] s u ∧ Only [.time, .objects, .discipline] s u) ∧
      (s.nat Ob.timeSourceState ≠ 2 → s.stepAllowed = false ∨ off.natAbs ≤ 1000 → ∃ u, exec (.timeSourceSample t x) s = .next u ∧
        u.num Ob.sourceOffset = max (-2147483648) (min 2147483647 off) ∧
        u.disc.inRow = (if off.natAbs ≤ 20 then s.disc.inRow + 1 else 0) ∧ u.nat Ob.timeSourceState = (if 16 ≤ u.disc.inRow then 2 else 1) ∧
        Objects [Ob.sourceOffset, Ob.timeSourceState] s u ∧ Only [.time, .objects, .discipline] s u) ∧
      (s.nat Ob.timeSourceState ≠ 2 → s.stepAllowed = true →
        1000000 < off.natAbs ∨ 1000 < off.natAbs ∧ (s.nat Ob.timeSourceState ≠ 1 ∨ s.disc.stepped = false) →
        ∃ u, exec (.timeSourceSample t x) s = .next u ∧ u.num Ob.sourceOffset = max (-2147483648) (min 2147483647 off) ∧
          u.time = ((max s.time t : Nat) - off).toNat ∧ u.nat Ob.timeSteps = (s.nat Ob.timeSteps + 1) % 2 ^ 32 ∧ u.disc.inRow = 0 ∧
          u.nat Ob.timeSourceState = 1 ∧ Logged 0x0D07 noUnit s u)) ∧
    (s.nat Ob.timeSourceState = 2 → ∃ u, exec (.timeSourceLost t) s = .next u ∧ u.nat Ob.timeSourceState = 3 ∧
      u.disc = { s.disc with holdoverAt := some u.time, inRow := 0 } ∧ Logged 0x0D05 noUnit s u ∧
      Objects (Ob.timeSourceState :: logKeys) s u ∧ Only [.time, .objects, .health, .discipline] s u) ∧
    (s.nat Ob.timeSourceState ≠ 2 → exec (.timeSourceLost t) s = .next (s.advance t)) ∧
    (∀ a, s.disc.holdoverAt = some a → s.nat Ob.timeSourceState = 3 → a + s.nat Ob.holdoverLimit * 1000000 ≤ max s.time t →
      ∃ u, exec (.holdoverLimitExpiry t) s = .next u ∧ u.nat Ob.timeSourceState = 0 ∧ u.disc = { s.disc with holdoverAt := none } ∧
        Logged 0x0D06 noUnit s u ∧ Objects (Ob.timeSourceState :: logKeys) s u ∧ Only [.time, .objects, .health, .discipline] s u) ∧
    (∀ m v, Accepted (.timeSourceWrite t m v) s →
      ∃ u, exec (.timeSourceWrite t m v) s = .next u ∧ u.num Ob.timeSource = (v % 256 : Nat) ∧
        u.num Ob.timeSourceState = (if v % 256 = 0 then 0 else 1) ∧ u.disc.inRow = 0 ∧ (v % 256 = 0 → u.disc.trim = 0)) ∧
    (s.dieUp = true → 0 < s.nat Ob.syncOutPeriod → max s.time t % s.nat Ob.syncOutPeriod = s.nat Ob.syncOutPhase % s.nat Ob.syncOutPeriod →
      ∃ u, exec (.syncOutEdge t) s = .next u ∧ u.disc = { s.disc with
        syncHigh := true, syncUntil := 2 * u.time + min (s.nat Ob.syncOutPeriod) 20000 } ∧ Only [.time, .discipline] s u) ∧
    (s.disc.syncUntil ≤ 2 * max s.time t → ∃ u, exec (.syncOutPulseEnd t) s = .next u ∧ u.disc = { s.disc with syncHigh := false } ∧
      Only [.time, .discipline] s u) ∧
    (s.power.lodge = true → s.nat Ob.producerHeartbeatTime ≠ 0 → ∃ u, exec (.producerHeartbeat t) s = .next u ∧
      u.ctrl = { s.ctrl with heartbeats := s.ctrl.heartbeats + 1 } ∧ Only [.time, .control] s u)

/-- The end of bring-up on a powered die in BOOT shows STANDBY with the die up and takes up the listed contexts of Autoload; after RESTART it
shows STANDBY with no transition pending; in a recovery it shows the die up with stage 5. AUTOLOAD, in STANDBY, READY or RUN with no load in
progress, begins the load of the next listed context where its slot holds a verified package and the context may take it, passes over one that may
not, and rejects one whose slot is empty or being written with 0x0E0D. With the list done and a context to start it issues GO_READY in STANDBY,
and in READY or RUN it starts those to be started that are LOADED, and no others. A slot boundary with the die down moves device time to the next
multiple of 1,000 ns and switches taps on again that have been off for 1 s. It states parts of R327, R365, R366, R389, R391. -/
def Obligations.DieStartsUp : Prop :=
  ∀ (t : Nat) (s : State),
    (s.dev = 1 → s.power.rails = true → s.dieUp = false → ∃ u, exec (.dieBringupDone t) s = .next u ∧ u.dev = 2 ∧ u.dieUp = true ∧
      ∀ n, n ∈ u.loader.autoload ↔ n < 8 ∧ u.domNat Ob.autoload (2 * n) 2 % 256 < 8) ∧
    (s.dev ≠ 1 → s.recov.phase = .retraining → s.recov.restart = true →
      ∃ u, exec (.dieBringupDone t) s = .next u ∧ u.dev = 2 ∧ u.dieUp = true ∧ u.num Ob.transitionPending = 0 ∧ u.recov.phase = .none ∧
        u.ctrl.transition = none) ∧
    (s.dev ≠ 1 → s.recov.phase = .retraining → s.recov.restart = false →
      ∃ u, exec (.dieBringupDone t) s = .next u ∧ u.dieUp = true ∧ u.num Ob.recoveryStage = 5 ∧
        u.recov.phase = if s.recov.suspects = [] then .returning else .replaying) ∧
    (∀ n rest slot, s.evaluating = true → s.loader.load = none → s.loader.autoload = n :: rest → s.domNat Ob.autoload (2 * n) 1 = slot →
      (slot < 8 → s.loadAllowed slot n = true → s.nat (Ob.slotState slot) = 1 → ∃ u, exec (.autoload t) s = .next u ∧
        u.loader = { s.loader with autoload := rest, asked := (0, 0), load := some (slot, n) } ∧ u.num Ob.loadProgress = 0 ∧
        Objects [Ob.loadProgress] s u ∧ Only [.time, .objects, .loader] s u) ∧
      (8 ≤ slot ∨ s.loadAllowed slot n = false → ∃ u, exec (.autoload t) s = .next u ∧
        u.loader = { s.loader with autoload := rest, asked := (0, 0) } ∧ Only [.time, .loader] s u) ∧
      (slot < 8 → s.loadAllowed slot n = true → s.nat (Ob.slotState slot) = 0 ∨ s.nat (Ob.slotState slot) = 3 →
        ∃ u, exec (.autoload t) s = .next u ∧ u.loader = { s.loader with autoload := rest, asked := (0, 0) } ∧
          u.num Ob.packageStatus = 0x0E0D ∧ Logged 0x0E0D n s u ∧ Objects (Ob.packageStatus :: logKeys) s u ∧
          Only [.time, .objects, .domains, .health, .loader] s u)) ∧
    (s.dev = 2 → s.loader.load = none → s.loader.autoload = [] → s.loader.readyDue = true → s.deviceAllowed 1 = true →
      ∃ u, exec (.autoload t) s = .next u ∧ u.num Ob.transitionPending = 1 ∧ u.ctrl.transition = some ⟨1, 2, false⟩ ∧
        u.loader.readyDue = false ∧ Objects [Ob.transitionPending] s u ∧ Only [.time, .objects, .control, .loader] s u) ∧
    (s.dev = 3 ∨ s.dev = 4 → s.loader.load = none → s.loader.autoload = [] → (∀ n ∈ s.loader.starts, n < 8) →
      ∃ u, exec (.autoload t) s = .next u ∧ u.loader.starts = [] ∧ u.dev = s.dev ∧
        ∀ n, n < 8 → u.ctxState n = if n ∈ s.loader.starts ∧ s.ctxState n = 1 then 2 else s.ctxState n) ∧
    (s.dieUp = false → ∃ u, exec .slotBoundary s = .next u ∧ s.time < u.time ∧ u.time ≤ s.time + 1000 ∧ u.time % 1000 = 0 ∧
      u.lastBoundary = u.time ∧
      u.power = { s.power with tapsOff := s.power.tapsOff.filter (fun x => decide (u.time < x.2 + 1000000000)) } ∧
      Only [.time, .boundary, .power] s u)

/-- A valid EtherCAT frame sets the instant of the main side's last frame, in OP it ends a field loss and leaves its RxPDO for the next SYNC0; a
valid CAN FD frame sets the side-band's instant. When OP has been left, or the main side has been silent for 100 ms, a field loss is latched, and
while the main side holds the claim and the action's row of Table 13-1 lets it, the Field Loss Action issues GO_READY or HALT. It states parts of R332,
R333, R337. -/
def Obligations.FramesAndFieldLoss : Prop :=
  ∀ (t : Nat) (s : State),
    (∀ rx, s.power.lodge = true → ∃ u, exec (.ethercatFrame t rx) s = .next u ∧ u.ctrl.ecatLast = some u.time ∧
      (s.nat Ob.ethercatState = 8 → u.ctrl.fieldLost = false ∧ u.ctrl.rxFrame = some rx) ∧
      (s.nat Ob.ethercatState ≠ 8 → u.ctrl.fieldLost = s.ctrl.fieldLost ∧ u.ctrl.rxFrame = s.ctrl.rxFrame) ∧ Only [.time, .control] s u) ∧
    (s.power.lodge = true → ∃ u, exec (.canFdFrame t) s = .next u ∧ u.ctrl = { s.ctrl with canLast := some u.time } ∧
      Only [.time, .control] s u) ∧
    (s.ctrl.fieldLost = false → (s.ctrl.leftOp = true ∧ s.nat Ob.ethercatState ≠ 8 ∨ 100 ≤ (s.advance t).silence) →
      (s.nat Ob.claimHolder ≠ 1 ∨ s.nat Ob.fieldLossAction = 0 → ∃ u, exec (.fieldLoss t) s = .next u ∧
        u.ctrl = { s.ctrl with fieldLost := true } ∧ Only [.time, .control] s u) ∧
      (s.nat Ob.claimHolder = 1 → s.nat Ob.fieldLossAction = 1 → s.deviceAllowed 1 = true → ∃ u, exec (.fieldLoss t) s = .next u ∧
        u.ctrl = { s.ctrl with fieldLost := true, transition := some ⟨1, s.dev, false⟩ } ∧ u.num Ob.transitionPending = 1 ∧
        Only [.time, .objects, .control] s u) ∧
      (s.nat Ob.claimHolder = 1 → s.nat Ob.fieldLossAction = 2 → s.deviceAllowed 4 = true → ∃ u, exec (.fieldLoss t) s = .next u ∧
        u.ctrl = { s.ctrl with fieldLost := true, transition := some ⟨4, s.dev, true⟩ } ∧ u.num Ob.transitionPending = 1 ∧
        ∀ n, n < 8 → u.ctxState n = if s.ctxState n = 2 then 3 else s.ctxState n))

/-! ## The Gate and the Kerb path -/

/-- On an enabled port that is not fenced: a header with an uncorrectable ECC or an unsupported feature is counted and raises 0x0101; one with
another virtual channel, or a long packet with another data type, is counted; any other long packet opens a packet of its arrival, which holds the
timing the port had, and starts a waiting port's streaming. A frame start or frame end puts a record of 16 bytes with its arrival into the replay
ring; a line start or line end is discarded and stays out of it. A corrected ECC is counted. It states parts of R32, R33, R54. -/
def Obligations.PacketHeadersOpenPackets : Prop :=
  ∀ (t : Nat) (p : Fin 4) (h : PacketHeader) (s : State), s.nat (Ob.portState p) ≠ 0 → s.fenced = false →
    (h.ecc = .uncorrectable ∨ h.supported = false → ∃ u, exec (.csi2PacketHeader t p h) s = .next u ∧
      u.nat (Ob.portCounter p 3) = (s.nat (Ob.portCounter p 3) + 1) % 2 ^ 64 ∧ Logged 0x0101 p s u ∧
      Objects (Ob.portCounter p 3 :: logKeys) s u ∧ Only [.time, .objects, .health] s u) ∧
    (h.ecc ≠ .uncorrectable → h.supported = true →
      h.vc.toNat ≠ s.nat (Ob.virtualChannel p) ∨
        h.kind = .long ∧ h.dataType.toNat ≠ (if s.nat (Ob.wordFormat p) < 3 then s.nat (Ob.dataType p) else 0x2A + (s.nat (Ob.wordFormat p) - 3)) →
      ∃ u, exec (.csi2PacketHeader t p h) s = .next u ∧
        u.nat (Ob.portCounter p 10) = (s.nat (Ob.portCounter p 10) + 1) % 2 ^ 64 ∧
        u.nat (Ob.portCounter p 2) = (if h.ecc = .corrected then (s.nat (Ob.portCounter p 2) + 1) % 2 ^ 64 else s.nat (Ob.portCounter p 2)) ∧
        Objects [Ob.portCounter p 10, Ob.portCounter p 2] s u ∧ Only [.time, .objects] s u) ∧
    (h.ecc ≠ .uncorrectable → h.supported = true → h.vc.toNat = s.nat (Ob.virtualChannel p) →
      (h.kind = .long →
        h.dataType.toNat = (if s.nat (Ob.wordFormat p) < 3 then s.nat (Ob.dataType p) else 0x2A + (s.nat (Ob.wordFormat p) - 3)) →
        ∃ u, exec (.csi2PacketHeader t p h) s = .next u ∧
          (u.port p).packet = some (Packet.opened h.vc.toNat h.dataType.toNat h.arrival (decide (3 ≤ s.nat (Ob.wordFormat p))) (s.port p).timing) ∧
          u.nat (Ob.portState p) = (if s.nat (Ob.portState p) = 1 then 2 else s.nat (Ob.portState p)) ∧
          u.nat (Ob.portCounter p 2) = (if h.ecc = .corrected then (s.nat (Ob.portCounter p 2) + 1) % 2 ^ 64 else s.nat (Ob.portCounter p 2)) ∧
          Objects [Ob.portCounter p 2, Ob.portState p] s u ∧ Only [.time, .objects, .gate, .kerb] s u) ∧
      (h.kind = .frameStart ∨ h.kind = .frameEnd → ∃ u r, exec (.csi2PacketHeader t p h) s = .next u ∧
        (u.port p).ring.getLast? = some r ∧ r.stamp = h.arrival ∧ r.len = 16 ∧ (u.port p).ringNext = (s.port p).ringNext + 1 ∧
        Only [.time, .memory, .objects, .health, .gate, .recovery] s u) ∧
      (h.kind = .lineStart ∨ h.kind = .lineEnd → ∃ u, exec (.csi2PacketHeader t p h) s = .next u ∧
        Objects [Ob.portCounter p 2] s u ∧ Only [.time, .objects] s u))

/-- A word of an open event packet is kept in the packet's payload and sets the port's running time; a word discarded by decoding is counted and
raises 0x0107 for the first of its packet; an event or a trigger word is counted as received. A word that a parity error takes is neither decoded
nor kept: it is one parity drop for the next GAP, with 0x0106. A frame start on a port of a frame format keeps the frame's arrival, and a line of
an open frame packet joins its payload and its items. It states parts of R33, R35, R36, R37, R55, R60. -/
def Obligations.WordsJoinTheirPacket : Prop :=
  ∀ (t : Nat) (p : Fin 4) (w : BitVec 64) (s : State) (pk : Packet), (s.port p).packet = some pk →
    (pk.frame = false → ∀ d, s.decodeWord p (s.port p).running pk.timeSet w.toNat = d →
      (∃ u, exec (.eventWord t p ⟨w, false⟩) s = .next u ∧
        (u.port p).packet.map (·.payload) = some (pk.payload ++ leBytes (s.wordBits p / 8) w.toNat) ∧
        (u.port p).running = d.running ∧
        (d.what = .discard → u.nat (Ob.portCounter p 11) = (s.nat (Ob.portCounter p 11) + 1) % 2 ^ 64 ∧
          (pk.noted = false → Logged 0x0107 p s u) ∧ (pk.noted = true → u.health = s.health)) ∧
        (d.what = .none_ → Objects [] s u ∧ u.health = s.health) ∧
        (∀ x y pol, d.what = .event x y pol → u.nat (Ob.portCounter p 0) = (s.nat (Ob.portCounter p 0) + 1) % 2 ^ 64) ∧
        (∀ n l, d.what = .trigger n l → u.nat (Ob.portCounter p 0) = (s.nat (Ob.portCounter p 0) + 1) % 2 ^ 64) ∧
        Only [.time, .objects, .health, .gate, .kerb, .recovery] s u)) ∧
    (∃ u, exec (.eventWord t p ⟨w, true⟩) s = .next u ∧ (u.port p).packet = some pk ∧ (u.port p).gap = (s.port p).gap + 1 ∧
      u.nat (Ob.portCounter p 13) = (s.nat (Ob.portCounter p 13) + 1) % 2 ^ 64 ∧ Logged 0x0106 p s u ∧
      Objects (Ob.portCounter p 13 :: logKeys) s u ∧ Only [.time, .objects, .health, .gate] s u) ∧
    (pk.frame = true → ∀ px, ∃ u, exec (.framePacket t p (.line px)) s = .next u ∧
      (u.port p).packet = some { pk with payload := pk.payload ++ px,
                                         items := pk.items ++ [.line (lineWords pk.arrival (s.port p).frameStart px)] } ∧
      Only [.time, .gate] s u) ∧
    (2 ≤ s.nat (Ob.portState p) → 3 ≤ s.nat (Ob.wordFormat p) → ∃ u, exec (.framePacket t p .start) s = .next u ∧
      (u.port p).frameStart = u.time ∧ (u.port p).packet = some pk ∧ Only [.time, .gate] s u)

/-- The CRC check closes the open packet of its port. One that passes keeps the packet's arrival as the last committed one and raises the
watermark of the port's stream; a packet that holds one event, on a port with room, no drops to report and the event's epoch in force, puts that
event's word behind its queue. One that fails is counted, leaves the queue as it was, gives the port the timing it had before the packet, and
takes the anchor that the packet set with it. It states parts of R35, R41, R53, R59. -/
def Obligations.CrcCheckClosesThePacket : Prop :=
  ∀ (t : Nat) (p : Fin 4) (s : State) (pk : Packet), (s.port p).packet = some pk →
    (∀ bad, ∃ u, exec (.payloadCrcCheck t p ⟨true, bad⟩) s = .next u ∧ (u.port p).packet = none ∧
      (u.port p).committedArrival = some pk.arrival ∧
      u.square.marks.get 0 (22 + p) = max (pk.arrival - 2000) (s.square.marks.get 0 (22 + p)) ∧
      (∀ w st, pk.items = [.event w st .none] → bad = [] → (s.port p).backlog = [] → (s.port p).queue.length < 4088 → (s.port p).gap = 0 →
        (s.port p).lastEpoch = some (st / 2 ^ 37) → (u.port p).queue = (s.port p).queue ++ [⟨0, w, (s.port p).ringNext, st⟩])) ∧
    (∀ bad, ∃ u, exec (.payloadCrcCheck t p ⟨false, bad⟩) s = .next u ∧ (u.port p).packet = none ∧
      (u.port p).committedArrival = (s.port p).committedArrival ∧ (u.port p).timing = pk.before ∧ (u.port p).queue = (s.port p).queue ∧
      u.nat (Ob.portCounter p 1) = (s.nat (Ob.portCounter p 1) + 1) % 2 ^ 64 ∧ (pk.anchored = true → (u.port p).anchor = none) ∧
      (pk.anchored = false → (u.port p).anchor = (s.port p).anchor))

/-- The end of a rate trim window moves a tracked trim by 25 ppb for each nanosecond of change of the minimum residual, within 200,000, from the
next slot boundary on. The end of a hot-pixel window starts an empty table and shows the length of the list. The cold flag clears when Cold Time
has passed since START. A dirty surface line goes to memory and leaves the cache. The governor keeps the keep fraction of an unpinned enabled port
between floor and ceiling, and a pinned one at its pin. It states parts of R42, R46, R51, R52, R56. -/
def Obligations.PortWindowsAndGovernor : Prop :=
  ∀ (t : Nat) (p : Fin 4) (s : State),
    (∀ m prev, (s.port p).rMin = some m → (s.port p).rPrev = some prev → s.num (Ob.rateTracking p) = 1 →
      ∃ u, exec (.rateTrimWindowEnd t p) s = .next u ∧
        u.num (Ob.rateTrim p) = max (-200000) (min 200000 (s.num (Ob.rateTrim p) + 25 * (m - prev))) ∧
        u.forceNum (Ob.rateTrim p) = s.forceNum (Ob.rateTrim p) ∧ (u.port p).rMin = none ∧ (u.port p).rPrev = some m ∧
        Objects [Ob.rateTrim p] s u ∧ Only [.time, .objects, .held, .gate] s u) ∧
    (s.nat (Ob.portState p) ≠ 0 → (s.port p).hotFrom + 1000000 * (s.port p).hotWindow ≤ (s.advance t).time →
      ∃ u, exec (.hotWindowEnd t p) s = .next u ∧ (u.port p).hot = [] ∧
      u.nat (Ob.hotPixelCount p) = (u.port p).hotList.length ∧ (u.port p).hotWindow = s.nat (Ob.hotWindow p) ∧
      Objects (Ob.hotPixelCount p :: logKeys) s u ∧ Only [.time, .objects, .health, .gate] s u) ∧
    ((s.port p).coldRunning = true → (s.port p).coldUntil ≤ (s.advance t).time →
      ∃ u, exec (.coldTimeExpiry t p) s = .next u ∧
      u.num (Ob.coldFlag p) = 0 ∧ (u.port p).anchor = (s.port p).anchor ∧ Objects [Ob.coldFlag p] s u ∧ Only [.time, .objects, .gate] s u) ∧
    (∀ line, ∃ u, exec (.surfaceLineWriteback t line) s = .next u ∧ (∀ e ∈ u.gate.cache, e.1 / 64 ≠ line) ∧
      (∀ a v, s.gate.cache = [(a, v)] → a / 64 = line → u.mem = Memory.writeBytes s.mem a (leBytes 4 v)) ∧
      (Memory.wf s.mem = true → ∀ x, (∀ e ∈ s.gate.cache, e.1 / 64 = line → x < e.1 ∨ e.1 + 4 ≤ x) → Memory.read u.mem x = Memory.read s.mem x) ∧
      Only [.time, .memory, .gate] s u) ∧
    (∃ u, exec (.governorTick t) s = .next u ∧
      (s.nat (Ob.portState p) ≠ 0 → s.num (Ob.governorPin p) = 1 → u.nat (Ob.keepFraction p) = s.nat (Ob.pinnedKeepFraction p)) ∧
      (s.nat (Ob.portState p) ≠ 0 → s.num (Ob.governorPin p) ≠ 1 → s.nat (Ob.keepFloor p) ≤ s.nat (Ob.keepCeiling p) →
        s.nat (Ob.keepFloor p) ≤ u.nat (Ob.keepFraction p) ∧ u.nat (Ob.keepFraction p) ≤ s.nat (Ob.keepCeiling p)) ∧
      (s.nat (Ob.portState p) = 0 → u.nat (Ob.keepFraction p) = s.nat (Ob.keepFraction p)) ∧ Only [.time, .objects, .health] s u)

/-- When a port has its turn, a flit takes up to four words from the front of its queue, refilled from its backlog, and the turn passes on; every
tile addressed gets one ring entry for each flit that goes to it. It does so only when every tile addressed has a credit for each of these, else
nothing changes but device time. A surface patch of an enabled port with a surface goes to the tiles of its subscriptions under the same rule of
credits. A parity error takes the front word, counts it, raises 0x0106 and reports it in a GAP marker of the words that follow or of the next
event; no other event word is lost. It states parts of R52, R60, R97, R98. -/
def Obligations.DeliveryTakesWords : Prop :=
  ∀ (t : Nat) (s : State),
    (∀ (p : Nat) (flits : List (Nat × List Nat × List LaneWord)), s.deliveryPort = some p →
      (s.advance t).flitsOf p ((s.port p).queue.take 4) = flits →
      ((∀ f ∈ flits, ∀ x ∈ f.2.1, (s.tile x).ringHeld + (flits.filter (fun g => g.2.1.contains x)).length ≤ (s.tile x).ringSize) →
        ∃ u, exec (.gateDeliveryFlit t (.queue false)) s = .next u ∧ u.gate.rr = (p + 1) % 4 ∧
          (u.port p).queue = (refill { s.port p with queue := (s.port p).queue.drop 4 }).queue ∧
          (u.port p).backlog = (refill { s.port p with queue := (s.port p).queue.drop 4 }).backlog ∧
          (∀ x : Nat, (u.tile x).ringHeld = (s.tile x).ringHeld + (flits.flatMap (fun f => f.2.1)).count x) ∧
          Only [.time, .memory, .objects, .gate, .market, .recovery] s u) ∧
      ((∃ f ∈ flits, ∃ x ∈ f.2.1, (s.tile x).ringSize < (s.tile x).ringHeld + (flits.filter (fun g => g.2.1.contains x)).length) →
        exec (.gateDeliveryFlit t (.queue false)) s = .next (s.advance t)) ∧
      (∃ u, exec (.gateDeliveryFlit t (.queue true)) s = .next u ∧ u.nat (Ob.portCounter p 13) = (s.nat (Ob.portCounter p 13) + 1) % 2 ^ 64 ∧
        (∀ x ∈ (u.port p).queue ++ (u.port p).backlog, x.kind = 0 → x ∈ (s.port p).queue.drop 1 ++ (s.port p).backlog) ∧
        (∀ x ∈ (s.port p).queue.drop 1 ++ (s.port p).backlog, x.kind = 0 → x ∈ (u.port p).queue ++ (u.port p).backlog) ∧
        (∀ w, (s.port p).queue = [w] → (s.port p).backlog = [] → (u.port p).queue = [] ∧ (u.port p).gap = (s.port p).gap + 1) ∧
        Logged 0x0106 p s u ∧ Objects (Ob.portCounter p 13 :: logKeys) s u ∧ Only [.time, .objects, .health, .gate] s u)) ∧
    (∀ (r : Patch) (ws : List LaneWord) (flits : List (Nat × List Nat × List LaneWord)), (s.advance t).patchWords r = ws →
      (inFlits ws.length ws).flatMap (fun f => (s.advance t).flitsOf r.port f) = flits → flits ≠ [] →
      s.nat (Ob.portState r.port) ≠ 0 → s.nat (Ob.surfaceFormat r.port) ≠ 2 →
      (∀ f ∈ flits, ∀ x ∈ f.2.1, (s.tile x).ringHeld + (flits.filter (fun g => g.2.1.contains x)).length ≤ (s.tile x).ringSize) →
      ∃ u, exec (.gateDeliveryFlit t (.patch r)) s = .next u ∧
        (∀ x : Nat, (u.tile x).ringHeld = (s.tile x).ringHeld + (flits.flatMap (fun f => f.2.1)).count x) ∧
        Only [.time, .memory, .market, .recovery] s u)

/-- An accepted Port Enable of 1 on a disabled port starts it in WAIT_SYNC with the items its queue still holds, keep fraction 256, rate trim 0
and the cold flag; of 0 it disables the port with its anchor and packet gone. CLEAR_LOST shows STREAMING and RE_ANCHOR drops the anchor. An
accepted I3C transfer joins the port's queue of transfers. It states parts of R33, R43, R57. -/
def Obligations.PortCommandsAct : Prop :=
  ∀ (t : Nat) (m : Master) (p : Fin 4) (s : State),
    (Accepted (.portEnable t m p 1) s → s.num (Ob.portEnable p) ≠ 1 → ∃ u, exec (.portEnable t m p 1) s = .next u ∧
      u.num (Ob.portEnable p) = 1 ∧ u.num (Ob.portState p) = 1 ∧ u.num (Ob.keepFraction p) = 256 ∧ u.num (Ob.rateTrim p) = 0 ∧
      u.forceNum (Ob.rateTrim p) = 0 ∧ u.num (Ob.coldFlag p) = 1 ∧ (u.port p).queue = (s.port p).queue ∧ (u.port p).anchor = none ∧
      (u.port p).packet = none ∧
      Objects [Ob.portEnable p, Ob.portState p, Ob.keepFraction p, Ob.rateTrim p, Ob.coldFlag p, Ob.hotPixelCount p] s u ∧
      Only ([.memory, .objects, .held, .gate] ++ bookParts) s u) ∧
    (Accepted (.portEnable t m p 0) s → ∃ u, exec (.portEnable t m p 0) s = .next u ∧ u.num (Ob.portEnable p) = 0 ∧
      u.num (Ob.portState p) = 0 ∧ (u.port p).packet = none ∧ (u.port p).anchor = none ∧ (u.prov p).held = [] ∧
      Objects [Ob.portEnable p, Ob.portState p] s u ∧ Only ([.objects, .gate, .kerb, .queues] ++ bookParts) s u) ∧
    (Accepted (.clearLost t m p) s → ∃ u, exec (.clearLost t m p) s = .next u ∧ u.num (Ob.portState p) = 2 ∧
      Objects [Ob.portState p] s u ∧ Only (.objects :: bookParts) s u) ∧
    (Accepted (.reAnchor t m p) s → ∃ u, exec (.reAnchor t m p) s = .next u ∧ (u.port p).anchor = none ∧ Objects [] s u ∧
      Only (.gate :: bookParts) s u) ∧
    (∀ data, Accepted (.i3cTransfer t m p data) s → ∃ u, exec (.i3cTransfer t m p data) s = .next u ∧
      (u.port p).i3c = (s.port p).i3c ++ [⟨false, data⟩] ∧ Objects [Ob.transferStatus p] s u ∧ Only ([.objects, .gate] ++ bookParts) s u)

/-- The transfer at the front of a port's queue ends with its result and the count of completed transfers; a host transfer's read data is held. An
in-band interrupt is recorded with its count, saturating at 65,535. An edge of an enabled trigger input that stands at least as long as its glitch
filter shows its level and is counted; a shorter one changes nothing but device time. It states parts of R34, R64, R356. -/
def Obligations.TransfersAndTriggers : Prop :=
  ∀ (t : Nat) (s : State),
    (∀ (p : Fin 4) (result : Fin 4) (data : List Byte) (tr : I3cTransfer) (rest : List I3cTransfer), (s.port p).i3c = tr :: rest →
      ∃ u, exec (.i3cTransferComplete t p result data) s = .next u ∧ (u.port p).i3c = rest ∧
        field (u.nat (Ob.transferStatus p)) 24 4 = result ∧ field (u.nat (Ob.transferStatus p)) 0 16 = (field (s.nat (Ob.transferStatus p)) 0 16 + 1) % 65536 ∧
        (tr.biasLoop = false → u.domBytes (Ob.transferReadData p) 0 32 = padTo 32 (data.take (leAt tr.bytes 2 1))) ∧
        (tr.biasLoop = true → (u.port p).hot = [] ∧ u.doms = s.doms) ∧
        Objects [Ob.transferStatus p] s u ∧ Only [.time, .objects, .domains, .gate] s u) ∧
    (∀ (p : Fin 4) (addr : BitVec 7) (payload : List Byte), ∃ u, exec (.inBandInterrupt t p addr payload) s = .next u ∧
      field (u.nat (Ob.inbandInterrupt p)) 56 7 = addr.toNat ∧ field (u.nat (Ob.inbandInterrupt p)) 53 3 = min 4 payload.length ∧
      field (u.nat (Ob.inbandInterrupt p)) 0 16 = min 65535 (field (s.nat (Ob.inbandInterrupt p)) 0 16 + 1) ∧
      Objects [Ob.inbandInterrupt p] s u ∧ Only [.time, .objects] s u) ∧
    (∀ (n : Fin 4) (level : Level), s.num (Ob.triggerEnable n) = 1 →
      (s.nat (Ob.triggerGlitchFilter n) ≤ level.stable → ∃ u, exec (.triggerInputEdge t n level) s = .next u ∧
        u.nat (Ob.triggerLevel n) = (if level.high then 1 else 0) ∧ u.nat (Ob.triggerEdges n) = (s.nat (Ob.triggerEdges n) + 1) % 2 ^ 64 ∧
        Only [.time, .memory, .objects, .health, .gate, .kerb, .inputs, .recovery] s u) ∧
      (level.stable < s.nat (Ob.triggerGlitchFilter n) → exec (.triggerInputEdge t n level) s = .next (s.advance t)))

/-- A decay tick takes from a counter in use its value shifted right by its shift. A quantiser output of an enabled channel shows the rounded mean
of the last four outputs, but holds while the channel's offset is measured. The end of a pulse whose width has passed clears it and starts the
rule's Inhibit when that is above 0; an Inhibit that has passed ends; before those times neither does. Rule Enable 0 leaves a rule inactive with
its pulse and latch as they were (log entry 19), Rule Enable 1 on a disabled rule shows 1. Latch Clear ends every latch aimed at its output. It states parts of R62, R63, R64, R65, R85, R86. -/
def Obligations.KerbPathActs : Prop :=
  ∀ (t : Nat) (s : State),
    (∀ c : Fin 60, s.evaluating = true → s.counterShift c ≠ 0 → ∃ u, exec (.kerbDecayTick t c) s = .next u ∧
      u.kerb.counters.get 0 c = s.kerb.counters.get 0 c - s.kerb.counters.get 0 c / 2 ^ s.counterShift c ∧
      (∀ d : Fin 60, d ≠ c → u.kerb.counters.get 0 d = s.kerb.counters.get 0 d) ∧ Only [.time, .objects, .health, .kerb] s u) ∧
    (∀ (n : Fin 8) (q : BitVec 3), s.num (Ob.channelEnable n) = 1 → s.evaluating = true → s.measuringOffset n = false → ∃ u, exec (.coarseCode t n q) s = .next u ∧
      u.nat (Ob.coarseCode n) = min 7 ((sumNat ((q.toNat :: (s.chan n).quant).take 4) + 2) / 4) ∧
      Objects ([Ob.coarseCode n, Ob.overwrittenCount] ++ logKeys) s u ∧ Only [.time, .objects, .health, .kerb, .inputs] s u) ∧
    (∀ (n : Fin 8) (q : BitVec 3), s.measuringOffset n = true → exec (.coarseCode t n q) s = .next (s.advance t)) ∧
    (∀ n : Fin 32, (s.rule n).pulse = true → (s.rule n).pulseEnd ≤ 4 * (s.advance t).time →
      ∃ u, exec (.kerbPulseEnd t (.rule n)) s = .next u ∧ (u.rule n).pulse = false ∧
      ((u.rule n).inhibit = true ↔ (s.rule n).inhibit = true ∨ 0 < s.nat (Ob.inhibit n)) ∧ (u.rule n).active = (s.rule n).active ∧
      (0 < s.nat (Ob.inhibit n) → (u.rule n).inhibitEnd = (s.rule n).pulseEnd + 5 * s.nat (Ob.inhibit n)) ∧
      Objects [] s u ∧ Only [.time, .kerb] s u) ∧
    (∀ (x : Fin 64) (k : Fin 8), ∃ u, exec (.kerbPulseEnd t (.tile x k)) s = .next u ∧
      (∀ q, q ∈ u.kerb.pulses ↔ q ∈ s.kerb.pulses ∧ (q.post = ⟨.tile x, k⟩ → (s.advance t).time < q.until_)) ∧
      Only [.time, .kerb] s u) ∧
    (∀ (a : BitVec 18) (k : Fin 8), ∃ u, exec (.kerbPulseEnd t (.remote a k)) s = .next u ∧
      (∀ q, q ∈ u.kerb.pulses ↔ q ∈ s.kerb.pulses ∧ (q.post = ⟨.remote a.toNat, k⟩ → (s.advance t).time < q.until_)) ∧
      Only [.time, .kerb] s u) ∧
    (∀ n : Fin 32, (s.rule n).inhibitEnd ≤ 4 * (s.advance t).time →
      ∃ u, exec (.kerbInhibitEnd t n) s = .next u ∧ u.rule n = { s.rule n with inhibit := false } ∧
      (∀ k : Fin 32, k ≠ n → u.rule k = s.rule k) ∧ Only [.time, .kerb] s u) ∧
    (∀ n : Fin 32, 4 * (s.advance t).time < (s.rule n).pulseEnd → exec (.kerbPulseEnd t (.rule n)) s = .next (s.advance t)) ∧
    (∀ n : Fin 32, 4 * (s.advance t).time < (s.rule n).inhibitEnd → exec (.kerbInhibitEnd t n) s = .next (s.advance t)) ∧
    (∀ (m : Master) (n : Fin 32), Accepted (.ruleEnable t m n 0) s → ∃ u, exec (.ruleEnable t m n 0) s = .next u ∧
      u.num (Ob.ruleEnable n) = 0 ∧ (u.rule n).active = false ∧ (u.rule n).pulse = (s.rule n).pulse ∧ (u.rule n).latch = (s.rule n).latch) ∧
    (∀ (m : Master) (n : Fin 32), Accepted (.ruleEnable t m n 1) s → ∃ u, exec (.ruleEnable t m n 1) s = .next u ∧
      u.num (Ob.ruleEnable n) = 1) ∧
    (∀ (m : Master) (k : Fin 8), Accepted (.latchClear t m k 1) s → ∃ u, exec (.latchClear t m k 1) s = .next u ∧
      (∀ n : Fin 32, s.nat (Ob.ruleOutput n) = k → (u.rule n).latch = false) ∧
      (∀ n : Fin 32, s.nat (Ob.ruleOutput n) ≠ k → u.rule n = s.rule n))

/-! ## Analog, inertial and encoder inputs -/

/-- A sample of a running channel in a period that measures no offset joins its entries and takes one from the settling count, and an overranged
one is counted; with no DC blocker and boxcars of length 1 its value is the decimating filter's output, saturated, less the offset correction. An
overload restarts the chain in SETTLING with the code held at 7 or 0, and is counted. Settling ends in RUNNING. A period that measures the offset
delivers the interpolated sample 2 y1 - y2, and the 256th moves the correction by at most 4. Other channels stay as they are. It states parts of R74,
R76, R78, R79, R85, R86, R269. -/
def Obligations.AnalogChannelsAct : Prop :=
  ∀ (t : Nat) (n : Fin 8) (s : State),
    (s.chanRuns n = true →
      (∀ (mods : List Int) (overrange : Bool), s.measuringOffset n = false → ∃ u, exec (.decimatedSample t n mods overrange) s = .next u ∧
        (u.chan n).entries.length = (s.chan n).entries.length + 1 ∧ (u.chan n).settleLeft = (s.chan n).settleLeft - 1 ∧
        (u.chan n).y2 = (s.chan n).y1 ∧
        u.nat (Ob.overrangeCount n) = (if overrange then (s.nat (Ob.overrangeCount n) + 1) % 2 ^ 32 else s.nat (Ob.overrangeCount n)) ∧
        (s.num (Ob.dcBlockerEnable n) ≠ 1 → (u.chan n).dc = (s.chan n).dc ∧
          ((∀ i : Fin 3, s.nat (Ob.boxcarLength n i) = 1) → (s.chan n).box.length = 3 →
            (u.chan n).y1 = sat24 (sat24 (s.decimate n (s.chan n) mods).2 - s.num (Ob.offsetCorrection n)))) ∧
        (∀ k : Fin 8, k ≠ n → u.chan k = s.chan k) ∧
        Objects [Ob.lastSample n, Ob.dcEstimate n, Ob.overrangeCount n] s u ∧ Only [.time, .objects, .inputs] s u) ∧
      (∀ positive : Bool, ∃ u, exec (.modulatorOverload t n positive) s = .next u ∧ u.num (Ob.channelState n) = 1 ∧
        (u.chan n).settleLeft = s.settlingCount n ∧ u.nat (Ob.coarseCode n) = (if positive then 7 else 0) ∧
        u.nat (Ob.modulatorResetCount n) = (s.nat (Ob.modulatorResetCount n) + 1) % 2 ^ 32 ∧
        (∀ k : Fin 8, k ≠ n → u.chan k = s.chan k) ∧ Only [.time, .objects, .health, .kerb, .inputs] s u) ∧
      (∀ measured : Int, s.measuringOffset n = true →
        ∃ u, exec (.offsetCalPeriod t n measured) s = .next u ∧
          (u.chan n).y1 = sat24 (2 * (s.chan n).y1 - (s.chan n).y2) ∧ (u.chan n).dc = (s.chan n).dc ∧
          ((s.chan n).measCount < 255 → (u.chan n).measCount = (s.chan n).measCount + 1 ∧
            u.num (Ob.offsetCorrection n) = s.num (Ob.offsetCorrection n)) ∧
          (255 ≤ (s.chan n).measCount → (u.chan n).measCount = 0 ∧
            ∀ c, s.num (Ob.offsetCorrection n) = c → -8388604 ≤ c → c ≤ 8388603 →
              c - 4 ≤ u.num (Ob.offsetCorrection n) ∧ u.num (Ob.offsetCorrection n) ≤ c + 4) ∧
          (∀ k : Fin 8, k ≠ n → u.chan k = s.chan k) ∧
          Objects [Ob.lastSample n, Ob.dcEstimate n, Ob.offsetCorrection n] s u ∧ Only [.time, .objects, .inputs] s u)) ∧
    (s.nat (Ob.channelState n) = 1 → (s.chan n).settleLeft = 0 → ∃ u, exec (.settlingDone t n) s = .next u ∧
      u.num (Ob.channelState n) = 2 ∧ Objects [Ob.channelState n] s u ∧ Only [.time, .objects] s u)

/-- On an enabled port of an evaluating device the cause that Read Trigger names, the timer at whole multiples of Sample Period only, starts a
read at its instant and ends SILENT; an edge during a read is counted as missed, a timer instant during one is not. The end of a read, no earlier
than the read time after its start, counts it and adds an entry stamped with the trigger instant less Sensor Latency, marked where an edge was
missed before the read began (log entry 48). After 16 sample periods without a DRDY edge a port shows SILENT, except under the timer. It states parts of R87, R89. -/
def Obligations.InertialPortsAct : Prop :=
  ∀ (t : Nat) (m : Fin 2) (s : State),
    (∀ cause : ReadCause, s.num (Ob.inertialEnable m) = 1 → s.evaluating = true → s.nat (Ob.readTrigger m) = cause.code →
      (cause = .timer → max s.time t % s.nat (Ob.samplePeriod m) = 0) →
      ((s.inert m).reading = none → ∃ u, exec (.inertialReadTrigger t ⟨m, cause⟩) s = .next u ∧ (u.inert m).reading = some u.time ∧
        (u.inert m).preceded = (s.inert m).missed ∧ (u.inert m).missed = false ∧ (u.inert m).silentAt = none ∧
        u.num (Ob.inertialState m) = 1 ∧ Objects [Ob.inertialState m] s u ∧ Only [.time, .objects, .inputs] s u) ∧
      (∀ a, (s.inert m).reading = some a → cause ≠ .timer → ∃ u, exec (.inertialReadTrigger t ⟨m, cause⟩) s = .next u ∧
        (u.inert m).reading = some a ∧
        (u.inert m).missed = true ∧ u.nat (Ob.missedCount m) = (s.nat (Ob.missedCount m) + 1) % 2 ^ 32 ∧
        Objects [Ob.inertialState m, Ob.missedCount m] s u ∧ Only [.time, .objects, .inputs] s u) ∧
      (∀ a, (s.inert m).reading = some a → cause = .timer → exec (.inertialReadTrigger t ⟨m, cause⟩) s = .next (s.advance t))) ∧
    (∀ (a : Nat) (data : List Byte), (s.inert m).reading = some a →
      (a + s.readTime m ≤ max s.time t → ∃ u, exec (.inertialReadComplete t m data) s = .next u ∧
        (u.inert m).reading = none ∧ (u.inert m).missed = (s.inert m).missed ∧
        (u.inert m).entries = (s.inert m).entries ++ [(u.time, inertialEntry (a - s.nat (Ob.sensorLatency m)) (s.inert m).preceded
          ((List.range 8).map (fun i => s.inertialField m i (data.take (s.domNat (Ob.readProgram m) 1 1)))))] ∧
        u.nat (Ob.readCount m) = (s.nat (Ob.readCount m) + 1) % 2 ^ 64 ∧ Objects [Ob.readCount m] s u ∧ Only [.time, .objects, .inputs] s u) ∧
      (max s.time t < a + s.readTime m → exec (.inertialReadComplete t m data) s = .next (s.advance t))) ∧
    (s.nat (Ob.inertialState m) = 1 → s.nat (Ob.readTrigger m) ≠ 2 → (s.inert m).lastDrdy + 16 * s.nat (Ob.samplePeriod m) ≤ max s.time t →
      ∃ u, exec (.drdySilence t m) s = .next u ∧
      u.num (Ob.inertialState m) = 2 ∧ (u.inert m).silentAt = some u.time ∧ Objects [Ob.inertialState m] s u ∧ Only [.time, .objects, .inputs] s u)

/-- Levels that stand shorter than Glitch Filter change nothing but device time. On a running encoder, levels that stand longer: in mode X4 or X2
a change of line A alone moves Position by one, modulo 2^32, and is kept as an edge; outside up/down mode a change of both lines leaves Position
and is counted as illegal; in up/down mode a rise of A moves Position up where B is high and down where it is low, reversed by Direction Invert.
An index edge latches Position, and in mode 2 loads the preset. A line fault of a running encoder is shown and counted with Position held, and its
end runs it again. Encoder Command waits for the slot boundary, where Position takes the preset. It states parts of R90, R91, R92. -/
def Obligations.EncodersAct : Prop :=
  ∀ (t : Nat) (e : Fin 4) (s : State),
    (∀ a b : Level, a.stable < s.nat (Ob.glitchFilter e) → b.stable < s.nat (Ob.glitchFilter e) → exec (.encoderEdge t e a b) s = .next (s.advance t)) ∧
    (∀ a b : Level, s.encRuns e = true → s.nat (Ob.glitchFilter e) ≤ a.stable → s.nat (Ob.glitchFilter e) ≤ b.stable →
      (s.nat (Ob.countMode e) ≠ 3 → (s.enc e).a ≠ a.high → (s.enc e).b ≠ b.high → ∃ u, exec (.encoderEdge t e a b) s = .next u ∧
        u.nat (Ob.position e) = unsigned 32 (s.num (Ob.position e)) ∧
        u.nat (Ob.illegalTransitionCount e) = (s.nat (Ob.illegalTransitionCount e) + 1) % 2 ^ 32 ∧ (u.enc e).a = a.high ∧ (u.enc e).b = b.high ∧
        Objects [Ob.position e, Ob.illegalTransitionCount e] s u ∧ Only [.time, .objects, .inputs] s u) ∧
      ((s.enc e).a ≠ a.high → (s.enc e).b = b.high → s.nat (Ob.countMode e) = 0 ∨ s.nat (Ob.countMode e) = 1 →
        ∃ u, exec (.encoderEdge t e a b) s = .next u ∧
          (u.nat (Ob.position e) = unsigned 32 (s.num (Ob.position e) + 1) ∨ u.nat (Ob.position e) = unsigned 32 (s.num (Ob.position e) - 1)) ∧
          (u.enc e).edges.length = (s.enc e).edges.length + 1 ∧ Objects [Ob.position e] s u ∧ Only [.time, .objects, .inputs] s u) ∧
      (s.nat (Ob.countMode e) = 3 → (s.enc e).a = false → a.high = true → ∃ u, exec (.encoderEdge t e a b) s = .next u ∧
        u.nat (Ob.position e) =
          unsigned 32 (s.num (Ob.position e) + (if b.high = s.on (Ob.directionInvert e) then -1 else 1)) ∧
        Objects [Ob.position e] s u ∧ Only [.time, .objects, .inputs] s u)) ∧
    (∀ stable, s.encRuns e = true → s.nat (Ob.indexMode e) ≠ 0 → s.nat (Ob.glitchFilter e) ≤ stable →
      ∃ u, exec (.indexEdge t ⟨e, stable⟩) s = .next u ∧ u.nat (Ob.indexLatch e) = s.nat (Ob.position e) ∧
      u.nat (Ob.position e) = (if s.nat (Ob.indexMode e) = 2 then s.nat (Ob.positionPreset e) else s.nat (Ob.position e)) ∧
      Objects [Ob.indexLatch e, Ob.position e] s u ∧ Only [.time, .objects, .inputs] s u) ∧
    (s.nat (Ob.encoderState e) = 1 → ∃ u, exec (.encoderLineFault t e) s = .next u ∧ u.num (Ob.encoderState e) = 2 ∧
      u.nat (Ob.lineFaultCount e) = (s.nat (Ob.lineFaultCount e) + 1) % 2 ^ 32 ∧ u.num (Ob.position e) = s.num (Ob.position e) ∧
      Objects [Ob.encoderState e, Ob.lineFaultCount e] s u ∧ Only [.time, .objects] s u) ∧
    (s.nat (Ob.encoderState e) = 2 → ∃ u, exec (.encoderLineRestore t e) s = .next u ∧ u.num (Ob.encoderState e) = 1 ∧
      (u.enc e).discontinuous = true ∧ Objects [Ob.encoderState e] s u ∧ Only [.time, .objects, .inputs] s u) ∧
    (∀ m, Accepted (.encoderCommand t m e 1) s → ∃ u, exec (.encoderCommand t m e 1) s = .next u ∧ (u.enc e).loadPending = true ∧
      Objects [] s u ∧ Only (.inputs :: bookParts) s u) ∧
    ((s.enc e).loadPending = true → s.encoderBoundary.nat (Ob.position e) = s.nat (Ob.positionPreset e) ∧
      (s.encoderBoundary.enc e).posStart = s.nat (Ob.position e) ∧ (s.encoderBoundary.enc e).loadPending = false)

/-- An accepted Channel Enable of 1 on a stopped channel starts it in SETTLING, of 0 on a running one stops it and holds its estimate. A Custom
FIR reads back as written. The block of an input's last slot is stored in the input's sample ring, at its place or from 64 on where it does not
fit. The block's completion puts its offset into the ring's head and raises the watermark of an encoder's stream to the end of the block's slot;
of an analog channel's samples those too late for the Arcade are counted. It states parts of R93, R94, R216. -/
def Obligations.ChannelEnablesAndBlocks : Prop :=
  ∀ (t : Nat) (m : Master) (s : State),
    (∀ n : Fin 8, Accepted (.channelEnable t m n 1) s → s.num (Ob.channelEnable n) ≠ 1 → ∃ u, exec (.channelEnable t m n 1) s = .next u ∧
      u.num (Ob.channelEnable n) = 1 ∧ u.num (Ob.channelState n) = 1 ∧ (u.chan n).settleLeft = s.settlingCount n ∧
      Objects [Ob.channelEnable n, Ob.channelState n, Ob.dcEstimate n] s u ∧ Only ([.objects, .inputs] ++ bookParts) s u) ∧
    (∀ n : Fin 8, Accepted (.channelEnable t m n 0) s → s.num (Ob.channelEnable n) = 1 → ∃ u, exec (.channelEnable t m n 0) s = .next u ∧
      u.num (Ob.channelEnable n) = 0 ∧ u.num (Ob.channelState n) = 0 ∧ (u.chan n).dcHeld = some (s.chan n).dc ∧
      Objects [Ob.channelEnable n, Ob.channelState n] s u ∧ Only ([.objects, .inputs] ++ bookParts) s u) ∧
    (∀ (n : Fin 8) (data : List Byte), Accepted (.customFirWrite t m n data) s → ∃ u, exec (.customFirWrite t m n data) s = .next u ∧
      u.domBytes (Ob.customFir n) 0 data.length = data ∧ Objects [] s u ∧ Only (.domains :: bookParts) s u) ∧
    (∀ (input : InputId) (b : Block), s.fenced = false → s.blockOf input (slotOf s.lastBoundary - 1) = some b →
      ∃ u, exec (.slotBlockWrite t input) s = .next u ∧
        u.ring (ringIndex input) = { s.ring (ringIndex input) with
          next := (if 0x40000 < (s.ring (ringIndex input)).next + (blockBytes (slotOf s.lastBoundary - 1) b).length then 64
            else (s.ring (ringIndex input)).next) + (blockBytes (slotOf s.lastBoundary - 1) b).length
          open_ := some (slotOf s.lastBoundary - 1, if 0x40000 < (s.ring (ringIndex input)).next +
            (blockBytes (slotOf s.lastBoundary - 1) b).length then 64 else (s.ring (ringIndex input)).next) } ∧
        (u.port (replayPortOf input)).ringNext = (s.port (replayPortOf input)).ringNext + 1 ∧
        Only [.time, .memory, .objects, .health, .gate, .inputs, .recovery] s u) ∧
    (∀ (input : InputId) (k off : Nat), (s.ring (ringIndex input)).open_ = some (k, off) →
      ∃ u, exec (.blockComplete t input) s = .next u ∧
        u.mem = Memory.writeBytes s.mem (s.nat (Ob.sampleRingBase (ringIndex input))) (leBytes 8 off) ∧
        (u.ring (ringIndex input)).newestSlot = some k ∧ (u.ring (ringIndex input)).newest = off ∧ (u.ring (ringIndex input)).open_ = none ∧
        (∀ e, input = .encoder e → u.square.marks.get 0 (18 + e) = max (1000 * (k + 1) - 1) (s.square.marks.get 0 (18 + e)) ∧
          Objects [] s u ∧ u.health = s.health) ∧
        Objects (Ob.lateDiscarded :: logKeys) s u ∧ Only [.time, .memory, .objects, .health, .inputs, .square] s u)

/-! ## The Market -/

/-- A tile of a RUNNING context that is neither asleep nor held by its transactions issues the bundle at its program counter, where its slot 7 has
no reason to hold and its generators have what it takes: program counter and loops become those of the bundle's branch, loop ends or next address,
one bundle is counted as retired, and where slot 0 stores nothing, ag2 accepts nothing and slot 7 has no neuron operation no byte of memory
changes. A bundle that has to wait is held, with Tile State 3, and changes nothing else. It states parts of R102, R103, R109, R113. -/
def Obligations.BundleIssues : Prop :=
  ∀ (t : Nat) (x : Fin 64) (s : State) (b : Bundle), s.tileRuns x = true → (s.tile x).asleep = false → (s.tile x).hold ≠ .transactions →
    (s.tile x).code.get Bundle.nop (s.tile x).pc = b →
    (∀ fd, (s.advance t).syncHold x (s.tile x) b.s7 = .none → (s.advance t).feeds x (s.tile x) b = some fd →
      ∃ u, exec (.bundleIssue t x) s = .next u ∧
      (u.tile x).pc = (nextFlow (s.tile x) b).1 ∧ (u.tile x).loops = (nextFlow (s.tile x) b).2 ∧
      u.nat (Ob.bundlesRetired x) = (s.nat (Ob.bundlesRetired x) + 1) % 2 ^ 64 ∧
      (b.s0.op ≠ .store → fd.out = [] → (∀ op, b.s7.op ≠ .neuron op) → u.mem = s.mem) ∧
      Only [.time, .free, .memory, .objects, .domains, .health, .kerb, .market, .queues, .recovery] s u) ∧
    (∀ h, ((s.advance t).syncHold x (s.tile x) b.s7 = h ∧ h ≠ .none ∨
        (s.advance t).syncHold x (s.tile x) b.s7 = .none ∧ (s.advance t).feeds x (s.tile x) b = none ∧ h = .generator b.s4.input.toNat) →
      ∃ u, exec (.bundleIssue t x) s = .next u ∧
      (u.tile x).hold = h ∧ (u.tile x).pc = (s.tile x).pc ∧ u.nat (Ob.tileState x) = 3 ∧ (∀ y : Nat, y ≠ x → u.tile y = s.tile y) ∧
      Objects [Ob.tileState x] s u ∧ Only [.time, .objects, .market] s u)

/-- A scalar slot whose predicate is off changes nothing. One that computes writes its result into its destination and no other register of any
tile; one to g0 is discarded. A load brings the eight bytes at its scratchpad address, a store writes eight bytes there and leaves every other
byte. Sums and differences that fit 64 bits are exact, shifts below 64 are those of two's complement, compares give 1 or 0. It states parts of
R104, R105. -/
def Obligations.ScalarSlotComputes : Prop :=
  ∀ (s : State) (x : Fin 64) (o : Tile) (sl : ScalarSlot),
    (o.predOn sl.pred = false → s.runScalar x o sl = s ∧ s.runStore x o sl = s) ∧
    (o.predOn sl.pred = true → ∀ v, scalarResult sl.op (o.greg sl.srcA) (scalarB sl o) = some v →
      (sl.dst ≠ 0 → ((s.runScalar x o sl).tile x).greg sl.dst = v) ∧
      (∀ r, r ≠ sl.dst → ((s.runScalar x o sl).tile x).greg r = (s.tile x).greg r) ∧
      (sl.dst = 0 → (s.runScalar x o sl).tile x = s.tile x) ∧ s.runStore x o sl = s ∧
      (∀ y : Nat, y ≠ x → (s.runScalar x o sl).tile y = s.tile y) ∧ Only [.market] s (s.runScalar x o sl)) ∧
    (o.predOn sl.pred = true → sl.op = .load → sl.dst ≠ 0 → ((s.runScalar x o sl).tile x).greg sl.dst =
      BitVec.ofNat 64 (Memory.readNat s.mem (scratchAddr x ((o.greg sl.srcA + scalarB sl o).toNat % 0x100000)) 8) ∧
      Only [.market] s (s.runScalar x o sl) ∧ s.runStore x o sl = s) ∧
    (o.predOn sl.pred = true → sl.op = .store → Memory.wf s.mem = true →
      ∀ a, scratchAddr x ((o.greg sl.srcA + scalarB sl o).toNat % 0x100000) = a →
      Memory.readNat (s.runStore x o sl).mem a 8 = (o.greg sl.dst).toNat ∧ s.runScalar x o sl = s ∧
      (∀ y, y < a ∨ a + 8 ≤ y → Memory.read (s.runStore x o sl).mem y = Memory.read s.mem y) ∧ Only [.memory] s (s.runStore x o sl)) ∧
    (∀ a b : Word,
      (-(2 ^ 63 : Int) ≤ a.toInt + b.toInt → a.toInt + b.toInt < 2 ^ 63 → scalarResult .add a b = some (a + b)) ∧
      (-(2 ^ 63 : Int) ≤ a.toInt - b.toInt → a.toInt - b.toInt < 2 ^ 63 → scalarResult .sub a b = some (a - b)) ∧
      (b.toNat < 64 → scalarResult .shl a b = some (a <<< b.toNat) ∧ scalarResult .shr a b = some (a >>> b.toNat) ∧
        scalarResult .sar a b = some (a.sshiftRight b.toNat)) ∧
      (scalarResult .cmpLt a b = some 1 ↔ a.toInt < b.toInt) ∧ (scalarResult .cmpLtu a b = some 1 ↔ a < b) ∧
      (scalarResult .cmpLt a b = some 0 ↔ b.toInt ≤ a.toInt) ∧ (scalarResult .cmpLtu a b = some 0 ↔ b ≤ a))

/-- A held WAIT ends when its object has reached the target, and a tile that sleeps wakes when a post or a step interrupt has come: Tile State 2.
A generator that waits begins its descriptor when its object has reached the target; one that has completed posts its completion object, ag2 once
its writes are out and acknowledged. The post at the front of those of its tile takes effect once the writes it follows are acknowledged: inside
the poster's partition it raises the object's count modulo 2^32, object 255 takes none, and a post outside the partition is discarded with 0x0306.
It states parts of R107, R113, R114, R115, R124, R129. -/
def Obligations.HeldTilesGoOn : Prop :=
  ∀ (t : Nat) (x : Fin 64) (s : State),
    (∀ id target, (s.tile x).hold = .wait id target → s.tileRuns x = true → syncReached ((s.tile x).obj id) target = true →
      ∃ u, exec (.waitRelease t x) s = .next u ∧ u.tile x = { s.tile x with hold := .none } ∧ u.nat (Ob.tileState x) = 2 ∧
        (∀ y : Nat, y ≠ x → u.tile y = s.tile y) ∧ Objects [Ob.tileState x] s u ∧ Only [.time, .objects, .market] s u) ∧
    (s.tileRuns x = true → (s.tile x).asleep = true → (s.tile x).wake = true →
      ∃ u, exec (.tileWake t x) s = .next u ∧ u.tile x = { s.tile x with asleep := false, wake := false } ∧ u.nat (Ob.tileState x) = 2 ∧
        (∀ y : Nat, y ≠ x → u.tile y = s.tile y) ∧ Objects [Ob.tileState x] s u ∧ Only [.time, .objects, .market] s u) ∧
    (∀ (g : Fin 3) (d : Desc), ((s.tile x).ag g).desc = some d → s.tileRuns x = true → ((s.tile x).ag g).waiting = true →
      syncReached ((s.tile x).obj (d.waitId % 256)) d.waitTarget = true →
      ∃ u, exec (.agWaitRelease t x g) s = .next u ∧ ((u.tile x).ag g).running = true ∧ ((u.tile x).ag g).waiting = false ∧
        ((u.tile x).ag g).idx = [0, 0, 0, 0] ∧ ((u.tile x).ag g).group = 0 ∧ (∀ y : Nat, y ≠ x → u.tile y = s.tile y) ∧ Only [.time, .market] s u) ∧
    (∀ (g : Fin 3) (d : Desc), ((s.tile x).ag g).desc = some d → ((s.tile x).ag g).toPost = true → ((s.tile x).ag g).out = [] →
      (∀ tr ∈ (s.tile x).trans, tr.issuer ≠ .ag g) →
      ∃ u, exec (.agCompletionPost t x g) s = .next u ∧ ((u.tile x).ag g).toPost = false ∧
        u.market.posts = s.market.posts ++ [⟨x, d.postId, 1, (s.tile x).openWrites⟩] ∧ Only [.time, .market] s u) ∧
    (∀ (i : Nat) (p : Post), s.market.posts[i]? = some p → p.after = [] →
      (∀ q ∈ s.market.posts.take i, ¬ (q.tile = p.tile ∧ q.target / 256 = p.target / 256)) →
      (s.tileCtx p.tile < 8 → p.target / 256 ∈ s.ctxTiles (s.tileCtx p.tile) → p.target < 16384 → p.target % 256 ≠ 255 →
        ∃ u, exec (.postArrival t i) s = .next u ∧ u.market.posts = dropNth s.market.posts i ∧
          (u.tile (p.target / 256)).obj (p.target % 256) = ((s.tile (p.target / 256)).obj (p.target % 256) + p.count) % 2 ^ 32 ∧
          (∀ y, y ≠ p.target / 256 → u.tile y = s.tile y) ∧ Only [.time, .market] s u) ∧
      (s.tileCtx p.tile < 8 → p.target / 256 ∈ s.ctxTiles (s.tileCtx p.tile) → p.target < 16384 → p.target % 256 = 255 →
        ∃ u, exec (.postArrival t i) s = .next u ∧ u.market = { s.market with posts := dropNth s.market.posts i } ∧
          Only [.time, .market] s u) ∧
      (p.target / 256 ∉ s.ctxTiles (s.tileCtx p.tile) →
        ∃ u, exec (.postArrival t i) s = .next u ∧ u.market = { s.market with posts := dropNth s.market.posts i } ∧
          Logged 0x0306 p.tile s u ∧ Objects logKeys s u ∧ Only [.time, .objects, .health, .market] s u))

/-- A valid transaction that a running, waking tile's issuer asks for, to this module's own memory and not a read while the tile acquires, joins
the outstanding ones and is shown where there is room; one that the DRAM firewall does not grant faults the tile's context with 0x0304. With 32
outstanding a scalar slot holds its bundle and a generator waits. The answer to a transaction that nothing sent earlier to its destination
precedes ends it: a write without error stores its bytes and no others, a read of a scalar slot fills the scratchpad, an answer with an error
counts one transaction error. A corrected SRAM bit is counted; an uncorrectable one in the instruction store, scratchpad or neuron memory faults
the context with 0x0302, in a scalar register with 0x0307, in the pending map it sets the bit, and in the route cache it drops the line, which is
read again. It states parts of R100, R108, R109, R110, R111, R114, R124. -/
def Obligations.TransactionsAct : Prop :=
  ∀ (t : Nat) (x : Fin 64) (s : State),
    (∀ (iss : Issuer) (ask a : Access), (s.tile x).issuedAccess iss ask = some a → s.tileRuns x = true → (s.tile x).asleep = false →
      accessValid a = true → a.module = none → ((s.tile x).acquiring = false ∨ a.write = true) →
      ((s.tile x).outstanding < 32 → s.channelsFree a = true →
        (targetOf a.addr.toNat ≠ .dram ∨ s.fwGrants a.write (s.tileCtx x) a.addr.toNat a.bytes = true) →
        ∃ u, exec (.transactionIssue t x iss ask) s = .next u ∧
          (u.tile x).trans = (s.tile x).trans ++ [⟨(s.tile x).nextTrans, s.market.nextSeq, iss, a⟩] ∧
          u.nat (Ob.outstandingTransactions x) = (s.tile x).outstanding + 1 ∧ u.market.nextSeq = s.market.nextSeq + 1 ∧
          Objects [Ob.outstandingTransactions x, Ob.tileState x] s u ∧ Only [.time, .objects, .market] s u) ∧
      ((s.tile x).outstanding < 32 → s.channelsFree a = true → targetOf a.addr.toNat = .dram →
        s.fwGrants a.write (s.tileCtx x) a.addr.toNat a.bytes = false →
        ∃ u, exec (.transactionIssue t x iss ask) s = .next u ∧ u.ctxState (s.tileCtx x) = 3 ∧
          u.nat (Ob.contextStatus (s.tileCtx x)) = 0x0304 ∧ u.nat Ob.faultCount = (s.nat Ob.faultCount + 1) % 2 ^ 64 ∧
          (a.write = true → u.mem = s.mem)) ∧
      (32 ≤ (s.tile x).outstanding → ∃ u, exec (.transactionIssue t x iss ask) s = .next u ∧ (u.tile x).trans = (s.tile x).trans ∧
        (iss = .scalar → (u.tile x).hold = .transactions ∧ u.nat (Ob.tileState x) = 3 ∧ Objects [Ob.tileState x] s u ∧
          Only [.time, .objects, .market] s u) ∧
        (iss ≠ .scalar → Only [.time] s u))) ∧
    (∀ (slot : Nat) (err : Bool) (tr : Transaction), (s.tile x).trans[slot]? = some tr → tr.acc.module = none →
      (∀ y ∈ (s.tile x).trans.take slot, accessDest y.acc ≠ accessDest tr.acc) →
      (∀ m ∈ s.market.spikes, m.fromTile = x → m.tile = accessDest tr.acc → tr.seq ≤ m.seq) →
      (err = false → targetOf tr.acc.addr.toNat ≠ .reserved →
        ∃ u, exec (.transactionResponse t x slot err) s = .next u ∧ (∀ y ∈ (u.tile x).trans, y.num ≠ tr.num) ∧
          (tr.acc.write = true → u.mem = Memory.writeBytes s.mem tr.acc.addr.toNat tr.acc.data) ∧
          (tr.acc.write = false → tr.issuer = .scalar → u.mem = Memory.writeBytes s.mem (scratchAddr x tr.acc.dest.toNat)
            (padTo tr.acc.bytes (Memory.readBytes s.mem tr.acc.addr.toNat tr.acc.bytes))) ∧
          (∀ p ∈ u.market.posts, p.tile = x → tr.num ∉ p.after) ∧
          Objects [Ob.outstandingTransactions x, Ob.tileState x] s u ∧ Only [.time, .memory, .objects, .market] s u) ∧
      (err = true ∨ targetOf tr.acc.addr.toNat = .reserved →
        ∃ u, exec (.transactionResponse t x slot err) s = .next u ∧
          u.nat (Ob.transactionErrorCount x) = (s.nat (Ob.transactionErrorCount x) + 1) % 2 ^ 32 ∧
          (tr.acc.write = true → u.mem = s.mem) ∧ (∀ y ∈ (u.tile x).trans, y.num ≠ tr.num))) ∧
    (∀ (store : TileStore) (i : Nat), ∃ u, exec (.sramScrub t (.tile x store) i .single) s = .next u ∧
      u.nat (Ob.sramCorrectedCount x) = (s.nat (Ob.sramCorrectedCount x) + 1) % 2 ^ 32 ∧
      Objects (Ob.sramCorrectedCount x :: logKeys) s u ∧ Only [.time, .objects, .health] s u) ∧
    (∀ (store : TileStore) (i : Nat), (store = .instruction ∨ store = .scratchpad ∨ store = .neuron) →
      s.tileCtx x < 8 → s.ctxState (s.tileCtx x) = 2 →
      ∃ u, exec (.sramScrub t (.tile x store) i .double) s = .next u ∧ u.ctxState (s.tileCtx x) = 3 ∧
        u.nat (Ob.contextStatus (s.tileCtx x)) = 0x0302 ∧ (u.ctx (s.tileCtx x)).needRewrite = true ∧
        u.nat (Ob.sramUncorrectedCount x) = (s.nat (Ob.sramUncorrectedCount x) + 1) % 2 ^ 32 ∧ u.mem = s.mem) ∧
    (∀ i : Nat, s.tileCtx x < 8 → s.ctxState (s.tileCtx x) = 2 →
      ∃ u, exec (.sramScrub t (.tile x .scalarRegister) i .double) s = .next u ∧ u.ctxState (s.tileCtx x) = 3 ∧
        u.nat (Ob.contextStatus (s.tileCtx x)) = 0x0307 ∧ u.mem = s.mem) ∧
    (∀ (i : Nat) (k : Fin 16) (n : Fin 8192), ∃ u, exec (.sramScrub t (.tile x (.pendingMap k n)) i .double) s = .next u ∧
      (u.nunit x).pending.get false (8192 * k + n) = true ∧ (∀ y : Nat, y ≠ x → u.tile y = s.tile y) ∧ Only [.time, .market] s u) ∧
    (∀ (i key : Nat) (l : CacheLine), (s.nunit x).cache.find? key = some l →
      ∃ u, exec (.sramScrub t (.tile x (.routeCache key)) i .double) s = .next u ∧ (u.nunit x).cache.find? key = none ∧
        (u.nunit x).misses = (s.nunit x).misses ++ [l.line] ∧ (∀ y : Nat, y ≠ x → u.tile y = s.tile y) ∧
        Only [.time, .objects, .health, .market] s u)

/-- With an empty delivery ring the input mark rises to device time less Input Guard, and never falls. Once every mark has passed its end a step
opens, with Current Step and phase 1; where program participation is off, no neuron is active and no tile holds input it is skipped. A released
step runs the dynamics of the tile once, counts its spikes and writes the spike map, and no other byte of memory where the tile has no ordered
list. The last tile's report completes the step: logical time passes to its end and one step is counted. A spike message that is next leaves its
place and, for an unordered neuron in time, adds its weight to the neuron's slot. A route line that arrives is put into the cache; with an error
it raises 0x0404, and what is left of the first list that reads it is not sent. It states parts of R182, R183, R185, R187, R188, R189, R191, R197, R198,
R199, R200, R201. -/
def Obligations.StepsAct : Prop :=
  ∀ (t : Nat) (s : State),
    (∀ x : Fin 64, s.tileCtx x < 8 → s.ctxState (s.tileCtx x) = 2 → s.nat (Ob.arithmeticMode (s.tileCtx x)) ≠ 3 → (s.tile x).ringHeld = 0 →
      ∃ u, exec (.inputMarkAutoRaise t x) s = .next u ∧
        u.nat (Ob.inputMark x) = max (s.nat (Ob.inputMark x)) (u.time - s.nat (Ob.inputGuard (s.tileCtx x))) ∧
        Objects [Ob.inputMark x] s u ∧ Only [.time, .objects] s u) ∧
    (∀ n : Fin 8, s.ctxState n = 2 → (s.ctx n).swapping = false → (s.ctx n).rewriting = false → s.spiking n = true →
      (s.ctx n).logical ≠ none → (s.ctx n).opened = none →
      (∀ x ∈ s.ctxTiles n, (s.nextStep n + 1) * s.delta n ≤ s.nat (Ob.inputMark x)) →
      (s.on (Ob.programParticipation n) = true → ∃ u, exec (.stepOpen t n) s = .next u ∧ (u.ctx n).opened = some (s.nextStep n) ∧
        u.nat (Ob.currentStep n) = s.nextStep n ∧ (∀ x ∈ s.ctxTiles n, u.nat (Ob.stepPhase x) = 1)) ∧
      (s.on (Ob.programParticipation n) = false →
        (∀ x ∈ s.ctxTiles n, s.anyActive x = false ∧ s.hasInput x (s.nextStep n) = false ∧ (s.nunit x).far = []) →
        ∃ u, exec (.stepOpen t n) s = .next u ∧ (u.ctx n).opened = none ∧ (u.ctx n).current = some (s.nextStep n) ∧
          u.nat (Ob.stepsSkipped n) = (s.nat (Ob.stepsSkipped n) + 1) % 2 ^ 64 ∧
          u.nat (Ob.logicalTime n) = (s.nextStep n + 1) * s.delta n ∧
          Objects [Ob.stepsSkipped n, Ob.logicalTime n] s u ∧ Only [.time, .objects, .market, .recovery] s u)) ∧
    (∀ (x : Fin 64) (k : Nat), (s.ctx (s.tileCtx x)).opened = some k → s.tileRuns x = true → (s.nunit x).released ≠ some k →
      ∀ d, dynamics (((s.advance t).farMove x k).nunit x) k = d → ∃ u, exec (.stepRelease t x) s = .next u ∧
        (u.nunit x).released = some k ∧ (u.nunit x).dynDone = some k ∧
        ((s.nunit x).orderedCap = 0 →
          u.mem = Memory.writeBytes s.mem (scratchAddr x ((s.nunit x).spikeBase + 1024 * (k % 2))) (spikeMapBytes d.2.1)) ∧
        u.nat (Ob.spikes (s.tileCtx x)) = (s.nat (Ob.spikes (s.tileCtx x)) + d.2.1.length) % 2 ^ 64 ∧
        u.nat (Ob.neuronsUpdatedLastStep x) = d.2.2 ∧ Only [.time, .free, .memory, .objects, .health, .kerb, .market, .queues, .recovery] s u) ∧
    (∀ (x : Fin 64) (k : Nat) (n : Nat), s.tileCtx x = n → (s.ctx n).opened = some k → s.tileRuns x = true → (s.nunit x).released = some k →
      x.val ∉ (s.ctx n).doneTiles → (s.nunit x).walks = [] → (∀ m ∈ s.market.spikes, m.fromTile ≠ x) →
      (s.on (Ob.programParticipation n) = true → (s.nunit x).done = some k) → (s.tile x).openWrites = [] →
      ∃ u, exec (.stepDoneReport t x) s = .next u ∧ u.nat (Ob.stepPhase x) = 5 ∧
        ((∀ y ∈ s.ctxTiles n, y = x ∨ y ∈ (s.ctx n).doneTiles) → (u.ctx n).opened = none ∧ (u.ctx n).current = some k ∧
          u.nat (Ob.stepsExecuted n) = (s.nat (Ob.stepsExecuted n) + 1) % 2 ^ 64 ∧ u.nat (Ob.logicalTime n) = (k + 1) * s.delta n) ∧
        ((∃ y ∈ s.ctxTiles n, y ≠ x ∧ y ∉ (s.ctx n).doneTiles) → (u.ctx n).opened = some k ∧
          (u.ctx n).doneTiles = x.val :: (s.ctx n).doneTiles ∧ Objects [Ob.stepPhase x] s u ∧ Only [.time, .objects, .market] s u)) ∧
    (∀ (i : Nat) (m : SpikeMsg), s.market.spikes[i]? = some m →
      (∀ q ∈ s.market.spikes.take i, ¬ (q.tile = m.tile ∧ q.fromTile = m.fromTile)) →
      (∀ y ∈ (s.tile m.fromTile).trans, accessDest y.acc = m.tile → m.seq ≤ y.seq) →
      (m.after = none ∨ ∃ k d, m.after = some k ∧ (s.nunit m.tile).dynDone = some d ∧ k ≤ d) →
      ∃ u, exec (.spikeMessage t i) s = .next u ∧ u.market.spikes = dropNth s.market.spikes i ∧
        (∀ y, y ≠ m.tile → u.tile y = s.tile y) ∧ Only [.time, .free, .memory, .objects, .health, .market, .recovery] s u ∧
        ∀ x, (s.nunit m.tile).neurons.find? m.neuron = some x → x.ordered = false → s.earliest m.tile ≤ m.step → m.source < 8192 →
          ∃ x', (u.nunit m.tile).neurons.find? m.neuron = some x' ∧
            x'.slots.get 0 (m.step % 16) = (x.slots.get 0 (m.step % 16) + m.weight.toNat) % 65536) ∧
    (∀ (x : Fin 64) (line : Nat) (rest : List Nat), (s.nunit x).misses = line :: rest →
      (∃ u, exec (.routeCacheMissResponse t x false) s = .next u ∧
        (u.nunit x).cache = ((s.nunit x).fill line (s.routeLine line)).cache ∧ ((s.nunit x).orderedCap = 0 → u.mem = s.mem)) ∧
      (s.tileCtx x < 8 → s.ctxState (s.tileCtx x) = 2 → ∃ u, exec (.routeCacheMissResponse t x true) s = .next u ∧
        (u.nunit x).misses = rest ∧ (u.nunit x).walks = dropFrom line (s.nunit x).walks ∧ u.ctxState (s.tileCtx x) = 3 ∧
        u.nat (Ob.contextStatus (s.tileCtx x)) = 0x0404 ∧ u.mem = s.mem))

/-- LAG_PUBLISH shows the lag of every RUNNING context without a swap and of no other. A voltage loop tick leaves a running tile's clock within
the thermal cap and its voltage at or above the tile's limit, and counts the canaries. A guard canary error sets the tile's voltage to Vsafe + 15
mV, in steps and within the limit, is counted and breaks the context's bound; the third within 1 s locks its tolerance. An audit that is due
moves, under the threshold loop, the next θ of its layer and leaves the θ in use. FORCE_EXACT makes the next evaluation exact. It states parts of R127,
R166, R168, R169, R170, R171. -/
def Obligations.AdaptiveLoopsAct : Prop :=
  ∀ (t : Nat) (s : State),
    (∃ u, exec (.lagPublish t) s = .next u ∧ u.gate.lagStamp = u.time ∧
      (∀ n : Fin 8, s.ctxState n = 2 → (s.ctx n).swapping = false → u.nat (Ob.lag n) = u.lagOf n) ∧
      (∀ n : Fin 8, (s.ctxState n ≠ 2 ∨ (s.ctx n).swapping = true) → u.num (Ob.lag n) = s.num (Ob.lag n)) ∧
      (∀ k, (∀ n : Fin 8, k ≠ Ob.lag n) → u.num k = s.num k) ∧ Only [.time, .objects, .gate] s u) ∧
    (∀ (x : Fin 64) (canaries power : Nat), s.tileRuns x = true → ∃ u, exec (.voltageLoopTick t x canaries power) s = .next u ∧
      u.nat (Ob.lowCanaryCount x) = (s.nat (Ob.lowCanaryCount x) + canaries) % 2 ^ 64 ∧ u.nat Ob.inputPower = min power 600 ∧
      u.nat (Ob.tileClock x) ≤ s.power.cap ∧ s.voltLimit x (u.nat (Ob.tileClock x)) ≤ u.nat (Ob.tileVoltage x) ∧
      (s.nat (Ob.loopMode x) = 1 → u.nat (Ob.tileClock x) = min (s.nat (Ob.pinnedClock x)) s.power.cap ∧
        u.nat (Ob.tileVoltage x) = max (stepMv (s.nat (Ob.pinnedVoltage x))) (s.voltLimit x (u.nat (Ob.tileClock x)))) ∧
      Objects ([Ob.lowCanaryCount x, Ob.inputPower, Ob.tileClock x, Ob.tileVoltage x, Ob.vsafeAtCurrentClock x, Ob.vfloorAtCurrentClock x,
        Ob.regime x, Ob.powerPredictedExcess x, Ob.inputEnergy] ++ logKeys) s u ∧ Only [.time, .objects, .health, .power, .market] s u) ∧
    (∀ (x : Fin 64) (n : Nat), s.tileCtx x = n → n < 8 → ∃ u, exec (.guardCanaryError t x) s = .next u ∧
      u.nat (Ob.tileVoltage x) = max (stepMv (s.vsafeOf x (s.nat (Ob.tileClock x)) + 15)) (s.voltLimit x (s.nat (Ob.tileClock x))) ∧
      u.nat (Ob.guardCanaryCount x) = (s.nat (Ob.guardCanaryCount x) + 1) % 2 ^ 32 ∧
      u.nat (Ob.boundBreachCount n) = (s.nat (Ob.boundBreachCount n) + 1) % 2 ^ 32 ∧ (u.ctx n).boundLost = true ∧
      (2 ≤ ((s.ctx n).guards.filter (fun g => decide (u.time < g + 1000000000))).length → u.num (Ob.toleranceLocked n) = 1) ∧
      (((s.ctx n).guards.filter (fun g => decide (u.time < g + 1000000000))).length < 2 →
        u.num (Ob.toleranceLocked n) = s.num (Ob.toleranceLocked n) ∧ Logged 0x0503 x s u) ∧
      Only [.time, .objects, .domains, .health, .market] s u) ∧
    (∀ (n : Fin 8) (layer : Nat) (samples : List AuditSample) (error : Rat) (l : LayerInfo), (s.deltaLayers n).find? (fun l => l.number == layer) = some l →
      s.auditDue n layer samples = true → auditError samples = error → s.nat (Ob.thetaMode n) = 0 →
      ∃ u, exec (.deltaAudit t n layer samples) s = .next u ∧ (u.ctx n).theta = (s.ctx n).theta ∧
        (u.ctx n).thetaNext.get 0 layer = (thetaAfter l (s.thetaRange n l).1 (s.thetaRange n l).2 ((s.ctx n).theta.get 0 layer)
          ((s.ctx n).lowAudits.get 0 layer) error ((s.nat (Ob.targetError n) : Rat) / 16)).1 ∧
        (∀ k, k ≠ layer → (u.ctx n).thetaNext.get 0 k = (s.ctx n).thetaNext.get 0 k) ∧
        (s.boundAt n l ((s.ctx n).theta.get 0 layer) < error →
          Logged 0x0505 n s u ∧ u.nat (Ob.boundBreachCount n) = (s.nat (Ob.boundBreachCount n) + 1) % 2 ^ 32) ∧
        Objects (Ob.boundBreachCount n :: logKeys) s u ∧ Only [.time, .objects, .domains, .health, .market] s u) ∧
    (∀ (m : Master) (n : Fin 8) (v : Nat), Accepted (.forceExact t m n v) s → ∃ u, exec (.forceExact t m n v) s = .next u ∧
      (u.ctx n).exactNext = true ∧ (∀ k : Nat, k ≠ n → u.ctx k = s.ctx k) ∧ Objects [] s u ∧ Only (.market :: bookParts) s u)

/-! ## The Square and calibration -/

/-- A record that reaches an unfenced Square leaves the queue of records on their way. A malformed one is counted and raises 0x0602; a watermark
record only declares its context's watermark, one below the present watermark is ignored; one that comes outside RUN, or while RUN is being left,
or more than 1 µs from the future is counted with 0x0604; one for a slot not opened yet is held; one for an open slot whose projection holds joins
that slot's measurements while the store has room. The oldest open slot closes when every awaited stream has delivered for it, or at its deadline,
which is counted; its analog block is taken then. It states parts of R223. -/
def Obligations.SlotsFileAndClose : Prop :=
  ∀ (t : Nat) (s : State),
    (∀ (i : Nat) (x : Submission), s.market.submissions[i]? = some x → s.fenced = false →
      (s.recordBad x.bytes = true → ∃ u, exec (.measurementFiled t i) s = .next u ∧ u.market.submissions = dropNth s.market.submissions i ∧
        u.nat Ob.recordsRejected = (s.nat Ob.recordsRejected + 1) % 2 ^ 64 ∧ Logged 0x0602 noUnit s u ∧
        Objects (Ob.recordsRejected :: logKeys) s u ∧ Only [.time, .objects, .health, .market] s u) ∧
      (s.recordBad x.bytes = false → leAt x.bytes 8 1 = 0 → ∃ u, exec (.measurementFiled t i) s = .next u ∧
        u.market.submissions = dropNth s.market.submissions i ∧
        (leAt x.bytes 56 8 < (s.advance t).watermarkOf x.ctx → u.square.declared.get 0 x.ctx = s.square.declared.get 0 x.ctx) ∧
        ((s.advance t).watermarkOf x.ctx ≤ leAt x.bytes 56 8 → u.square.declared.get 0 x.ctx = leAt x.bytes 56 8) ∧
        (∀ n, n ≠ x.ctx → u.square.declared.get 0 n = s.square.declared.get 0 n) ∧ Only [.time, .market, .square] s u) ∧
      (s.recordBad x.bytes = false → leAt x.bytes 8 1 ≠ 0 → (s.driving = false ∨ max s.time t + 1000 < leAt x.bytes 0 8) →
        ∃ u, exec (.measurementFiled t i) s = .next u ∧ u.market.submissions = dropNth s.market.submissions i ∧
          u.nat Ob.earlyOrFutureDiscards = (s.nat Ob.earlyOrFutureDiscards + 1) % 2 ^ 64 ∧ Logged 0x0604 noUnit s u ∧
          u.square.open_ = s.square.open_ ∧ Only [.time, .objects, .health, .market, .square] s u) ∧
      (s.recordBad x.bytes = false → leAt x.bytes 8 1 ≠ 0 → s.driving = true → leAt x.bytes 0 8 ≤ max s.time t + 1000 →
        (∀ k, s.square.top = some k → k < slotOf (leAt x.bytes 0 8)) → ∃ u, exec (.measurementFiled t i) s = .next u ∧
          u.market.submissions = dropNth s.market.submissions i ∧ u.square.held = s.square.held ++ [(x.ctx, x.bytes)] ∧
          u.square.open_ = s.square.open_ ∧ Only [.time, .market, .square] s u) ∧
      (∀ (k top : Nat) (o : OpenSlot) (m : Meas), s.recordBad x.bytes = false → leAt x.bytes 8 1 ≠ 0 → s.driving = true →
        sumNat (s.square.open_.map (fun o => o.meas.length)) < 16384 →
        leAt x.bytes 0 8 ≤ max s.time t + 1000 → slotOf (leAt x.bytes 0 8) = k → s.square.top = some top → k ≤ top →
        bitAt (leAt x.bytes 14 1) 1 = false → s.square.open_.find? (fun o => o.k == k && !o.closed) = some o →
        State.measure ({ s with square := { s.square with filed := s.square.filed + 1 } } : State) x.ctx x.bytes o.epoch = some (some m) →
        ∃ u, exec (.measurementFiled t i) s = .next u ∧ u.market.submissions = dropNth s.market.submissions i ∧
          u.square.open_ = s.square.open_.map (fun o => if o.k = k then { o with meas := o.meas ++ [m] } else o) ∧
          u.square.filed = s.square.filed + 1 ∧ Only [.time, .market, .square, .recovery] s u)) ∧
    (∀ o, s.nextToClose = some o → (∀ i ∈ s.awaitedStreams, (s.advance t).delivered i o.k = true) →
      ∃ u, exec (.slotClose t) s = .next u ∧ u.square.open_.map (·.k) = s.square.open_.map (·.k) ∧
        (∀ p ∈ u.square.open_, p.k = o.k → p.closed = true ∧ p.byDeadline = false ∧ p.analog = (s.advance t).analogBlock o.k) ∧
        u.nat Ob.slotsOpen = (u.square.open_.filter (fun p => !p.closed)).length ∧
        Objects [Ob.slotsOpen] s u ∧ Only [.time, .objects, .square, .recovery] s u) ∧
    (∀ o, s.nextToClose = some o → o.deadline ≤ max s.time t →
      ∃ u, exec (.slotDeadline t) s = .next u ∧ u.square.open_.map (·.k) = s.square.open_.map (·.k) ∧
        (∀ p ∈ u.square.open_, p.k = o.k → p.closed = true ∧ p.byDeadline = true) ∧
        u.nat Ob.closedByDeadline = (s.nat Ob.closedByDeadline + 1) % 2 ^ 64 ∧
        Objects [Ob.slotsOpen, Ob.closedByDeadline] s u ∧ Only [.time, .objects, .square, .recovery] s u)

/-- The oldest slot, once closed, is fused while no fusion is in progress; the fusion in progress is then that slot's. Its end posts the snapshot
to queue 8 with the slot's stamp, shows Last Issued Slot, takes the slot out of the Arcade and, while the history is not full, keeps its entry. A
snapshot holds at most 384 track records. A feed word always leaves the feed queue; one with a parity error is counted and raises 0x0106; in the
window of a followed track and for a slot still open it is counted and joins the window's moments. A refresh of the windows drops tracks not
renewed for 4,096 slots, and no cell holds more than 8 windows. It states parts of R215, R219, R224, R249. -/
def Obligations.FusionAndFeed : Prop :=
  (∀ (t : Nat) (s : State) (o : OpenSlot) (rest : List OpenSlot), s.square.open_ = o :: rest → s.square.fusing = none → o.closed = true →
    ∃ u f, exec (.fusionStart t) s = .next u ∧ u.square.fusing = some f ∧ f.k = o.k ∧ f.entry.k = o.k ∧ u.square.firstRun = false ∧
      Only [.time, .memory, .objects, .domains, .health, .square, .calibration] s u) ∧
  (∀ (t : Nat) (s : State) (f : Fused), s.square.fusing = some f → ∃ u, exec (.fusionEnd t) s = .next u ∧ u.square.fusing = none ∧
    (u.queue 8).posts = (s.queue 8).posts ++ [⟨2, 1000 * f.k, 0, f.snapshot⟩] ∧ u.nat Ob.lastIssuedSlot = f.k ∧
    u.square.open_ = s.square.open_.filter (fun o => decide (o.k ≠ f.k)) ∧
    (s.square.hist.length < 256 → u.square.hist = s.square.hist ++ [f.entry]) ∧
    Objects [Ob.lastIssuedSlot, Ob.slotsOpen] s u ∧ Only [.time, .objects, .queues, .square, .recovery] s u) ∧
  (∀ (s : State) (mode k : Nat) (gone : SMap Track), (chooseRecords s mode k gone).1.length ≤ 384) ∧
  (∀ (t : Nat) (s : State) (w : BitVec 64) (rest : List (BitVec 64)), s.gate.feed = w :: rest →
    (∃ u, exec (.feedWord ⟨t, false⟩) s = .next u ∧ u.gate = { s.gate with feed := rest } ∧ Only [.time, .objects, .gate, .square] s u) ∧
    (∃ u, exec (.feedWord ⟨t, true⟩) s = .next u ∧ u.gate = { s.gate with feed := rest } ∧
      u.nat (Ob.portCounter (field w.toNat 62 2) 13) = (s.nat (Ob.portCounter (field w.toNat 62 2) 13) + 1) % 2 ^ 64 ∧
      Logged 0x0106 (field w.toNat 62 2) s u ∧ Objects (Ob.portCounter (field w.toNat 62 2) 13 :: logKeys) s u ∧
      Only [.time, .objects, .health, .gate] s u) ∧
    (∀ (k p : Nat) (x y : Int) (o : OpenSlot) (win : FeedWindow), slotOf (nearestTime (max s.time t) (field w.toNat 0 30)) = k →
      field w.toNat 62 2 = p → signed 15 (field w.toNat 46 15) = x → signed 15 (field w.toNat 31 15) = y → 0 ≤ x → 0 ≤ y →
      s.square.open_.find? (fun o => o.k == k && !o.closed) = some o → s.feedForeign k (field w.toNat 30 1) o.epoch = false →
      32 * x.toNat / (s.projNow p).width < 64 → 32 * y.toNat / (s.projNow p).height < 64 →
      windowFor ((x : Rat) / 2) ((y : Rat) / 2)
        (s.square.cells.get [] (4096 * p + 64 * (32 * y.toNat / (s.projNow p).height) + 32 * x.toNat / (s.projNow p).width)) = some win →
      ∃ u, exec (.feedWord ⟨t, false⟩) s = .next u ∧ u.nat (Ob.eventsAccumulated p) = (s.nat (Ob.eventsAccumulated p) + 1) % 2 ^ 64 ∧
        u.square.moments.get Moments.init (momentKey k win.track p) = (s.square.moments.get Moments.init (momentKey k win.track p)).add x y ∧
        (∀ j, j ≠ momentKey k win.track p → u.square.moments.get Moments.init j = s.square.moments.get Moments.init j) ∧
        Objects [Ob.eventsAccumulated p] s u)) ∧
  (∀ (t : Nat) (s : State), s.dev = 4 → ∃ u, exec (.feedWindowRefresh t) s = .next u ∧
    (∀ e ∈ u.square.followed, e ∈ s.square.followed ∧ slotOf u.time < e.2 + 4096) ∧ u.nat Ob.followedTracks = u.square.followed.length ∧
    (∀ k, (u.square.cells.get [] k).length ≤ 8) ∧ Objects [Ob.followedTracks] s u ∧ Only [.time, .objects, .square] s u)

/-- In RUN the oldest closed slot not yet settled is settled and shown, at rest where Ego Enable is 0. With Ego Enable the causal state of the
next slot is shown, and every port holds its de-rotation set in front, of at most two. A Reference Reset and a Sensor Restore wait for the slot
boundary; there the reset sets attitude, velocity, displacement and line position to their start. A written part of a projection set reads back at
once and keeps its value in force. Every wait-limit period ends with fresh counts, and the wait limit stays within the loop's bounds and grows by
the larger of 1 µs and an eighth when too many measurements were late. It states parts of R169, R173, R206, R211, R212, R214. -/
def Obligations.EgoMotionActs : Prop :=
  ∀ (t : Nat) (s : State),
    (∀ o, s.dev = 4 → s.square.open_.find? (fun o => o.closed && (s.settledRec o.k).isNone) = some o →
      ∃ u r, exec (.egoSettle t) s = .next u ∧ u.square.ego.settled = some o.k ∧ u.square.ego.last = some r ∧ r.slot = o.k ∧ r.epoch = o.epoch ∧
        u.doms.find? Ob.egoStateSettled = some (egoBytes r) ∧ u.square.open_ = s.square.open_ ∧
        (s.on Ob.egoEnable = false → r = restRec o.k o.epoch 1 ∧ u.objs = s.objs ∧ u.health = s.health) ∧
        Objects logKeys s u ∧ Only [.time, .objects, .domains, .health, .square] s u) ∧
    (s.on Ob.egoEnable = true → (s.dev = 3 ∨ s.dev = 4) →
      ∃ u r, exec (.egoCausalPublish t) s = .next u ∧ u.square.ego.causal = some r ∧ r.slot = slotOf u.time + 1 ∧
        u.doms.find? Ob.egoStateCausal = some (egoBytes r) ∧ u.gate.egoStamp = 1000 * (slotOf u.time + 1) ∧
        (∀ p : Fin 4, (∃ d, (u.port p).derot.head? = some d ∧ d.slot = slotOf u.time + 1) ∧ (u.port p).derot.length ≤ 2) ∧
        Only [.time, .domains, .gate, .square] s u) ∧
    (∀ m v, Accepted (.referenceReset t m v) s → ∃ u, exec (.referenceReset t m v) s = .next u ∧
      u.square = { s.square with ego := { s.square.ego with resetPending := true } } ∧ Only (.square :: bookParts) s u) ∧
    (s.square.ego.resetPending = true → s.egoBoundary.square.ego =
      { s.square.ego with q := [1, 0, 0, 0], v := [0, 0, 0], p := [0, 0, 0], sLine := 0, resetPending := false }) ∧
    (∀ (m : Master) (f : Fin 16) (sub : Fin 8) (data : List Byte), 2 ≤ sub.val → sub.val ≤ 5 → Accepted (.projectionSetWrite t m f sub data) s →
      ∃ u, exec (.projectionSetWrite t m f sub data) s = .next u ∧ u.domBytes (obKey (0x2700 + f) sub) 0 data.length = data ∧
        (∀ i, i < data.length → u.forceByte (obKey (0x2700 + f) sub) i = s.forceByte (obKey (0x2700 + f) sub) i) ∧
        Objects [] s u ∧ Only ([.domains, .held, .calibration] ++ bookParts) s u) ∧
    (∀ m (n : Fin 24) v, Accepted (.sensorRestore t m n v) s → ∃ u, exec (.sensorRestore t m n v) s = .next u ∧
      u.square = { s.square with restores := s.square.restores ++ [(n.val, slotOf u.time)] } ∧ Only (.square :: bookParts) s u) ∧
    (∀ m v, Accepted (.degradationReset t m v) s → ∃ u, exec (.degradationReset t m v) s = .next u ∧
      u.square = { s.square with restores := s.square.restores ++ [(24, slotOf u.time)] } ∧ Only (.square :: bookParts) s u) ∧
    (s.dev = 4 → ∃ u, exec (.waitLimitLoopTick t) s = .next u ∧ u.square = { s.square with wait := ⟨0, 0, 0, false⟩ } ∧
      (s.on Ob.waitLimitMode = true → u.nat Ob.waitLimit = max 2000 (min 255000 (s.nat Ob.pinnedWaitLimit))) ∧
      (s.on Ob.waitLimitMode = false → max 2000 (s.nat Ob.waitLimitMin) ≤ u.nat Ob.waitLimit ∧
        u.nat Ob.waitLimit ≤ max (max 2000 (s.nat Ob.waitLimitMin)) (min 255000 (s.nat Ob.waitLimitMax)) ∧
        (s.nat Ob.lateTarget * s.square.wait.total < s.square.wait.late * 65536 → u.nat Ob.waitLimit =
          max (max 2000 (s.nat Ob.waitLimitMin)) (min (min 255000 (s.nat Ob.waitLimitMax))
            (s.nat Ob.waitLimit + max 1000 (s.nat Ob.waitLimit / 8))))) ∧
      Objects ([Ob.waitLimit, Ob.latePredictedExcess] ++ logKeys) s u ∧ Only [.time, .objects, .health, .square] s u)

/-- A refractory window's end empties the port's histogram and holds the learned period, within Refractory Min and Max, for the slot boundary. A
bias window's end restarts its count; a rate above the band moves the code up one step by a transfer, and a step past the limit raises 0x0805. A
time-offset window that has run its length ends with a task: where no task waits and its cycles fit the budget of the millisecond, it shows the
estimate and stages a commit only from a loop that is not stopped; one past the drift limit stops the loop with 0x0806; what does not fit waits
for the next millisecond. Window ends of extrinsics and scale restart their windows and hand over their tasks alike. Calibration Restart leaves no
loop stopped and no cumulative correction. At an epoch-bearing boundary the epoch rises by one modulo 65,536 and is counted. It states parts of R258,
R261, R262, R264, R266, R267. -/
def Obligations.CalibrationActs : Prop :=
  ∀ (t : Nat) (s : State),
    (∀ p : Fin 4, s.on (Ob.refractoryLearningEnable p) = true → s.gateLoopStarted p = true →
      (s.port p).learnFrom + 1000000 * s.nat (Ob.refractoryLearnWindow p) ≤ (s.advance t).time →
      ∃ u, exec (.refractoryLearnWindowEnd t p) s = .next u ∧ (u.port p).learn = List.replicate 16 0 ∧
        (learnedBin (s.port p).learn = none → Objects [] s u) ∧
        (∀ b, learnedBin (s.port p).learn = some b → 0 < b → u.nat (Ob.refractoryPeriod p) =
          max (s.nat (Ob.refractoryMin p)) (min (s.nat (Ob.refractoryMax p)) (2 ^ b)) ∧
          u.forceNum (Ob.refractoryPeriod p) = s.forceNum (Ob.refractoryPeriod p)) ∧
        Objects [Ob.refractoryPeriod p] s u ∧ Only [.time, .objects, .held, .gate] s u) ∧
    (∀ p : Fin 4, s.on (Ob.biasTrimEnable p) = true → s.gateLoopStarted p = true →
      (s.port p).biasFrom + 1000000 * s.nat (Ob.biasWindow p) ≤ (s.advance t).time →
      ∃ u, exec (.biasWindowEnd t p) s = .next u ∧ (u.port p).biasCount = 0 ∧
        (field (s.nat (Ob.biasRateBand p)) 0 32 * s.nat (Ob.biasWindow p) ≤ (s.port p).biasCount * 1000 →
          (s.port p).biasCount * 1000 ≤ field (s.nat (Ob.biasRateBand p)) 32 32 * s.nat (Ob.biasWindow p) →
          Objects [] s u ∧ (u.port p).i3c = (s.port p).i3c) ∧
        (∀ code c, s.objs.find? (Ob.biasCode p) = some (Int.ofNat code) →
          field (s.nat (Ob.biasRateBand p)) 32 32 * s.nat (Ob.biasWindow p) < (s.port p).biasCount * 1000 →
          leAt (s.domBytes (Ob.biasProgram p) 0 80) 10 2 = c →
          (code + c ≤ leAt (s.domBytes (Ob.biasProgram p) 0 80) 6 2 → (s.port p).i3c.length < 8 →
            u.nat (Ob.biasCode p) = code + c ∧ (u.port p).i3c.length = (s.port p).i3c.length + 1) ∧
          (leAt (s.domBytes (Ob.biasProgram p) 0 80) 6 2 < code + c →
            u.num (Ob.biasCode p) = s.num (Ob.biasCode p) ∧ Logged 0x0805 p s u ∧ (u.port p).i3c = (s.port p).i3c)) ∧
        Objects ([Ob.biasCode p, Ob.transferStatus p] ++ logKeys) s u ∧ Only [.time, .objects, .health, .gate] s u) ∧
    (∀ (p : Fin 4) (estimate : Rat) (peak : Nat), s.offsetStarted p = true → s.runtimeOn = true →
      s.cal.offsetFrom.get 0 p + 1000000 * s.nat (Ob.offsetWindow p) ≤ (s.advance t).time → s.cal.tasks = [] →
      (∀ c, s.calBudget - s.cal.spent < c → ∃ u, exec (.timeOffsetWindowEnd ⟨t, c⟩ p estimate peak) s = .next u ∧
        u.cal.tasks = [⟨p, c - (s.calBudget - s.cal.spent), estimate, peak, [], []⟩] ∧ u.cal.staged = s.cal.staged ∧
        Objects logKeys s u ∧ Only [.time, .objects, .health, .calibration] s u) ∧
      ∀ c, c ≤ s.calBudget - s.cal.spent → ∃ u, exec (.timeOffsetWindowEnd ⟨t, c⟩ p estimate peak) s = .next u ∧
        u.cal.tasks = [] ∧ u.cal.spent = s.cal.spent + c ∧
        u.num (Ob.offsetEstimate p) = max (-2147483648) (min 2147483647 (roundRat estimate)) ∧
        u.num (Ob.calibratedOffset p) = s.num (Ob.calibratedOffset p) ∧
        (peak < s.nat (Ob.offsetMinCorrelation p) ∨ s.loopStopped p = true → u.cal.staged = s.cal.staged ∧ u.cal.stopped = s.cal.stopped) ∧
        (∀ c ∈ u.cal.staged, c ∈ s.cal.staged ∨ (c.loop = p ∧ -1000000 ≤ c.value ∧ c.value ≤ 1000000 ∧
          (c.value - s.cal.offsetRef.get 0 p).natAbs ≤ s.nat (Ob.offsetDriftLimit p))) ∧
        (s.loopStopped p = false → u.loopStopped p = true → u.cal.staged = s.cal.staged ∧ Logged 0x0806 p s u) ∧
        Objects (Ob.offsetEstimate p :: logKeys) s u ∧ Only [.time, .objects, .health, .calibration] s u) ∧
    (∀ (f : Fin 16) (rot tr : List Rat), s.extStarted f = true → s.runtimeOn = true →
      s.nat (Ob.extrinsicWindow f) ≤ s.cal.residuals.get 0 f → s.cal.tasks = [] →
      (∀ c, s.calBudget - s.cal.spent < c → ∃ u, exec (.extrinsicWindowEnd ⟨t, c⟩ f rot tr) s = .next u ∧ u.cal.residuals.get 0 f = 0 ∧
        u.cal.tasks = [⟨extLoop f, c - (s.calBudget - s.cal.spent), 0, 0, rot, tr⟩] ∧ u.cal.staged = s.cal.staged ∧
        Objects logKeys s u ∧ Only [.time, .objects, .health, .calibration] s u) ∧
      ∀ c, c ≤ s.calBudget - s.cal.spent → ∃ u, exec (.extrinsicWindowEnd ⟨t, c⟩ f rot tr) s = .next u ∧ u.cal.residuals.get 0 f = 0 ∧
        u.cal.tasks = [] ∧ u.cal.spent = s.cal.spent + c ∧
        (s.loopStopped (extLoop f) = true → u.cal.staged = s.cal.staged ∧ u.doms = s.doms ∧ u.health = s.health) ∧
        (s.loopStopped (extLoop f) = false → u.loopStopped (extLoop f) = true →
          u.cal.staged = s.cal.staged ∧ u.doms = s.doms ∧ Logged 0x0806 f s u) ∧
        (∀ k, k ≠ Ob.cumulativeCorrection f → u.doms.find? k = s.doms.find? k) ∧ Objects logKeys s u ∧
        Only [.time, .objects, .domains, .health, .calibration] s u) ∧
    (∀ e, s.scaleStarted = true → s.runtimeOn = true → s.nat Ob.scaleWindow ≤ s.cal.scaleCount → s.lineEncoder = some e → s.cal.tasks = [] →
      (∀ c, s.calBudget - s.cal.spent < c → ∃ u, exec (.scaleWindowEnd ⟨t, c⟩) s = .next u ∧ u.cal.scaleCount = 0 ∧
        (u.cal.tasks.map (fun x => (x.loop, x.cycles))) = [(scaleLoop, c - (s.calBudget - s.cal.spent))] ∧ u.cal.staged = s.cal.staged ∧
        Objects logKeys s u ∧ Only [.time, .objects, .health, .calibration] s u) ∧
      ∀ c, c ≤ s.calBudget - s.cal.spent → ∃ u, exec (.scaleWindowEnd ⟨t, c⟩) s = .next u ∧ u.cal.tasks = [] ∧ u.cal.scaleCount = 0 ∧ u.cal.scaleTop = 0 ∧ u.cal.scaleSq = 0 ∧
        (s.loopStopped scaleLoop = true → u.cal.staged = s.cal.staged ∧ u.health = s.health) ∧
        (s.loopStopped scaleLoop = false → u.loopStopped scaleLoop = true → u.cal.staged = s.cal.staged ∧ Logged 0x0806 noUnit s u) ∧
        Objects (Ob.scaleCorrection :: logKeys) s u ∧ Only [.time, .objects, .health, .calibration] s u) ∧
    (∀ m v, Accepted (.calibrationRestart t m v) s → ∃ u, exec (.calibrationRestart t m v) s = .next u ∧ u.cal.stopped = [] ∧
      u.num Ob.scaleCorrection = 0 ∧ (∀ p : Fin 4, u.cal.offsetRef.get 0 p = s.num (Ob.calibratedOffset p)) ∧
      (∀ f : Fin 16, u.domBytes (Ob.cumulativeCorrection f) 0 24 = List.replicate 24 0) ∧ Objects [Ob.scaleCorrection] s u ∧
      Only ([.objects, .domains, .calibration] ++ bookParts) s u) ∧
    (∀ m v, Accepted (.calibrationSave t m v) s → ∃ u, exec (.calibrationSave t m v) s = .next u ∧
      (∀ k, loopKey k = true → u.flash.calNums.find? k = s.objs.find? k ∧ u.flash.calDoms.find? k = s.doms.find? k) ∧
      Only bookParts s u) ∧
    (∀ k, s.opensEpoch k = true → (s.calBoundary k).nat Ob.epoch = (s.nat Ob.epoch + 1) % 65536 ∧
      (s.calBoundary k).nat Ob.epochChanges = (s.nat Ob.epochChanges + 1) % 2 ^ 64 ∧ (s.calBoundary k).cal.lastEpoch = some k ∧
      (s.loopsCommit k = true → (s.calBoundary k).cal.staged = [])) ∧
    (∀ k, s.opensEpoch k = false → (s.calBoundary k).num Ob.epoch = s.num Ob.epoch ∧
      (s.calBoundary k).num Ob.epochChanges = s.num Ob.epochChanges)

/-! ## The Chaivo link -/

/-- Enabling a link port starts training, disabling it discards what it kept for retry. A retrain starts training, from the stored coefficients
or, in full, without them. Completed training gives block lock, stores the coefficients of a full training and sends a HELLO first; the HELLO
received shows the neighbour's address, and the port that has both goes UP. A port in TRAINING raises 0x090A when it stalls. An UP port that loses
block lock goes DOWN with 0x0903, counted, without credits, and keeps its retry buffer; a DOWN port tries again. A cage that draws too much is
switched off for 1 s, a module inserted is read. It states parts of R277, R278, R279, R297, R300, R443. -/
def Obligations.LinkPortsTrain : Prop :=
  ∀ (t : Nat) (m : Master) (p : Fin 4) (s : State),
    (Accepted (.chaivoPortEnable t m p 1) s → s.num (Ob.linkPortEnable p) ≠ 1 → ∃ u, exec (.chaivoPortEnable t m p 1) s = .next u ∧
      u.num (Ob.linkPortEnable p) = 1 ∧ u.num (Ob.linkPortState p) = 1 ∧ (u.linkPort p).retry = [] ∧
      Objects [Ob.linkPortEnable p, Ob.linkPortState p] s u ∧ Only ([.objects, .link] ++ bookParts) s u) ∧
    (Accepted (.chaivoPortEnable t m p 0) s → ∃ u, exec (.chaivoPortEnable t m p 0) s = .next u ∧
      u.num (Ob.linkPortEnable p) = 0 ∧ u.num (Ob.linkPortState p) = 0 ∧ (u.linkPort p).retry = [] ∧ (u.linkPort p).queue = [] ∧
      Objects [Ob.linkPortEnable p, Ob.linkPortState p] s u ∧ Only ([.objects, .queues, .link] ++ bookParts) s u) ∧
    (Accepted (.retrainStored t m p) s → ∃ u, exec (.retrainStored t m p) s = .next u ∧ u.num (Ob.linkPortState p) = 1 ∧
      (u.linkPort p).full = !s.on (Ob.coefficientsStored p) ∧ (u.linkPort p).retry = (s.linkPort p).retry ∧
      Objects [Ob.linkPortState p] s u ∧ Only ([.objects, .link] ++ bookParts) s u) ∧
    (Accepted (.retrainFull t m p) s → ∃ u, exec (.retrainFull t m p) s = .next u ∧ u.num (Ob.linkPortState p) = 1 ∧
      u.num (Ob.coefficientsStored p) = 0 ∧ (u.linkPort p).full = true ∧ (u.linkPort p).retry = (s.linkPort p).retry ∧
      Objects [Ob.linkPortState p, Ob.coefficientsStored p] s u ∧ Only ([.objects, .link] ++ bookParts) s u) ∧
    ((s.nat (Ob.linkPortState p) = 1 ∨ s.nat (Ob.linkPortState p) = 3) → (s.advance t).cageOff p = false →
      ((s.linkPort p).full = true → ∃ u, exec (.trainingComplete t p) s = .next u ∧ u.num (Ob.coefficientsStored p) = 1) ∧
      ((s.linkPort p).heard = false → ∃ u, exec (.trainingComplete t p) s = .next u ∧ (u.linkPort p).locked = true ∧
        (u.linkPort p).queue = ⟨4, mkHeader 0 s.ownAddress 0 1 0 0x20 0 0 0 (bnat (s.hostMode p) + 2 * bnat (s.on (Ob.fec p))) s.ownAddress, []⟩ ::
          (s.linkPort p).queue ∧ Objects [Ob.coefficientsStored p] s u ∧ Only [.time, .objects, .link] s u) ∧
      ((s.linkPort p).heard = true → ∃ u, exec (.trainingComplete t p) s = .next u ∧ u.num (Ob.linkPortState p) = 2 ∧
        Only [.time, .objects, .link, .recovery] s u)) ∧
    (∀ a b, s.nat (Ob.linkPortState p) ≠ 0 → (s.linkPort p).locked = true → ∃ u, exec (.hello t p a b) s = .next u ∧
      u.nat (Ob.neighbourAddress p) = b.toNat % 2 ^ 18 ∧ u.num (Ob.linkPortState p) = 2 ∧ (u.linkPort p).heard = true ∧
      Only [.time, .objects, .link, .recovery] s u) ∧
    (s.nat (Ob.linkPortState p) = 1 → (s.linkPort p).due ≤ (s.advance t).time → ∃ u, exec (.trainingStallNotice t p) s = .next u ∧
      Logged 0x090A p s u ∧ (u.linkPort p).due = (s.advance t).time + 60000000000 ∧
      Objects logKeys s u ∧ Only [.time, .objects, .health, .link] s u) ∧
    (s.nat (Ob.linkPortState p) = 3 → (s.linkPort p).due ≤ (s.advance t).time → ∃ u, exec (.downRetryTimer t p) s = .next u ∧
      u.linkPort p = { s.linkPort p with locked := false, heard := false, full := !s.on (Ob.coefficientsStored p),
                                         due := (s.advance t).time + 10000000 } ∧ Only [.time, .link] s u) ∧
    (s.linkUp p = true → ∃ u, exec (.blockLockLoss t p) s = .next u ∧ u.num (Ob.linkPortState p) = 3 ∧
      u.nat (Ob.linkCounter p 10) = (s.nat (Ob.linkCounter p 10) + 1) % 2 ^ 64 ∧ Logged 0x0903 p s u ∧
      (u.linkPort p).retry = (s.linkPort p).retry ∧ (u.linkPort p).credits = [0, 0, 0, 0] ∧ (u.linkPort p).rx = none ∧
      Objects ([Ob.linkPortState p, Ob.linkCounter p 10] ++ logKeys) s u ∧ Only [.time, .objects, .health, .link] s u) ∧
    (∀ ident, ∃ u, exec (.sfpInsertion t p ident) s = .next u ∧ u.domBytes (Ob.moduleIdentifier p) 0 96 = padTo 96 ident ∧
      (u.linkPort p).cageOff = none ∧ Only [.time, .domains, .link] s u) ∧
    (∃ u, exec (.sfpOvercurrent t p) s = .next u ∧ (u.linkPort p).cageOff = some u.time ∧ u.cageOff p = true ∧
      (s.on (Ob.linkPortEnable p) = true → u.num (Ob.linkPortState p) = 1) ∧
      (s.linkUp p = true → Logged 0x0903 p s u) ∧
      Objects ([Ob.linkPortState p, Ob.linkCounter p 10] ++ logKeys) s u ∧ Only [.time, .objects, .health, .link] s u)

/-- An acknowledgement ends what is kept up to its number, and an unknown one nothing. With no flit waiting, an acknowledgement, a NAK and a link
block change only the retry buffer, the credits and the counts of resends; a NAK, or a wait of Retry Timeout, sends the rest again, and a flit
resent 16 times brings the port DOWN with 0x0902. A header that fails its check is counted, raises 0x0901 and begins a discard and a NAK; a
malformed one is counted with 0x0908. A trailer ends the flit: stomped and damaged ones are counted, one out of sequence is refused, a good one in
sequence advances the expected number and owes its credits back. A frame of a host with a bad FCS or another form is counted as malformed. It states parts of R282, R283, R284, R285, R297, R299, R300. -/
def Obligations.FlitsMove : Prop :=
  ∀ (t : Nat) (p : Fin 4) (s : State),
    (∀ (ack : Nat) (a b : List SentFlit) (x : SentFlit), x.seq = ack → (∀ y ∈ a, y.seq ≠ ack) → ackRetry ack (a ++ x :: b) = b) ∧
    (∀ (ack : Nat) (l : List SentFlit), (∀ y ∈ l, y.seq ≠ ack) → ackRetry ack l = l) ∧
    (∀ ack (cls : Fin 4) cr, s.linkUp p = true → (s.linkPort p).queue = [] → ∃ u, exec (.flitAckReceived t p ack cls cr) s = .next u ∧
      u.linkPort p = addCredits { s.linkPort p with retry := ackRetry ack.toNat (s.linkPort p).retry } cls cr.toNat ∧
      (∀ q : Nat, q ≠ p → u.linkPort q = s.linkPort q) ∧ Objects [] s u ∧ Only [.time, .objects, .link, .recovery] s u) ∧
    (∀ (good : BitVec 12), s.linkUp p = true → (s.linkPort p).queue = [] →
      (ackRetry good.toNat (s.linkPort p).retry = [] → ∃ u, exec (.nakReceived t p good) s = .next u ∧
        u.linkPort p = { s.linkPort p with retry := [] } ∧ Objects [] s u ∧ Only [.time, .objects, .link, .recovery] s u) ∧
      (∀ x rest, ackRetry good.toNat (s.linkPort p).retry = x :: rest → x.resent < 16 → ∃ u, exec (.nakReceived t p good) s = .next u ∧
        u.linkPort p = { s.linkPort p with retry := (x :: rest).map (fun y => { y with resent := y.resent + 1, sentAt := (s.advance t).time }) } ∧
        u.nat (Ob.linkCounter p 4) = (s.nat (Ob.linkCounter p 4) + (rest.length + 1)) % 2 ^ 64 ∧
        Objects [Ob.linkCounter p 4] s u ∧ Only [.time, .objects, .link, .recovery] s u)) ∧
    (∀ x rest, s.linkUp p = true → (s.linkPort p).retry = x :: rest → x.sentAt + s.nat (Ob.retryTimeout p) ≤ (s.advance t).time →
      (x.resent < 16 → ∃ u, exec (.retryTimeout t p) s = .next u ∧
        u.nat (Ob.linkCounter p 4) = (s.nat (Ob.linkCounter p 4) + (rest.length + 1)) % 2 ^ 64 ∧ u.num (Ob.linkPortState p) = s.num (Ob.linkPortState p) ∧
        Objects [Ob.linkCounter p 4] s u ∧ Only [.time, .objects, .link] s u) ∧
      (16 ≤ x.resent → ∃ u, exec (.retryTimeout t p) s = .next u ∧ u.num (Ob.linkPortState p) = 3 ∧ Logged 0x0902 p s u ∧
        (u.linkPort p).retry = (s.linkPort p).retry ∧ Only [.time, .objects, .health, .link] s u)) ∧
    (∀ (c : BitVec 52), s.linkUp p = true → (s.linkPort p).queue = [] → bitAt c.toNat 39 = false → (s.linkPort p).credits.length = 4 →
      ∃ u, exec (.linkBlock t p c) s = .next u ∧ (u.linkPort p).retry = ackRetry (field c.toNat 40 12) (s.linkPort p).retry ∧
        (u.linkPort p).skip = false ∧ (∀ k, k < 4 → nth 0 (u.linkPort p).credits k =
          min (nth 0 fullCredits k) (nth 0 (s.linkPort p).credits k + field c.toNat (31 - 8 * k) 8)) ∧
        Objects [] s u ∧ Only [.time, .objects, .link, .recovery] s u) ∧
    (∀ (b : BitVec 48), s.linkUp p = true → s.hostMode p = true → (s.linkPort p).queue = [] → bitAt (16 * b.toNat) 39 = false →
      (s.linkPort p).credits.length = 4 → ∃ u, exec (.link t p b) s = .next u ∧
        (u.linkPort p).retry = ackRetry (field (16 * b.toNat) 40 12) (s.linkPort p).retry ∧
        (∀ k, k < 4 → nth 0 (u.linkPort p).credits k =
          min (nth 0 fullCredits k) (nth 0 (s.linkPort p).credits k + field (16 * b.toNat) (31 - 8 * k) 8)) ∧
        Objects [] s u ∧ Only [.time, .objects, .link, .recovery] s u) ∧
    (s.linkUp p = true → s.hostMode p = false → (s.linkPort p).unacked = true → ∃ u, exec (.linkBlockSend t p) s = .next u ∧
      (u.linkPort p).unacked = false ∧ (u.linkPort p).block = some (BitVec.ofNat 56 (put 52 4 1 + linkContent (s.linkPort p))) ∧
      (u.linkPort p).owed = (s.linkPort p).owed.map (fun n => n - min 255 n) ∧ Only [.time, .link] s u) ∧
    (∀ (h : BitVec 192), s.linkUp p = true → (s.linkPort p).skip = false →
      (headerCheck h.toNat ≠ h.toNat % 256 → ∃ u, exec (.flitHeader t p h) s = .next u ∧ (u.linkPort p).rx = none ∧ (u.linkPort p).skip = true ∧
        (u.linkPort p).discarding = true ∧ u.nat (Ob.linkCounter p 3) = (s.nat (Ob.linkCounter p 3) + 1) % 2 ^ 64 ∧ Logged 0x0901 p s u ∧
        Objects ([Ob.linkCounter p 3, Ob.linkCounter p 5] ++ logKeys) s u ∧ Only [.time, .objects, .health, .link] s u) ∧
      (headerCheck h.toNat = h.toNat % 256 → (s.linkPort p).discarding = false → flitMalformed h = true →
        ∃ u, exec (.flitHeader t p h) s = .next u ∧ (u.linkPort p).rx = some ⟨h, .drop, false⟩ ∧
          u.nat (Ob.linkCounter p 8) = (s.nat (Ob.linkCounter p 8) + 1) % 2 ^ 64 ∧ Logged 0x0908 p s u ∧
          Objects (Ob.linkCounter p 8 :: logKeys) s u ∧ Only [.time, .objects, .health, .link] s u) ∧
      (headerCheck h.toNat = h.toNat % 256 → (s.linkPort p).discarding = false → flitMalformed h = false →
        (linkLocal (hType h) = true ∨ hDest h = s.ownAddress) → ∃ u, exec (.flitHeader t p h) s = .next u ∧
          (u.linkPort p).rx = some ⟨h, .here, false⟩ ∧ Only [.time, .link] s u)) ∧
    (∀ (payload : List Byte) (tr : BitVec 64) (rx : RxFlit), s.linkUp p = true → (s.linkPort p).rx = some rx →
      (field tr.toNat 32 32 = flitCrc ⟨rx.header, payload⟩ ^^^ 0xFFFFFFFF → ∃ u, exec (.flitTrailer t p payload tr) s = .next u ∧
        u.linkPort p = { s.linkPort p with rx := none } ∧ u.nat (Ob.linkCounter p 11) = (s.nat (Ob.linkCounter p 11) + 1) % 2 ^ 64 ∧
        Objects [Ob.linkCounter p 11] s u ∧ Only [.time, .objects, .link] s u) ∧
      (field tr.toNat 32 32 ≠ flitCrc ⟨rx.header, payload⟩ ^^^ 0xFFFFFFFF → field tr.toNat 32 32 ≠ flitCrc ⟨rx.header, payload⟩ →
        ∃ u, exec (.flitTrailer t p payload tr) s = .next u ∧ (u.linkPort p).rx = none ∧ (u.linkPort p).discarding = true ∧
          u.nat (Ob.linkCounter p 2) = (s.nat (Ob.linkCounter p 2) + 1) % 2 ^ 64 ∧ Logged 0x0901 p s u ∧
          Objects ([Ob.linkCounter p 2, Ob.linkCounter p 5] ++ logKeys) s u ∧ Only [.time, .objects, .health, .link] s u) ∧
      (field tr.toNat 32 32 = flitCrc ⟨rx.header, payload⟩ → payload.length = 64 * hUnits rx.header →
        (field tr.toNat 20 12 ≠ (s.linkPort p).expected → ∃ u, exec (.flitTrailer t p payload tr) s = .next u ∧ (u.linkPort p).rx = none ∧
          (u.linkPort p).expected = (s.linkPort p).expected ∧ (u.linkPort p).discarding = true ∧
          Objects [Ob.linkCounter p 5] s u ∧ Only [.time, .objects, .link] s u) ∧
        (field tr.toNat 20 12 = (s.linkPort p).expected → rx.route = .here → ∃ u, exec (.flitTrailer t p payload tr) s = .next u ∧
          (u.linkPort p).rx = none ∧ (u.linkPort p).expected = ((s.linkPort p).expected + 1) % 4096 ∧ (u.linkPort p).discarding = false ∧
          (u.linkPort p).unacked = true ∧ u.nat (Ob.linkCounter p 1) = (s.nat (Ob.linkCounter p 1) + 1) % 2 ^ 64 ∧
          Objects [Ob.linkCounter p 1] s u ∧ Only [.time, .objects, .link, .recovery] s u))) ∧
    (∀ (ok' : Bool) (frame : List Byte), s.hostMode p = true → s.on (Ob.linkPortEnable p) = true → s.linkUp p = false →
      (ok' = false ∨ hostFrameOk frame = false → ∃ u, exec (.hostModeFrame t p ok' frame) s = .next u ∧
        u.nat (Ob.linkCounter p 8) = (s.nat (Ob.linkCounter p 8) + 1) % 2 ^ 64 ∧ Logged 0x0908 p s u ∧
        Objects (Ob.linkCounter p 8 :: logKeys) s u ∧ Only [.time, .objects, .health] s u) ∧
      (ok' = true → hostFrameOk frame = true → hSrc (BitVec.ofNat 192 (leAt frame 14 24)) = s.nat (Ob.hostAddress p) →
        ∃ u, exec (.hostModeFrame t p ok' frame) s = .next u ∧ (u.linkPort p).learned = ofBeBytes (bytesAt frame 6 6) ∧ Only [.time, .link] s u))

/-- A READ for this module that passes its checks is answered with READ_RESP and the bytes at its address; a WRITE, answered with WRITE_ACK, and a
WRITE_POSTED store their bytes; a request that fails them is refused with its status and leaves memory as it was. A PULL reads its queue, and
counts an underrun where it is empty. A KERB_POST that passes the port filter posts to its output; an ECHO that passes it is answered with its
fields; an ECHO_REPLY has no effect. An answer for a tag that is not outstanding is late: counted, with 0x0906. The answer to the only request of
a transaction ends it; with an error it is counted. A request without an answer for Response Timeout puts its tag into quarantine, until the tag
may be used again. It states parts of R285, R286, R290, R292, R293, R297, R300, R312, R313. -/
def Obligations.RequestsAreServed : Prop :=
  ∀ (t : Nat) (p : Fin 4) (h : BitVec 192) (s : State),
    (s.forUs p h 1 = true →
      (s.requestStatus p 0 h (64 * hWant h) false = 0 → ∃ u, exec (.read t p h) s = .next u ∧
        u = (s.advance t).answer p h 5 0 (Memory.readBytes s.mem (hB h) (64 * hWant h)) ∧ Only [.time, .objects, .health, .link, .recovery] s u) ∧
      (s.requestStatus p 0 h (64 * hWant h) false ≠ 0 → ∃ u, exec (.read t p h) s = .next u ∧
        u = (s.advance t).refuseRequest p h (s.requestStatus p 0 h (64 * hWant h) false) ∧ Only [.time, .objects, .health, .link, .recovery] s u)) ∧
    (∀ data, s.forUs p h 2 = true →
      (s.requestStatus p 1 h (64 * hUnits h) true = 0 → ∃ u, exec (.write t p h data) s = .next u ∧
        u = ((s.advance t).store (hB h) (padTo (64 * hUnits h) data)).answer p h 6 0 [] ∧
        u.mem = Memory.writeBytes s.mem (hB h) (padTo (64 * hUnits h) data) ∧ Only [.time, .memory, .objects, .health, .link, .recovery] s u) ∧
      (s.requestStatus p 1 h (64 * hUnits h) true ≠ 0 → ∃ u, exec (.write t p h data) s = .next u ∧
        u = (s.advance t).refuseRequest p h (s.requestStatus p 1 h (64 * hUnits h) true) ∧ Only [.time, .objects, .health, .link, .recovery] s u)) ∧
    (∀ data, s.forUs p h 3 = true →
      (s.requestStatus p 2 h (64 * hUnits h) true = 0 → ∃ u, exec (.writePosted t p h data) s = .next u ∧
        u.mem = Memory.writeBytes s.mem (hB h) (padTo (64 * hUnits h) data) ∧ Only [.time, .memory] s u) ∧
      (s.requestStatus p 2 h (64 * hUnits h) true ≠ 0 → ∃ u, exec (.writePosted t p h data) s = .next u ∧
        u = (s.advance t).refuseRequest p h (s.requestStatus p 2 h (64 * hUnits h) true) ∧ Only [.time, .objects, .health, .link, .recovery] s u)) ∧
    (s.forUs p h 4 = true → s.serves = true → s.filterPasses p 3 h = true → lengthsOk h = true → hA h ≤ 8 → s.readerInForce (hA h) ≠ 1 →
      ∃ u, exec (.pull t p h) s = .next u ∧
        (∀ r, ((s.advance t).expireTail (hA h)).readQueue (hA h) (64 * hWant h) = r →
          u = r.2.2.answer p h 7 r.1 (padTo (roundUp r.2.1.length 64) r.2.1)) ∧
        (u.queue (hA h)).posts = (s.queue (hA h)).posts ∧ ((((s.advance t).expireTail (hA h)).queue (hA h)).closed = [] →
          u.nat (Ob.underruns (hA h)) = (s.nat (Ob.underruns (hA h)) + 1) % 2 ^ 64 ∧ (u.queue (hA h)).prev = (s.queue (hA h)).prev) ∧
        Only [.time, .objects, .health, .queues, .link, .recovery] s u) ∧
    (s.forUs p h 9 = true → s.filterPasses p 4 h = true → ∃ u, exec (.kerbPostMessage t p h) s = .next u ∧
      (s.driving = true → s.evaluating = true → field (hA h) 3 10 = 0 →
        (⟨.remote (hSrc h), hA h % 8⟩ ∈ u.kerb.levels ↔ bitAt (hA h) 13 = true)) ∧
      (s.driving = true → s.evaluating = true → field (hA h) 3 10 ≠ 0 → ∃ q ∈ u.kerb.pulses, q.post = ⟨.remote (hSrc h), hA h % 8⟩) ∧
      (s.evaluating = false → u.kerb = s.kerb) ∧ Only [.time, .objects, .health, .kerb] s u) ∧
    (s.forUs p h 0x10 = true → s.filterPasses p 5 h = true → ∃ u, exec (.echo t p h) s = .next u ∧
      u = ((s.advance t).sendQuiet p ⟨mkHeader (hSrc h) s.ownAddress 0 0 0 0x11 (hTag h) 0 0 0 (hB h), []⟩).1 ∧ Only [.time, .objects, .health, .link, .recovery] s u) ∧
    (exec (.echoReply t h) s = .next (s.advance t)) ∧
    (∀ (data : List Byte) (c : Instr), (c = .readResp t h data ∨ c = .writeAck t h ∨ c = .pullResp t h data ∨ c = .errorResp t h) →
      (∀ r ∈ s.link.requests, r.tag = hTag h → r.answer ≠ none) → ∃ u, exec c s = .next u ∧
        u.nat Ob.lateResponses = (s.nat Ob.lateResponses + 1) % 2 ^ 64 ∧ Logged 0x0906 noUnit s u ∧
        Objects (Ob.lateResponses :: logKeys) s u ∧ Only [.time, .objects, .health] s u) ∧
    (∀ (data : List Byte) (r : LinkRequest) (tr : Transaction),
      s.link.requests.find? (fun r => r.tag == hTag h && r.answer.isNone) = some r →
      s.link.requests.filter (fun q => q.tile == r.tile && q.num == r.num) = [r] →
      (s.tile r.tile).trans.find? (fun x => x.num == r.num) = some tr →
      (∃ u, exec (.readResp t h data) s = .next u ∧ (∀ x ∈ (u.tile r.tile).trans, x.num ≠ r.num) ∧
        (∀ q ∈ u.link.requests, ¬ (q.tile = r.tile ∧ q.num = r.num)) ∧ Only [.time, .memory, .objects, .market, .link] s u) ∧
      (∃ u, exec (.pullResp t h data) s = .next u ∧ (∀ x ∈ (u.tile r.tile).trans, x.num ≠ r.num)) ∧
      (∃ u, exec (.writeAck t h) s = .next u ∧ (∀ x ∈ (u.tile r.tile).trans, x.num ≠ r.num) ∧
        (tr.acc.write = true → u.mem = s.mem) ∧ (∀ q ∈ u.link.requests, ¬ (q.tile = r.tile ∧ q.num = r.num))) ∧
      (∃ u, exec (.errorResp t h) s = .next u ∧ (∀ x ∈ (u.tile r.tile).trans, x.num ≠ r.num) ∧
        u.nat (Ob.transactionErrorCount r.tile) = (s.nat (Ob.transactionErrorCount r.tile) + 1) % 2 ^ 32)) ∧
    (∀ tag : BitVec 12, (∃ r ∈ s.link.requests, r.tag = tag.toNat ∧ r.answer = none ∧
      r.sentAt + 1000 * s.nat Ob.responseTimeout ≤ (s.advance t).time) → ∃ u, exec (.responseTimeout t tag) s = .next u ∧
      u.link.quarantine = s.link.quarantine ++ [(tag.toNat, (s.advance t).time + 2000 * s.nat Ob.responseTimeout)] ∧ u.num Ob.lateResponses = s.num Ob.lateResponses) ∧
    (∀ (tag : BitVec 12) (x : Nat), (tag.toNat, x) ∈ s.link.quarantine → x ≤ (s.advance t).time →
      ∃ u, exec (.tagReuseExpiry t tag) s = .next u ∧ u.link = { s.link with
        quarantine := s.link.quarantine.filter (fun q => decide (q.1 ≠ tag.toNat ∨ (s.advance t).time < q.2)) } ∧ Only [.time, .objects, .market, .link] s u)

/-- An UP port in fabric mode sends device time and the time distance in its timing block, and sums what it receives; a TIME message goes out with
the mean and restarts the sum. A TIME received shows link delay and neighbour offset, with 0x0907 where the offset jumps by more than 100 ns, and
from a host is only counted. The deskew correction moves by at most 250 ps. A written map waits for the swap, which makes both written maps
active, is counted, and is mirrored to flash. It states parts of R270, R288, R296, R297, R300. -/
def Obligations.LinkTimeAndMap : Prop :=
  ∀ (t : Nat) (p : Fin 4) (s : State),
    (s.linkUp p = true → s.hostMode p = false → ∃ u, exec (.timingBlockSend t p) s = .next u ∧
      (s.nat Ob.timeSource ≠ 2 → u.num Ob.timeDistance = 0) ∧ u.nat Ob.timeDistance ≤ 0x3FFFF ∧
      (u.linkPort p).block = some (BitVec.ofNat 56 (put 52 4 2 + put 18 34 u.time + put 0 18 (u.nat Ob.timeDistance))) ∧
      Objects [Ob.timeDistance] s u ∧ Only [.time, .objects, .link] s u) ∧
    (∀ (c : BitVec 52) (ps : Int), s.linkUp p = true → s.hostMode p = false → ∃ u, exec (.timingBlockReceive t p c ps) s = .next u ∧
      (u.linkPort p).count = (s.linkPort p).count + 1 ∧ (u.linkPort p).distance = field c.toNat 0 18 ∧
      (∃ sent : Int, sent % (2 ^ 34 : Nat) = (field c.toNat 18 34 : Nat) ∧ (sent - (u.time : Nat)).natAbs ≤ 2 ^ 33 ∧
        (u.linkPort p).sum = (s.linkPort p).sum + (ps - 1000 * sent - s.num (Ob.deskewCorrection p))) ∧
      Objects [Ob.timeDistance] s u ∧ Only [.time, .objects, .link] s u) ∧
    (s.linkUp p = true → s.hostMode p = false → (s.linkPort p).count ≠ 0 → ∃ u, exec (.timeMessageSend t p) s = .next u ∧
      (u.linkPort p).sum = 0 ∧ (u.linkPort p).count = 0 ∧ (u.linkPort p).mIn = some (meanOf (s.linkPort p).sum (s.linkPort p).count) ∧
      Only [.time, .objects, .link, .recovery] s u) ∧
    (∀ (a : BitVec 32) (b : BitVec 48), s.linkUp p = true →
      (s.hostMode p = true → ∃ u, exec (.time t p a b) s = .next u ∧ u.nat (Ob.linkCounter p 8) = (s.nat (Ob.linkCounter p 8) + 1) % 2 ^ 64 ∧
        Objects [Ob.linkCounter p 8] s u ∧ Only [.time, .objects] s u) ∧
      (∀ m : Int, s.hostMode p = false → (s.linkPort p).mIn = some m → ∃ u, exec (.time t p a b) s = .next u ∧
        u.nat (Ob.linkDelay p) = unsigned 32 ((m + signed 48 b.toNat).tdiv 2) ∧
        u.num (Ob.neighbourOffset p) = (m - signed 48 b.toNat - s.num (Ob.linkAsymmetry p)).tdiv 2 ∧
        (u.linkPort p).offset = some (u.num (Ob.neighbourOffset p)) ∧
        (∀ prev, (s.linkPort p).offset = some prev →
          (100000 < (u.num (Ob.neighbourOffset p) - prev).natAbs → Logged 0x0907 p s u) ∧
          ((u.num (Ob.neighbourOffset p) - prev).natAbs ≤ 100000 → u.health = s.health)) ∧
        Objects ([Ob.linkDelay p, Ob.neighbourOffset p] ++ logKeys) s u ∧ Only [.time, .objects, .health, .link] s u)) ∧
    (∀ ps : Int, s.linkUp p = true → -2147483648 ≤ s.num (Ob.deskewCorrection p) → s.num (Ob.deskewCorrection p) ≤ 2147483647 →
      ∃ u, exec (.linkDeskewCorrection t p ps) s = .next u ∧
        (u.num (Ob.deskewCorrection p) - s.num (Ob.deskewCorrection p)).natAbs ≤ 250 ∧
        (-250 ≤ ps → ps ≤ 250 → (s.num (Ob.deskewCorrection p) + ps).natAbs < 2147483648 →
          u.num (Ob.deskewCorrection p) = s.num (Ob.deskewCorrection p) + ps) ∧
        Objects [Ob.deskewCorrection p] s u ∧ Only [.time, .objects] s u) ∧
    (∀ (m : Master) (loc : Bool) (data : List Byte), Accepted (.streetMapWrite t m loc data) s → ∃ u, exec (.streetMapWrite t m loc data) s = .next u ∧
      u.domBytes (if loc then Ob.localMap else Ob.streetRegionMap) 0 1024 = data ∧ u.link = { s.link with swap := true } ∧
      Only ([.domains, .link] ++ bookParts) s u) ∧
    (s.link.swap = true → ∃ u, exec (.streetMapSwap t) s = .next u ∧ u.nat Ob.mapSwaps = (s.nat Ob.mapSwaps + 1) % 2 ^ 32 ∧
      u.link = { s.link with region := some (s.domBytes Ob.streetRegionMap 0 1024), local_ := some (s.domBytes Ob.localMap 0 1024),
                             swap := false, mirrorDue := true } ∧ Objects [Ob.mapSwaps] s u ∧ Only [.time, .objects, .link] s u) ∧
    (∀ r l, s.link.mirrorDue = true → s.link.region = some r → s.link.local_ = some l → ∃ u, exec (.mapFlashMirror t) s = .next u ∧
      u.link = { s.link with mirror := some (r, l), mirrorDue := false } ∧ Only [.time, .link] s u)

/-! ## Queues, provocation, DRAM -/

/-- A queue's open batch closes first where its Tail Timeout has passed. A post whose record fits then enters its queue: the next sequence number
modulo 65,536, one record posted, Fill raised by the record, the queue not full. One that does not fit a full queue under HOLD waits, with 0x0A02
at the entry into the full condition; under DROP_OLDEST, and in queue 8, it enters. A write that bandwidth does not take is discarded with its
number in queue 8, waits under HOLD, and enters under DROP_OLDEST. A record is a multiple of 64 bytes. An open batch closes when its Tail Timeout
has passed; a queue full for Stall Notice Time raises 0x0A03 once. A provocation unit that is not enabled lets items pass; an enabled one drops,
corrupts, or holds back the items its trigger selects and counts each action. A DRAM error is counted, an uncorrectable one raises 0x0A07, and
loses the late sample it hits. An uncorrectable error dooms the track it hits, loses the late sample it hits, brings the street map back from its
mirror, or clears Coefficients Stored. It states parts of R308, R309, R310, R311, R316, R318, R319, R320, R321, R322. -/
def Obligations.QueuesAct : Prop :=
  (∀ (q seq : Nat) (crc : Bool) (p : ResultPost), (recordBytes q seq crc p).length % 64 = 0) ∧
  (∀ (t : Nat) (q : Fin 9) (s : State),
    (∀ p ps bs e, s.fenced = false → (s.queue q).posts = p :: ps → recordBytes q (s.queue q).seq (s.on (Ob.resultCrcEnable q)) p = bs →
      ((s.advance t).expireTail q).queue q = e →
      (e.readOff ≤ sumNat (e.closed.map Batch.size) → e.fillBytes + bs.length ≤ s.queueBytes q →
        ∃ u, exec (.resultRecordEntry t ⟨q, true⟩) s = .next u ∧ (u.queue q).posts = ps ∧ (u.queue q).seq = ((s.queue q).seq + 1) % 65536 ∧
          u.nat (Ob.nextSequence q) = ((s.queue q).seq + 1) % 65536 ∧ u.nat (Ob.recordsPosted q) = (s.nat (Ob.recordsPosted q) + 1) % 2 ^ 64 ∧
          (u.queue q).fillBytes = e.fillBytes + bs.length ∧ (u.queue q).fullAt = none ∧
          (∀ j : Nat, j ≠ q → u.queue j = s.queue j) ∧ Objects [Ob.holdTime q, Ob.nextSequence q, Ob.recordsPosted q] s u ∧
          Only [.time, .objects, .queues] s u) ∧
      (∀ taken, taken = false ∨ s.queueBytes q < e.fillBytes + bs.length → s.nat (Ob.overflowPolicy q) = 0 → q.val ≠ 8 →
        ((s.queue q).fullAt = none → ∃ u, exec (.resultRecordEntry t ⟨q, taken⟩) s = .next u ∧ (u.queue q).posts = p :: ps ∧
          (u.queue q).fullAt = some u.time ∧ (u.queue q).fillBytes = e.fillBytes ∧ Logged 0x0A02 q s u ∧ Objects logKeys s u ∧
          Only [.time, .objects, .health, .queues] s u) ∧
        ((s.queue q).fullAt ≠ none → exec (.resultRecordEntry t ⟨q, taken⟩) s = .next ((s.advance t).expireTail q))) ∧
      (q.val = 8 → ∃ u, exec (.resultRecordEntry t ⟨q, false⟩) s = .next u ∧ (u.queue q).posts = ps ∧
        (u.queue q).seq = ((s.queue q).seq + 1) % 65536 ∧ (u.queue q).open_ = e.open_ ∧ (u.queue q).closed = e.closed ∧
        u.nat (Ob.recordsDiscarded q) = (s.nat (Ob.recordsDiscarded q) + 1) % 2 ^ 64 ∧
        Objects ([Ob.nextSequence q, Ob.recordsDiscarded q] ++ logKeys) s u ∧ Only [.time, .objects, .health, .queues] s u) ∧
      (∀ taken, taken = false ∧ q.val ≠ 8 ∨ taken = true ∧ s.queueBytes q < e.fillBytes + bs.length →
        s.nat (Ob.overflowPolicy q) ≠ 0 ∨ q.val = 8 →
        ∃ u, exec (.resultRecordEntry t ⟨q, taken⟩) s = .next u ∧ (u.queue q).posts = ps ∧ (u.queue q).seq = ((s.queue q).seq + 1) % 65536 ∧
          u.nat (Ob.recordsPosted q) = (s.nat (Ob.recordsPosted q) + 1) % 2 ^ 64 ∧ Only [.time, .objects, .health, .queues] s u)) ∧
    (∀ b, (s.queue q).open_ = some b → b.openedAt + 1000 * b.tail ≤ max s.time t →
      ∃ u, exec (.batchTailTimeout t q) s = .next u ∧ (u.queue q).open_ = none ∧ (u.queue q).closed = (s.queue q).closed ++ [b] ∧
        (∀ j : Nat, j ≠ q → u.queue j = s.queue j) ∧ Only [.time, .queues] s u) ∧
    (∀ t0, (s.queue q).fullAt = some t0 → (s.queue q).stallNoted = false → s.stillFull q = true → t0 + 1000000 * s.nat (Ob.stallNoticeTime q) ≤ max s.time t →
      ∃ u, exec (.queueStallNotice t q) s = .next u ∧ (u.queue q).stallNoted = true ∧ Logged 0x0A03 q s u ∧ Objects logKeys s u ∧
        Only [.time, .objects, .health, .queues] s u)) ∧
  (∀ (t : Nat) (i : Fin 8) (item : ProvItem) (s : State),
    ((s.prov i).held = [] → s.num (Ob.provocationEnable i) = 0 →
      ∃ u, exec (.provocationItem t i item) s = .next u ∧ u.prov i = { s.prov i with released := [item] } ∧ Only [.time, .queues] s u) ∧
    ((s.prov i).held = [] → s.num (Ob.provocationEnable i) = 1 → i.val < 4 ∨ bitAt (s.nat (Ob.classMask i)) item.cls = true →
      ∃ u, exec (.provocationItem t i item) s = .next u ∧ (u.prov i).ordinal = (s.prov i).ordinal + 1 ∧ Only [.time, .objects, .queues] s u ∧
        (s.provSelects i = false → (u.prov i).released = [item] ∧ (u.prov i).held = []) ∧
        (s.provSelects i = true → item.bytes.length ≤ 65536 →
          u.nat (Ob.actionsTaken i) = (s.nat (Ob.actionsTaken i) + 1) % 2 ^ 64 ∧
          (s.nat (Ob.action i) = 0 → (u.prov i).released = [] ∧ (u.prov i).held = []) ∧
          (s.nat (Ob.action i) = 1 → (u.prov i).held = [] ∧
            (u.prov i).released = [corruptItem (s.nat (Ob.corruptMask i)) (s.nat (Ob.patternOffset i)) item]) ∧
          (s.nat (Ob.action i) = 2 → (u.prov i).released = [] ∧ (u.prov i).held = [⟨item, 1, true, (s.advance t).time⟩]) ∧
          (s.nat (Ob.action i) = 3 → (u.prov i).released = [] ∧ (u.prov i).held = [⟨item, s.nat (Ob.delay i), false, (s.advance t).time⟩]))) ∧
    (∀ h : HeldItem, h.swap = true → h.since + 10000 ≤ (s.advance t).time → (s.prov i).held = [h] →
      ∃ u, exec (.provocationSwapTimeout t i) s = .next u ∧
      u.prov i = { s.prov i with held := [], released := [h.item] } ∧ Only [.time, .queues] s u)) ∧
  (∀ (t : Nat) (s : State),
    (∀ w k, (w = .link ∧ k = 4 ∨ w ≠ .link ∧ k = 2) → ∃ u, exec (.dramScrub t ⟨w, .single⟩) s = .next u ∧
      u.nat (Ob.integrityCounter k) = (s.nat (Ob.integrityCounter k) + 1) % 2 ^ 64 ∧
      Objects (Ob.integrityCounter k :: logKeys) s u ∧ Only [.time, .objects, .health] s u) ∧
    (∀ w, (w = .link ∨ ∃ a, w = .at_ a) → ∃ u, exec (.dramScrub t ⟨w, .double⟩) s = .next u ∧
      u.nat (Ob.integrityCounter 3) = (s.nat (Ob.integrityCounter 3) + 1) % 2 ^ 64 ∧ Logged 0x0A07 noUnit s u ∧
      (w = .link → u.mem = s.mem) ∧ Objects (Ob.integrityCounter 3 :: logKeys) s u ∧ Only [.time, .memory, .objects, .health] s u) ∧
    (∀ i c, i < s.square.late.length → (c = .dramScrub t ⟨.late i, .double⟩ ∨ c = .sramScrub t .lateQueue i .double) →
      ∃ u, exec c s = .next u ∧ u.square = { s.square with late := dropNth s.square.late i } ∧
        u.nat Ob.lateQueueFill = s.square.late.length - 1) ∧
    (∀ i, ∃ u, exec (.sramScrub t .tracks i .double) s = .next u ∧ i ∈ u.square.doomed ∧
      u.nat (Ob.integrityCounter 6) = (s.nat (Ob.integrityCounter 6) + 1) % 2 ^ 64 ∧
      Objects [Ob.integrityCounter 6] s u ∧ Only [.time, .objects, .square] s u) ∧
    (∀ r l i, s.link.mirror = some (r, l) → ∃ u, exec (.sramScrub t .streetMap i .double) s = .next u ∧
      u.link.region = some r ∧ u.link.local_ = some l ∧ Logged 0x0A0A noUnit s u ∧
      Objects (Ob.integrityCounter 8 :: logKeys) s u ∧ Only [.time, .objects, .domains, .health, .link] s u) ∧
    (∀ p : Fin 4, ∃ u, exec (.sramScrub t .coefficients p .double) s = .next u ∧ u.num (Ob.coefficientsStored p) = 0 ∧
      (u.linkPort p).full = true ∧ Logged 0x0A0A noUnit s u ∧
      Objects ([Ob.coefficientsStored p, Ob.integrityCounter 8] ++ logKeys) s u ∧ Only [.time, .objects, .health, .link] s u))

/-! ## Standard objects and diagnostics -/

/-- Store Parameters, and PARAMETER_MIRROR_WRITE from 1 s after the last write of a burst on, write the persistent objects that no loop writes,
with the host's own values of those that loops write, into the flash mirror. Restore Default Parameters leaves a mark for the next start and an
audit entry. A write of Number of Errors clears the Standard Error Field and keeps the status log; Status Acknowledge sets Faults Pending to 0;
Ledger Clear erases the ledgers in flash. A built-in test runs on listed tiles that belong to no context, with Test State 1; its end writes Test
State 2 where no tile failed and 3 where one did, and Test Duration. Every other part stays. It states parts of R344, R358. -/
def Obligations.StandardObjectsAct : Prop :=
  ∀ (t v : Nat) (m : Master) (s : State),
    (Accepted (.storeParameters t m v) s → ∃ u, exec (.storeParameters t m v) s = .next u ∧
      u.flash.nums = SMap.overlay (SMap.keep (fun k => persistentKey k && !loopKey k) s.objs) s.flash.hostNums ∧
      u.flash.doms = SMap.overlay (SMap.keep (fun k => persistentKey k && !loopKey k) s.doms) s.flash.hostDoms ∧ Only bookParts s u) ∧
    (∀ a, s.flash.due = some a → a + 1000000000 ≤ (s.advance t).time → ∃ u, exec (.parameterMirrorWrite t) s = .next u ∧ u.flash.due = none ∧
      u.flash.nums = SMap.overlay (SMap.keep (fun k => persistentKey k && !loopKey k) s.objs) s.flash.hostNums ∧
      u.flash.doms = SMap.overlay (SMap.keep (fun k => persistentKey k && !loopKey k) s.doms) s.flash.hostDoms ∧ Only [.time, .flash] s u) ∧
    ((∀ a, s.flash.due = some a → (s.advance t).time < a + 1000000000) → exec (.parameterMirrorWrite t) s = .next (s.advance t)) ∧
    (Accepted (.restoreDefaultParameters t m v) s → ∃ u, exec (.restoreDefaultParameters t m v) s = .next u ∧ u.flash.restore = true ∧
      (∃ e, u.sec.audit = (e :: s.sec.audit).take 4096 ∧ e.kind = 15 ∧ e.port = m.code ∧ e.role = s.roleOf m ∧ e.stamp = u.time) ∧
      Only ([.objects, .health] ++ bookParts) s u) ∧
    (Accepted (.numberOfErrorsClear t m v) s → ∃ u, exec (.numberOfErrorsClear t m v) s = .next u ∧ u.health.stdErrors = [] ∧
      u.health.log = s.health.log ∧ Only (.health :: bookParts) s u) ∧
    (Accepted (.statusAcknowledge t m v) s → ∃ u, exec (.statusAcknowledge t m v) s = .next u ∧ u.num Ob.faultsPending = 0 ∧
      Objects [Ob.faultsPending] s u ∧ Only (.objects :: bookParts) s u) ∧
    (Accepted (.ledgerClear t m v) s → ∃ u, exec (.ledgerClear t m v) s = .next u ∧ u.recov.ledgers = [] ∧ u.num Ob.ledgersStored = 0 ∧
      Objects [Ob.ledgersStored] s u ∧ Only ([.objects, .recovery] ++ bookParts) s u) ∧
    (Accepted (.builtInTest t m v) s → ∃ u j, exec (.builtInTest t m v) s = .next u ∧ u.loader.test = some j ∧ j.kind = v % 256 ∧
      (∀ x, x ∈ j.tiles ↔ x < 64 ∧ bitAt (s.nat Ob.testTiles) x = true ∧ s.tileCtx x = 0xFF) ∧ u.num Ob.testState = 1 ∧
      Objects [Ob.testState] s u ∧ Only ([.objects, .loader] ++ bookParts) s u) ∧
    (∀ results ms j, s.loader.test = some j → ∃ u, exec (.builtInTestDone t results ms) s = .next u ∧ u.loader.test = none ∧
      ((∃ r ∈ results, r.1 ∈ j.tiles) → u.num Ob.testState = 3) ∧ ((∀ r ∈ results, r.1 ∉ j.tiles) → u.num Ob.testState = 2) ∧
      u.nat Ob.testDuration = ms % 2 ^ 32 ∧ Objects [Ob.testState, Ob.testDuration] s u ∧ Only [.time, .objects, .domains, .loader] s u)

/-! ## EtherCAT -/

/-- A refused EtherCAT state request leaves the state and sets an AL status code; Bootstrap is refused outside STANDBY and HALTED, and a SYNC0
cycle below 31,250 ns refuses SAFEOP from PREOP with 0x0030. One that is not refused enters the state: SAFEOP from PREOP brings its SYNC0 cycle
into force, a state below SAFEOP ends it, leaving OP is remembered for the loss of field. A SYNC0 event in SAFEOP latches the TxPDO from the
mapped objects and the result windows; in OP the RxPDO received is taken first, and one whose entries all equal their previous values requests
nothing. It states parts of R335, R336. -/
def Obligations.FieldBusActs : Prop :=
  ∀ (t st ns : Nat) (s : State), s.power.lodge = true →
    (s.alCode st ns ≠ 0 → ∃ u, exec (.ethercatStateRequest t st ns) s = .next u ∧ u.ctrl = { s.ctrl with alStatus := s.alCode st ns } ∧
      Only [.time, .control] s u) ∧
    (s.alCode st ns = 0 → st ≠ s.nat Ob.ethercatState → ∃ u, exec (.ethercatStateRequest t st ns) s = .next u ∧
      u.nat Ob.ethercatState = st ∧ u.ctrl.alStatus = 0 ∧
      (st = 4 → s.nat Ob.ethercatState = 2 → u.ctrl.sync0 = ns ∧ u.nat Ob.inputCycleTime = ns ∧ u.nat Ob.outputCycleTime = ns ∧
        ∀ q, q < 9 → nth 0 u.ctrl.windows q = s.nat (Ob.pdoWindow q)) ∧
      (st < 4 → u.ctrl.sync0 = 0) ∧ (st = 8 → u.ctrl.leftOp = false) ∧ (st ≠ 8 → s.nat Ob.ethercatState = 8 → u.ctrl.leftOp = true) ∧
      Objects [Ob.ethercatState, Ob.inputCycleTime, Ob.outputCycleTime] s u ∧ Only [.time, .objects, .control] s u) ∧
    (st ≠ s.nat Ob.ethercatState →
      (st = 3 → s.dev ≠ 2 → s.dev ≠ 7 → s.alCode st ns ≠ 0) ∧
      (st = 4 → s.nat Ob.ethercatState = 2 → ns < 31250 → s.alCode st ns = 0x0030)) ∧
    (s.nat Ob.ethercatState = 4 → ∃ u, exec (.sync0Event t) s = .next u ∧
      u.ctrl.txLatch = ((s.advance t).readWindows.2.mapped false).flatMap ((s.advance t).readWindows.2.txEntry (s.advance t).readWindows.1) ∧
      Only [.time, .objects, .control, .queues] s u) ∧
    (∀ rx, s.nat Ob.ethercatState = 8 → s.ctrl.rxFrame = some rx →
      (∀ x ∈ rxPlaces (s.mapped true) 0 0, ofLeBytes (bytesAt rx x.2.2 (x.2.1 % 256 / 8)) = s.ctrl.rxPrev.get 0 x.1) →
      ∃ u, exec (.sync0Event t) s = .next u ∧ u.ctrl.rxFrame = none ∧ u.ctrl.rxPrev = s.ctrl.rxPrev ∧
        Only [.time, .objects, .control, .queues] s u)

/-! ## Security -/

/-- A read of Session Challenge gives the port a fresh challenge of 32 bytes with its stamp, and none while it is locked or the generator has
failed. A right Session Response gives the port's session the role asked for, spends the challenge and writes an audit entry; a wrong one leaves
the role, and is counted, noticed and logged. Session Close ends the session; Session Timeout without a request does, with 0x0C03. An entry of the
audit log stands in front of the others, of which 4,096 are kept. It states parts of R409, R410. -/
def Obligations.SessionsAct : Prop :=
  ∀ (t : Nat) (m : Master) (s : State),
    (∀ row, objAt Ob.sessionChallenge = some row → (s.advance t).reaches m = true → s.needRole false Ob.sessionChallenge row ≤ s.roleOf m →
      ((s.advance t).challengeLocked m = false → s.num Ob.trngHealth = 0 →
        ∃ u bs, exec (.sessionChallenge t m) s = .next u ∧ (u.session m).challenge = some (u.time, bs) ∧ bs.length = 32 ∧
          u.sec.draws = s.sec.draws + 1 ∧ u.roleOf m = s.roleOf m ∧ Only [.time, .security] s u) ∧
      ((s.advance t).challengeLocked m = true ∨ s.num Ob.trngHealth = 1 →
        ∃ u, exec (.sessionChallenge t m) s = .next u ∧ (u.session m).challenge = none ∧ u.sec.draws = s.sec.draws ∧
          u.roleOf m = s.roleOf m ∧ Only [.time, .security] s u)) ∧
    (∀ data, Accepted (.sessionResponse t m data) s → ∃ u, exec (.sessionResponse t m data) s = .next u ∧
      (u.session m).role = leAt data 0 1 ∧ (u.session m).challenge = none ∧ (u.session m).failures = 0 ∧
      (∃ e, u.sec.audit = (e :: s.sec.audit).take 4096 ∧ e.kind = 1 ∧ e.port = sessionPort m ∧ e.role = leAt data 0 1 ∧ e.stamp = u.time) ∧
      Only ([.objects, .health] ++ bookParts) s u) ∧
    (∀ data r, requestOf (.sessionResponse t m data) = some r → r.Ignored s 3 → ∃ u, exec (.sessionResponse t m data) s = .next u ∧
      (u.session m).role = (s.session m).role ∧ (u.session m).failures = (s.session m).failures + 1 ∧ (u.session m).failedAt = u.time ∧
      u.nat Ob.failedResponses = (s.nat Ob.failedResponses + 1) % 2 ^ 32 ∧ u.nat Ob.ignoredCount = (s.nat Ob.ignoredCount + 1) % 2 ^ 32 ∧
      (s.sec.audited % 4096 ≠ 0 → Logged 0x0C02 noUnit s u) ∧
      (∃ e, u.sec.audit = (e :: s.sec.audit).take 4096 ∧ e.kind = 2 ∧ e.port = sessionPort m ∧ e.role = s.roleOf m) ∧
      Only [.time, .objects, .health, .security] s u) ∧
    (∀ v, Accepted (.sessionClose t m v) s → ∃ u, exec (.sessionClose t m v) s = .next u ∧ (u.session m).role = 0 ∧
      ((s.session m).role ≠ 0 → ∃ e, u.sec.audit = (e :: s.sec.audit).take 4096 ∧ e.kind = 3 ∧ e.role = (s.session m).role) ∧
      Only ([.objects, .health] ++ bookParts) s u) ∧
    ((s.session m).role ≠ 0 → s.nat Ob.sessionTimeout ≠ 0 →
      ((s.session m).lastRequest + s.nat Ob.sessionTimeout * 1000000000 ≤ max s.time t →
        ∃ u, exec (.sessionTimeout t m) s = .next u ∧ (u.session m).role = 0 ∧ (s.sec.audited % 4096 ≠ 0 → Logged 0x0C03 noUnit s u) ∧
          Only [.time, .objects, .health, .security] s u) ∧
      (max s.time t < (s.session m).lastRequest + s.nat Ob.sessionTimeout * 1000000000 →
        exec (.sessionTimeout t m) s = .next (s.advance t)))

/-- An applied write of the Access Rights Table, the DRAM Firewall or the Port Filters stores its bytes, writes an audit entry of its kind and
raises 0x0C04; one of the Package Keys stores its bytes and writes its audit entry, with no notice. A Role Key changed ends another port's session
with its role. Debug Lock takes its value; a debug read with the lock set gives 0x0C08. The certified configuration is entered with every
Provocation Enable 0, and left. A failed health test sets TRNG Health and raises 0x0C06, a retest that passes clears it. A firmware image that
verifies goes into the slot that is not running; any other leaves the device as it is. The audit log is copied to flash. It states parts of R401, R404,
R415, R416, R417. -/
def Obligations.ProtectionActs : Prop :=
  ∀ (t v : Nat) (m : Master) (data : List Byte) (s : State),
    (∀ c k kind, (c, k, kind) ∈ [(Instr.accessRightsWrite t m data, Ob.accessRightsTable, 4), (.dramFirewallWrite t m data, Ob.dramFirewall, 5),
        (.portFiltersWrite t m data, Ob.portFilters, 6)] → Accepted c s →
      ∃ u, exec c s = .next u ∧ u.doms.find? k = some data ∧ (∀ j, j ≠ k → u.doms.find? j = s.doms.find? j) ∧
        (∃ e, u.sec.audit = (e :: s.sec.audit).take 4096 ∧ e.kind = kind ∧ e.port = m.code ∧ e.index = k / 256 ∧ e.sub = k % 256) ∧
        (s.sec.audited % 4096 ≠ 0 → Logged 0x0C04 noUnit s u) ∧ Only ([.objects, .domains, .health] ++ bookParts) s u) ∧
    (Accepted (.packageKeysWrite t m data) s → ∃ u, exec (.packageKeysWrite t m data) s = .next u ∧
      u.doms.find? Ob.packageKeys = some data ∧ (∀ j, j ≠ Ob.packageKeys → u.doms.find? j = s.doms.find? j) ∧
      (∃ e, u.sec.audit = (e :: s.sec.audit).take 4096 ∧ e.kind = 9 ∧ e.port = m.code ∧ e.index = 0x2D06 ∧ e.sub = 0) ∧
      Only ([.objects, .domains, .health] ++ bookParts) s u) ∧
    (∀ which : Fin 4, Accepted (.roleKeyWrite t m which data) s → ∃ u, exec (.roleKeyWrite t m which data) s = .next u ∧
      u.doms.find? (Ob.roleKey which) = some data ∧ (u.session m).role = (s.session m).role ∧
      (∀ o, sessionPort o ≠ sessionPort m → s.domBytes (Ob.roleKey which) 0 32 ≠ data → (s.session o).role = 4 - which → (u.session o).role = 0) ∧
      (∀ o, sessionPort o ≠ sessionPort m → (s.session o).role ≠ 4 - which → (u.session o).role = (s.session o).role) ∧
      Only ([.objects, .domains, .health] ++ bookParts) s u) ∧
    (Accepted (.debugLockWrite t m v) s → ∃ u, exec (.debugLockWrite t m v) s = .next u ∧ u.nat Ob.debugLock = v % 256 ∧
      (∃ e, u.sec.audit = (e :: s.sec.audit).take 4096 ∧ e.kind = 7) ∧ Only ([.objects, .health] ++ bookParts) s u) ∧
    (∀ row, objAt Ob.debugReadData = some row → (s.advance t).reaches m = true → s.needRole false Ob.debugReadData row ≤ s.roleOf m →
      s.dieUp = true →
      (s.nat Ob.debugLock ≠ 0 → ∃ u, exec (.debugReadData t m) s = .next u ∧ Logged 0x0C08 noUnit s u ∧ Objects logKeys s u ∧
        Only [.time, .objects, .health, .security] s u) ∧
      (s.nat Ob.debugLock = 0 → targetOf (s.nat Ob.debugReadAddress) = .dram → s.fwGrants false 12 (s.nat Ob.debugReadAddress) 64 = true →
        s.readDebug.1 = Memory.readBytes s.mem (s.nat Ob.debugReadAddress) 64 ∧
        ∃ u, exec (.debugReadData t m) s = .next u ∧ Only [.time, .security] s u)) ∧
    (Accepted (.certifiedEnter t m) s → ∃ u, exec (.certifiedEnter t m) s = .next u ∧ u.num Ob.certifiedConfiguration = 1 ∧
      (∀ i, i < 8 → u.num (Ob.provocationEnable i) = 0 ∧ (u.prov i).held = []) ∧
      (∃ e, u.sec.audit = (e :: s.sec.audit).take 4096 ∧ e.kind = 10) ∧ Only ([.objects, .health, .queues] ++ bookParts) s u) ∧
    (Accepted (.certifiedLeave t m) s → ∃ u, exec (.certifiedLeave t m) s = .next u ∧ u.num Ob.certifiedConfiguration = 0 ∧
      (∃ e, u.sec.audit = (e :: s.sec.audit).take 4096 ∧ e.kind = 11) ∧ Only ([.objects, .health] ++ bookParts) s u) ∧
    (∃ u, exec (.trngTestFail t) s = .next u ∧ u.num Ob.trngHealth = 1 ∧ Logged 0x0C06 noUnit s u ∧ Objects (Ob.trngHealth :: logKeys) s u ∧
      Only [.time, .objects, .health] s u) ∧
    (s.num Ob.trngHealth = 1 → (∃ u, exec (.trngRetest t true) s = .next u ∧ u.num Ob.trngHealth = 0 ∧ Objects [Ob.trngHealth] s u ∧
      Only [.time, .objects] s u) ∧ exec (.trngRetest t false) s = .next (s.advance t)) ∧
    (∀ image : Firmware,
      (s.nat Ob.ethercatState = 3 → s.sec.mailbox.role = 4 → image.signatureOk = true → s.sec.fusedMin ≤ image.version →
        ∃ u, exec (.firmwareFoeWrite t image) s = .next u ∧
          (s.sec.running = .primary → u.sec.fallback = some image ∧ u.sec.primary = s.sec.primary ∧ u.sec.stored = true) ∧
          (s.sec.running = .fallback → u.sec.primary = some image ∧ u.sec.fallback = s.sec.fallback) ∧
          Only [.time, .objects, .health, .security] s u) ∧
      (s.nat Ob.ethercatState ≠ 3 ∨ s.sec.mailbox.role ≠ 4 ∨ image.signatureOk = false ∨ image.version < s.sec.fusedMin →
        exec (.firmwareFoeWrite t image) s = .next (s.advance t))) ∧
    (∃ u, exec (.auditLogFlashMirror t) s = .next u ∧ u.flash.audit = s.sec.audit ∧ u.flash.audited = s.sec.audited ∧
      Only [.time, .flash] s u)

/-! ## Packages -/

/-- A package that arrives over FoE into a slot marked as written is stored; its slot reads verified (1) where its signature holds by a key that
stands and rejected (2) where not; one outside the mailbox's states changes nothing, one that is refused (role, slot being read, length) notes its
FoE error and leaves every slot. ERASE empties a slot. LOAD of an empty slot or one being written is rejected with 0x0E0D, of a rejected one with
0x0E01; any other begins. A load that fails its envelope, its content or its placement is rejected with that code, shown in Package Status, and
leaves every context; a full package that fits brings its context to LOADED on the rectangle found, with empty queue and Load Progress 100. COMMIT
of a full package waits for its boundary, where the Load Context is started and the Commit Target is due to be unloaded; the target goes once its
queue holds no unread closed bytes. It states parts of R357, R421, R422, R423, R424, R427, R430. -/
def Obligations.PackagesAct : Prop :=
  ∀ (t : Nat) (m : Master) (s : State),
    (∀ (slot : Fin 8) (p : Package), s.mayWritePackage = true → 3 ≤ s.sec.mailbox.role → s.loadReads slot = false → slot.val ∈ s.loader.writing → p.bytes ≤ 201326592 →
      ∃ u, exec (.packageFoeWrite t slot (.finish p)) s = .next u ∧ u.loader.slots.find? slot = some p ∧ slot.val ∉ u.loader.writing ∧
        (p.signatureOk = true → s.keyEmpty p.signerKey = false → u.nat (Ob.slotState slot) = 1 ∧ u.verifies slot p = true) ∧
        (p.signatureOk = false ∨ s.keyEmpty p.signerKey = true → u.nat (Ob.slotState slot) = 2 ∧ u.verifies slot p = false) ∧
        u.ctrl.foeError = 0 ∧ Only [.time, .objects, .domains, .control, .loader] s u) ∧
    (∀ slot : Fin 8, s.mayWritePackage = true → 3 ≤ s.sec.mailbox.role → s.loadReads slot = false → slot.val ∉ s.loader.writing →
      ∃ u, exec (.packageFoeWrite t slot .begin) s = .next u ∧ u.loader.writing = slot.val :: s.loader.writing ∧ u.nat (Ob.slotState slot) = 3 ∧
        u.loader.slots = s.loader.slots ∧ Only [.time, .objects, .domains, .control, .loader] s u) ∧
    (∀ (slot : Fin 8) ph, s.mayWritePackage = false → exec (.packageFoeWrite t slot ph) s = .next (s.advance t)) ∧
    (∀ (slot : Fin 8) ph, s.mayWritePackage = true → s.foeRefuses slot ph ≠ 0 → ∃ u, exec (.packageFoeWrite t slot ph) s = .next u ∧
      u.ctrl = { s.ctrl with foeError := s.foeRefuses slot ph } ∧ u.loader.slots = s.loader.slots ∧ u.loader.keys = s.loader.keys ∧
      Only [.time, .objects, .domains, .control, .loader] s u) ∧
    (Accepted (.erase t m) s → ∃ u, exec (.erase t m) s = .next u ∧ u.loader.slots.find? (s.nat Ob.loadSlot) = none ∧
      (s.nat Ob.loadSlot ∉ s.loader.writing → u.nat (Ob.slotState (s.nat Ob.loadSlot)) = 0) ∧
      (∀ j, j ≠ s.nat Ob.loadSlot → u.loader.slots.find? j = s.loader.slots.find? j) ∧ Only ([.objects, .domains, .loader] ++ bookParts) s u) ∧
    (Accepted (.load t m) s → ∃ u, exec (.load t m) s = .next u ∧ Only ([.objects, .domains, .health, .loader] ++ bookParts) s u ∧
      (s.nat (Ob.slotState (s.nat Ob.loadSlot)) = 0 ∨ s.nat (Ob.slotState (s.nat Ob.loadSlot)) = 3 →
        u.loader.load = none ∧ u.nat Ob.packageStatus = 0x0E0D ∧ Logged 0x0E0D (s.nat Ob.loadContext) s u) ∧
      (s.nat (Ob.slotState (s.nat Ob.loadSlot)) = 2 →
        u.loader.load = none ∧ u.nat Ob.packageStatus = 0x0E01 ∧ Logged 0x0E01 (s.nat Ob.loadContext) s u) ∧
      (s.nat (Ob.slotState (s.nat Ob.loadSlot)) = 1 →
        u.loader.load = some (s.nat Ob.loadSlot, s.nat Ob.loadContext) ∧ u.nat Ob.loadProgress = 0)) ∧
    (∀ slot n pkg, n < 8 → s.loader.load = some (slot, n) → s.loader.slots.find? slot = some pkg →
      (∀ code, s.envelopeFails slot n pkg = some code →
        ∃ u, exec (.loadComplete t) s = .next u ∧ u.loader.load = none ∧ u.nat Ob.packageStatus = code ∧ Logged code n s u ∧
          Only [.time, .objects, .domains, .health, .loader] s u) ∧
      (s.envelopeFails slot n pkg = none → s.contentPasses pkg n = false →
        ∃ u, exec (.loadComplete t) s = .next u ∧ u.loader.load = none ∧ u.nat Ob.packageStatus = 0x0E03 ∧ Logged 0x0E03 n s u ∧
          Only [.time, .objects, .domains, .health, .loader] s u) ∧
      (s.envelopeFails slot n pkg = none → s.contentPasses pkg n = true → pkg.weightOnly = true →
        ∃ u, exec (.loadComplete t) s = .next u ∧ u.loader.load = none ∧ (u.ctx n).staged = some pkg ∧ u.nat Ob.loadProgress = 100 ∧
          u.ctxState n = s.ctxState n ∧ Only [.time, .objects, .domains, .health, .market, .security, .loader] s u) ∧
      (s.envelopeFails slot n pkg = none → s.contentPasses pkg n = true → pkg.weightOnly = false →
        (∀ e, s.place? pkg pkg.placements 0 = .error e → ∃ u, exec (.loadComplete t) s = .next u ∧ u.loader.load = none ∧
          u.nat Ob.packageStatus = e.1 ∧ (emptyNotices pkg = [] → Logged e.1 n s u) ∧ Only [.time, .objects, .domains, .health, .loader] s u) ∧
        (∀ k p f, s.place? pkg pkg.placements 0 = .ok (k, p, f) → ∃ u, exec (.loadComplete t) s = .next u ∧ u.loader.load = none ∧
          u.ctxState n = 1 ∧ u.nat Ob.loadProgress = 100 ∧ u.nat Ob.placementUsed = k ∧ u.queue n = ResultQueue.init ∧
          (u.ctx n).origin = f.origin ∧ (u.ctx n).w = p.w ∧ (u.ctx n).h = p.h ∧ (u.ctx n).slot = slot ∧
          (∀ x ∈ rectTiles f.origin p.w p.h, u.tileCtx x = n) ∧ (∀ j, j < 8 → j ≠ n → u.ctxState j = s.ctxState j)))) ∧
    (Accepted (.commit t m) s → ∃ u, exec (.commit t m) s = .next u ∧
      ((s.ctx (s.nat Ob.loadContext)).staged = none → u.loader.commit = some (s.nat Ob.loadContext, s.nat Ob.commitTarget) ∧
        u.nat Ob.commitPending = 1 ∧ Objects [Ob.commitPending] s u ∧ Only ([.objects, .loader] ++ bookParts) s u) ∧
      ((s.ctx (s.nat Ob.loadContext)).staged ≠ none → s.ctxState (s.nat Ob.loadContext) = 2 →
        (u.ctx (s.nat Ob.loadContext)).swapAccepted = true ∧ u.nat Ob.commitPending = 2 ∧ Objects [Ob.commitPending] s u ∧
        Only ([.objects, .market] ++ bookParts) s u)) ∧
    (∀ n target, n < 8 → target < 8 → target ≠ n → s.loader.commit = some (n, target) → s.ctxState n = 1 →
      s.commitBoundary.ctxState n = 2 ∧ s.commitBoundary.loader.commit = none ∧ s.commitBoundary.nat Ob.commitPending = 0 ∧
      (s.ctxState target = 2 ∨ s.ctxState target = 3 → s.commitBoundary.ctxState target = 1) ∧
      s.commitBoundary.loader.unloading = s.loader.unloading ++ [(target, s.time)]) ∧
    (∀ n at_, n < 8 → s.loader.unloading = [(n, at_)] → (s.queue n).closedBytes = 0 ∨ at_ + 100000000 ≤ max s.time t →
      ∃ u, exec (.commitTargetUnload t) s = .next u ∧ u.ctxState n = 0 ∧ u.loader.unloading = [] ∧ u.queue n = ResultQueue.init)

/-! ## Hangs -/

/-- While tallies are checked, a sample sets a unit's stall time to 0 where its tally has moved or it has no pending work, keeps it in an exempt
microsecond, and raises it by one otherwise; a stall that runs keeps the window it began with. When a stall time has reached its window the device
is FENCED with Recovery Stage 1, the cause, the hung unit and the suspects shown, every output drive ended and every slot, load and transition
dropped; with none it goes on. The fence completes, or after 2 ms is incomplete with 0x0B05, and the ledger stage begins; a unit that does not
answer is listed with 0x0B07. The ledger is written to its area, and the device goes to HALTED or into RECOVERING. A copy to flash keeps the
newest 4 ledgers; one that fails raises 0x0B0A. It states parts of R379, R380, R381, R382, R383, R384, R386, R387, R388. -/
def Obligations.HangsAreFenced : Prop :=
  ∀ (t : Nat) (s : State),
    (∀ c, (s.advance t).countHolds = c →
      (s.watching = true → ∃ u, exec (.tallySample t) s = .next u ∧ u.recov.prev = c.recov.tally ∧ Only [.time, .recovery] s u ∧
        ∀ x, x < 70 → u.recov.stall.get 0 x =
            (if c.recov.tally.get 0 x ≠ s.recov.prev.get 0 x then 0
            else if c.unitWorks x = false then 0
            else if c.unitExempt x = true then s.recov.stall.get 0 x else s.recov.stall.get 0 x + 1) ∧
          (u.recov.stall.get 0 x ≠ 0 → u.recov.windows.find? x = some (c.tallyWindow x))) ∧
      (s.watching = false → exec (.tallySample t) s = .next c)) ∧
    (s.expiredUnits = [] → exec (.tallyExpiry t) s = .next (s.advance t)) ∧
    (∀ x xs, s.expiredUnits = x :: xs → s.evaluating = true → s.recov.phase ≠ .replaying →
      ∃ u, exec (.tallyExpiry t) s = .next u ∧ u.dev = 5 ∧ u.fenced = true ∧ u.dieUp = false ∧ u.nat Ob.recoveryStage = 1 ∧
        u.nat Ob.lastRecoveryCause = causeOf x ∧ u.nat Ob.lastHungUnit = x ∧ u.recov.phase = .fencing ∧ u.recov.expired = x :: xs ∧
        u.recov.expiryAt = u.time ∧ u.recov.prior = s.dev ∧ u.recov.suspects = s.suspectsOf (x :: xs) ∧
        u.recov.halts = (s.advance t).expiryHalts (x :: xs) ∧ u.nat Ob.recoveryCount = (s.nat Ob.recoveryCount + 1) % 2 ^ 32 ∧
        Logged (causeOf x) (unitField x) s u ∧ (∀ k, u.outputDrive k = false) ∧ u.square.open_ = [] ∧ u.loader.load = none ∧
        u.ctrl.transition = none ∧ u.nat Ob.transitionPending = 0 ∧ (∀ n, n < 8 → u.ctxState n = if s.ctxState n = 2 then 3 else s.ctxState n)) ∧
    (s.recov.phase = .fencing →
      (∃ u, exec (.fenceComplete t) s = .next u ∧ u.recov.phase = .ledger ∧ u.recov.fenceAt = u.time ∧ u.nat Ob.recoveryStage = 2) ∧
      (s.recov.expiryAt + 2000000 ≤ max s.time t →
        ∃ u, exec (.fenceTimeout t) s = .next u ∧ u.recov.phase = .ledger ∧ u.recov.incomplete = true ∧ u.nat Ob.recoveryStage = 2 ∧
          u.market.posts = [] ∧ u.market.spikes = [] ∧ (∀ x, x < 64 → (u.tile x).trans = []) ∧ Logged 0x0B05 noUnit s u ∧
          u.nat Ob.hardResets = if s.recov.halts = true then s.nat Ob.hardResets else (s.nat Ob.hardResets + 1) % 2 ^ 32) ∧
      (max s.time t < s.recov.expiryAt + 2000000 → exec (.fenceTimeout t) s = .next (s.advance t))) ∧
    (∀ x : Fin 70, s.recov.phase = .ledger → x.val ∉ s.recov.missing →
      ∃ u, exec (.ledgerReadTimeout t x) s = .next u ∧ u.recov.missing = s.recov.missing ++ [x.val] ∧ Logged 0x0B07 (unitField x) s u ∧
        Objects logKeys s u ∧ Only [.time, .objects, .health, .recovery] s u) ∧
    (s.recov.phase = .ledger → Memory.wf s.mem = true →
      (s.recov.halts = true → ∃ u, exec (.ledgerWritten t) s = .next u ∧ u.dev = 7 ∧ u.nat Ob.recoveryStage = 0 ∧ u.recov.phase = .none ∧
        u.recov.dramLedger = true ∧
        (∀ i, i < (s.advance t).ledgerBytes.length → Memory.read u.mem (s.nat Ob.ledgerBase + i) = (s.advance t).ledgerBytes.getD i 0) ∧
        (∀ y, y < s.nat Ob.ledgerBase ∨ s.nat Ob.ledgerBase + (s.advance t).ledgerBytes.length ≤ y → Memory.read u.mem y = Memory.read s.mem y) ∧
        Only [.time, .memory, .objects, .health, .recovery] s u) ∧
      (s.recov.halts = false → ∃ u, exec (.ledgerWritten t) s = .next u ∧ u.dev = 6 ∧ u.nat Ob.recoveryStage = 3 ∧ u.recov.phase = .reset ∧
        u.market.tiles = [] ∧ (s.recov.incomplete = false → u.recov.lost = false ∧ u.recov.prior = s.recov.prior ∧
          u.recov.suspects = s.recov.suspects ∧ u.freeCount = s.freeCount))) ∧
    (s.recov.dramLedger = true → s.dieUp = true →
      (∃ u l, exec (.ledgerFlashCopyDone t true) s = .next u ∧ u.recov.ledgers = (l :: s.recov.ledgers).take 4 ∧ u.recov.dramLedger = false ∧
        l.bytes = Memory.slice s.mem (s.nat Ob.ledgerBase) (Memory.readNat s.mem (s.nat Ob.ledgerBase) 4) ∧
        u.nat Ob.ledgersStored = u.recov.ledgers.length ∧ Objects [Ob.ledgersStored] s u ∧ Only [.time, .objects, .recovery] s u) ∧
      (∃ u, exec (.ledgerFlashCopyDone t false) s = .next u ∧ Logged 0x0B0A noUnit s u ∧ Objects logKeys s u ∧
        Only [.time, .objects, .health] s u))

/-! ## Recovery -/

/-- Reset is released 1 ms after its assertion; with firmware that verifies the device retrains with Recovery Stage 4, with none it is HALTED with
its rails off and 0x0C01. No reset-done 50 ms after the release, or a third failure of retraining, power-cycles the module with 0x0B06. After the
die's bring-up, Stage 5, the next suspect runs in REPLAY mode up to the expiry. It passes, PAUSED, when its range is delivered and reached or its
slice has passed, and is QUARANTINED when a tile of it stalls again. With no suspect left, and the enabled sensor ports streaming or 500 ms gone,
the device returns to the state it had at the expiry, every context that was RUNNING and is PAUSED running. It states parts of R388, R389, R391, R392,
R394, R395, R397. -/
def Obligations.RecoveryReturns : Prop :=
  ∀ (t : Nat) (s : State),
    (s.recov.phase = .reset → s.recov.since + 1000000 ≤ max s.time t → ∃ u, exec (.resetRelease t) s = .next u ∧
      u.recov = { s.recov with phase := .released, since := max s.time t } ∧
      Only [.time, .recovery] s u) ∧
    (s.recov.phase = .released → s.recov.restart = false → s.dev = 6 →
      (s.sec.passes s.sec.primary = true → ∃ u, exec (.resetDone t) s = .next u ∧ u.recov.phase = .retraining ∧ u.nat Ob.recoveryStage = 4 ∧
        u.nat Ob.secureBootState = 0 ∧ u.power.rails = true ∧ u.sec.running = .primary ∧ u.dev = 6) ∧
      (s.sec.passes s.sec.primary = false → s.sec.passes s.sec.fallback = false →
        ∃ u, exec (.resetDone t) s = .next u ∧ u.dev = 7 ∧ u.recov.phase = .none ∧ u.nat Ob.recoveryStage = 0 ∧ u.power.rails = false ∧
          u.sec.running = .none ∧ Logged 0x0C01 noUnit s u)) ∧
    (∀ c, (c = Instr.resetDoneTimeout t ∧ s.recov.phase = .released ∧ s.recov.since + 50000000 ≤ max s.time t) ∨ (c = Instr.dramRetrainFail t ∧ s.recov.phase = .retraining) →
      ∃ u, exec c s = .next u ∧ u.power.rails = false ∧ u.power.lodge = false ∧ u.recov.phase = .cycle ∧ u.dev = 7 ∧
        u.nat Ob.modulePowerCycles = (s.nat Ob.modulePowerCycles + 1) % 2 ^ 32 ∧ Logged 0x0B06 noUnit s u) ∧
    (s.dev = 6 → s.recov.phase = .retraining → s.recov.restart = false → s.recov.lost = false →
      ∃ u, exec (.dieBringupDone t) s = .next u ∧ u.dieUp = true ∧ u.nat Ob.recoveryStage = 5 ∧ u.recov.suspects = s.recov.suspects ∧
        u.recov.phase = if s.recov.suspects = [] then .returning else .replaying) ∧
    (∀ n ns, n < 8 → s.recov.suspects = n :: ns → s.recov.replay = none → s.recov.phase = .replaying →
      ∃ u r, exec (.suspectReplayStart t) s = .next u ∧ u.recov.replay = some r ∧ r.ctx = n ∧ r.last = s.recov.expiryAt ∧ r.started = u.time ∧ r.slice = s.nat Ob.replaySlice ∧
        u.ctxState n = 2 ∧ u.nat (Ob.arithmeticMode n) = 3 ∧ ∀ j, j < 8 → j ≠ n → u.ctxState j = s.ctxState j) ∧
    (∀ r, s.recov.replay = some r → r.ctx < 8 →
      (∀ c, (c = Instr.replaySliceExpiry t ∧ r.started + 1000000 * r.slice ≤ max s.time t) ∨
          (c = Instr.replayRangeDone t ∧ (∀ p ∈ s.subPorts r.ctx, (s.port p).queue = [] ∧ (s.port p).backlog = []) ∧
            ∃ l, (s.ctx r.ctx).logical = some l ∧ r.last ≤ l) →
        ∃ u, exec c s = .next u ∧ u.ctxState r.ctx = 3 ∧ u.recov.replay = none ∧ u.recov.suspects = s.recov.suspects.filter (fun x => x != r.ctx) ∧
          (u.recov.suspects = [] → u.recov.phase = .returning) ∧ (u.ctx r.ctx).logical = none) ∧
      ((∃ x ∈ s.expiredUnits, x ∈ s.ctxTiles r.ctx) →
        ∃ u, exec (.replayHang t) s = .next u ∧ u.ctxState r.ctx = 4 ∧ u.nat (Ob.contextStatus r.ctx) = 0x0B08 ∧ u.recov.replay = none ∧
          u.recov.suspects = s.recov.suspects.filter (fun x => x != r.ctx) ∧ (u.recov.suspects = [] → u.recov.phase = .returning))) ∧
    (s.recov.phase = .returning → (s.advance t).portsReturned = true → ∃ u, exec (.returnToService t) s = .next u ∧ u.dev = s.recov.prior ∧ u.nat Ob.recoveryStage = 0 ∧
      u.recov.phase = .none ∧ u.recov.returned = some u.time ∧
      ∀ n, n < 8 → u.ctxState n = if nth 0 s.recov.ctxStates n = 2 ∧ s.ctxState n = 3 then 2 else s.ctxState n)

/-! ## Rules stated whole -/

/-- When tallies expire in STANDBY, READY or RUN, the unit that comes first in the order of Tally Values gives the cause and is named by Last Hung
Unit, and the ledger header's bits for units name every expired unit and no other. Suspects, which Suspect Contexts shows, are exactly the contexts
that were RUNNING, or PAUSED with transactions still outstanding, on a partition containing a tile whose tally expired: an expiry of the Square,
the Gate or a link port makes none. -/
def Obligations.FirstExpiredUnitNamesTheCause : Prop :=
  ∀ (t x : Nat) (xs : List Nat) (s : State), s.expiredUnits = x :: xs → s.evaluating = true → s.recov.phase ≠ .replaying →
    ∃ u, exec (.tallyExpiry t) s = .next u ∧ (∀ y ∈ xs, x < y) ∧ u.nat Ob.lastRecoveryCause = causeOf x ∧ u.recov.cause = causeOf x ∧
      u.nat Ob.lastHungUnit = x ∧
      (∀ size deep i, i < 128 → (bitAt (leAt (u.ledgerHeader size deep) 40 16) i = true ↔ i ∈ x :: xs)) ∧
      (∀ n, n ∈ u.recov.suspects ↔ n < 8 ∧
        (s.ctxState n = 2 ∨ (s.ctxState n = 3 ∧ ∃ y ∈ s.ctxTiles n, (s.tile y).trans ≠ [] ∨ (s.tile y).unit_.misses ≠ [])) ∧
        ∃ y ∈ s.ctxTiles n, y ∈ x :: xs) ∧
      (∀ n, n < 8 → (bitAt (u.nat Ob.suspectContexts) n = true ↔ n ∈ u.recov.suspects))

/-- Where a port in fabric mode sends a timing block, the distance in its low 18 bits, which Time Distance shows, is 0 for a time master (a Time Source
other than Chaivo, R372), the distance received at the Time Upstream Port, below
0x3FFFF, plus 1 where that port is UP and in fabric mode, and 0x3FFFF for any other
module. A timing block received gives the port its distance. A timing block or TIME message at a port in host mode moves no time: it changes at most
the port's counter. -/
def Obligations.TimeDistanceCountsHops : Prop :=
  ∀ (t : Nat) (p : Fin 4) (s : State), s.linkUp p = true →
    (∀ d, s.hostMode p = false →
      (s.nat Ob.timeSource ≠ 2 ∧ d = 0) ∨
        (s.nat Ob.timeSource = 2 ∧ ∃ q, s.nat Ob.timeUpstreamPort = q ∧
          ((q < 4 ∧ s.linkUp q = true ∧ s.hostMode q = false ∧ (s.linkPort q).distance < 0x3FFFF ∧ d = (s.linkPort q).distance + 1) ∨
            ((4 ≤ q ∨ s.linkUp q = false ∨ s.hostMode q = true) ∧ d = 0x3FFFF))) →
      ∃ u b, exec (.timingBlockSend t p) s = .next u ∧ (u.linkPort p).block = some b ∧ field b.toNat 0 18 = d ∧ field b.toNat 52 4 = 2 ∧
        u.nat Ob.timeDistance = d ∧ Objects [Ob.timeDistance] s u ∧ Only [.time, .objects, .link] s u) ∧
    (∀ content arrival, s.hostMode p = false →
      ∃ u, exec (.timingBlockReceive t p content arrival) s = .next u ∧ (u.linkPort p).distance = field content.toNat 0 18 ∧
        Objects [Ob.timeDistance] s u ∧ Only [.time, .objects, .link] s u) ∧
    (s.hostMode p = true →
      (∀ content arrival, exec (.timingBlockReceive t p content arrival) s = .next (s.advance t)) ∧
      (∀ a b, ∃ u, exec (.time t p a b) s = .next u ∧ Objects [Ob.linkCounter p 8] s u ∧ Only [.time, .objects] s u))

/-- A read of Error Register by any master gives bit 0 while Faults Pending is above 0, bit 2 while Input Voltage lies outside 18 V to 32 V, bit 3 while
Throttle State is 1, bit 4 while a sensor port is LOST or an enabled Chaivo port is DOWN, bit 7 while Device Step is 1 or more; bits 1, 5 and 6
read 0. -/
def Obligations.ErrorRegisterShowsConditions : Prop :=
  ∀ (s : State) (m : Master) (r : Nat), s.readNum m Ob.errorRegister = r →
    r < 256 ∧ (bitAt r 0 = true ↔ 0 < s.nat Ob.faultsPending) ∧ bitAt r 1 = false ∧
    (bitAt r 2 = true ↔ s.num Ob.inputVoltage < 18000 ∨ 32000 < s.num Ob.inputVoltage) ∧
    (bitAt r 3 = true ↔ s.num Ob.throttleState = 1) ∧
    (bitAt r 4 = true ↔ (∃ p, p < 4 ∧ s.nat (Ob.portState p) = 3) ∨
      ∃ p, p < 4 ∧ s.num (Ob.linkPortEnable p) = 1 ∧ s.nat (Ob.linkPortState p) = 3) ∧
    bitAt r 5 = false ∧ bitAt r 6 = false ∧ (bitAt r 7 = true ↔ 1 ≤ s.nat Ob.deviceStep)

/-- At a slot boundary with every context EMPTY and no transition in progress, a device in READY goes to STANDBY, and a device in RUN stays in
RUN and the Square opens the slot that begins there, as with contexts. -/
def Obligations.NoContextLeft : Prop :=
  ∀ s : State, s.dieUp = true → s.ctrl.transition = none → (∀ n, n < 8 → s.ctxState n = 0) →
    (s.dev = 3 → ∃ u, exec .slotBoundary s = .next u ∧ u.dev = 2 ∧ u.time % 1000 = 0) ∧
    (s.dev = 4 → ∃ u, exec .slotBoundary s = .next u ∧ u.dev = 4 ∧ u.square.top = some (slotOf u.time) ∧
      ∃ o ∈ u.square.open_, o.k = slotOf u.time ∧ o.closed = false)

end
end

