-- ==== Sys2Proof/Laws/Memory.lean ====
section
/-! SUPPORT. Laws of memory: every operation keeps the canonical form; a read after a write. -/

namespace Sys2Proof.Machine.Memory

/-! ## The canonical form -/

/-- A lower bound may be weakened. -/
theorem wfFrom_mono {lo hi : Nat} (h : lo ≤ hi) {m : List Host.Cell} (w : wfFrom hi m = true) : wfFrom lo m = true := by
  cases m with
  | nil => rfl
  | cons e m =>
    simp only [wfFrom, Bool.and_eq_true, decide_eq_true_eq] at w ⊢
    exact ⟨⟨by omega, w.1.2⟩, w.2⟩

/-- A byte written keeps the form. -/
theorem wfFrom_write {lo x : Nat} {m : List Host.Cell} (v : Byte) (w : wfFrom lo m = true) (hx : lo ≤ x) :
    wfFrom lo (write m x v) = true := by
  induction m generalizing lo with
  | nil => unfold write; split <;> simp_all [wfFrom]
  | cons e m ih =>
    obtain ⟨a, b⟩ := e
    simp only [wfFrom, Bool.and_eq_true, decide_eq_true_eq] at w
    unfold write
    split
    · rename_i ha
      split
      · exact wfFrom_mono (by omega) w.2
      · simp_all [wfFrom]
    · split
      · split
        · simp only [wfFrom, Bool.and_eq_true, decide_eq_true_eq]
          exact w
        · rename_i hv
          simp only [wfFrom, Bool.and_eq_true, decide_eq_true_eq]
          exact ⟨⟨hx, hv⟩, ⟨by omega, w.1.2⟩, w.2⟩
      · simp only [wfFrom, Bool.and_eq_true, decide_eq_true_eq]
        exact ⟨w.1, ih w.2 (by omega)⟩

/-- A byte written keeps the form. -/
theorem wf_write {m : List Host.Cell} (x : Nat) (v : Byte) (w : wf m = true) : wf (write m x v) = true :=
  wfFrom_write v w (Nat.zero_le x)

/-- Bytes written keep the form. -/
theorem wf_writeBytes {m : List Host.Cell} (x : Nat) (bs : List Byte) (w : wf m = true) : wf (writeBytes m x bs) = true := by
  induction bs generalizing m x with
  | nil => exact w
  | cons b bs ih => exact ih _ (wf_write x b w)

/-- Bytes written into a ring keep the form. -/
theorem wf_writeRing {m : List Host.Cell} (base size off : Nat) (bs : List Byte) (w : wf m = true) :
    wf (writeRing m base size off bs) = true := by
  induction bs generalizing m off with
  | nil => exact w
  | cons b bs ih => exact ih _ (wf_write _ b w)

/-- Bytes changed in place keep the form. -/
theorem wfFrom_mapRange {k : Nat} {m : List Host.Cell} (lo hi : Nat) (f : Nat → Byte → Byte) (w : wfFrom k m = true) :
    wfFrom k (mapRange m lo hi f) = true := by
  induction m generalizing k with
  | nil => rfl
  | cons e m ih =>
    obtain ⟨a, b⟩ := e
    simp only [wfFrom, Bool.and_eq_true, decide_eq_true_eq] at w
    have h1 := ih w.2
    unfold mapRange at h1 ⊢
    simp only [List.filterMap_cons]
    split
    · exact wfFrom_mono (by omega) h1
    · rename_i heq
      split at heq
      · split at heq
        · cases heq
        · cases heq
          simp_all [wfFrom]
      · cases heq
        simp_all [wfFrom]

/-- Bytes changed in place keep the form. -/
theorem wf_mapRange {m : List Host.Cell} (lo hi : Nat) (f : Nat → Byte → Byte) (w : wf m = true) :
    wf (mapRange m lo hi f) = true := wfFrom_mapRange lo hi f w

/-- The cells of a byte list are in form, and lie below its end. -/
theorem wfFrom_cells_append (x : Nat) (bs : List Byte) {r : List Host.Cell} (w : wfFrom (x + bs.length) r = true) :
    wfFrom x (cells x bs ++ r) = true := by
  induction bs generalizing x with
  | nil => simpa [cells] using w
  | cons b bs ih =>
    have h := ih (x + 1) (by simpa [Nat.add_assoc, Nat.add_comm 1] using w)
    unfold cells
    split
    · exact wfFrom_mono (Nat.le_succ x) h
    · simp_all [wfFrom]

/-- The cells at or above an address are in form. -/
theorem wfFrom_above {k : Nat} {m : List Host.Cell} (y : Nat) (w : wfFrom k m = true) :
    wfFrom (max k y) (m.filter (fun c => decide (y ≤ c.1))) = true := by
  induction m generalizing k with
  | nil => rfl
  | cons e m ih =>
    obtain ⟨a, b⟩ := e
    simp only [wfFrom, Bool.and_eq_true, decide_eq_true_eq] at w
    have h := ih w.2
    by_cases hy : y ≤ a
    · simp only [List.filter_cons, hy, decide_true, if_true, wfFrom, Bool.and_eq_true, decide_eq_true_eq]
      exact ⟨⟨by omega, w.1.2⟩, wfFrom_mono (by omega) h⟩
    · simp only [List.filter_cons, hy, decide_false, Bool.false_eq_true, if_false]
      exact wfFrom_mono (by omega) h

/-- The cells below an address, followed by cells at or above it. -/
theorem wfFrom_below_append {k : Nat} {m r : List Host.Cell} (x : Nat) (hk : k ≤ x) (w : wfFrom k m = true)
    (wr : wfFrom x r = true) : wfFrom k (m.filter (fun c => decide (c.1 < x)) ++ r) = true := by
  induction m generalizing k with
  | nil => exact wfFrom_mono hk wr
  | cons e m ih =>
    obtain ⟨a, b⟩ := e
    simp only [wfFrom, Bool.and_eq_true, decide_eq_true_eq] at w
    by_cases hx : a < x
    · simp only [List.filter_cons, hx, decide_true, if_true, List.cons_append, wfFrom, Bool.and_eq_true, decide_eq_true_eq]
      exact ⟨w.1, ih (by omega) w.2⟩
    · have h0 : m.filter (fun c => decide (c.1 < x)) = [] := by
        have w2 := w.2
        clear ih
        have key : ∀ (j : Nat) (l : List Host.Cell), x ≤ j → wfFrom j l = true → l.filter (fun c => decide (c.1 < x)) = [] := by
          intro j l
          induction l generalizing j with
          | nil => intros; rfl
          | cons c l ihl =>
            intro hj hw
            simp only [wfFrom, Bool.and_eq_true, decide_eq_true_eq] at hw
            have : ¬ c.1 < x := by omega
            simp only [List.filter_cons, this, decide_false, Bool.false_eq_true, if_false]
            exact ihl (c.1 + 1) (by omega) hw.2
        exact key (a + 1) m (by omega) w2
      simp only [List.filter_cons, hx, decide_false, Bool.false_eq_true, if_false, h0, List.nil_append]
      exact wfFrom_mono hk wr

/-- Bytes spliced in keep the form. -/
theorem wf_splice {m : List Host.Cell} (x : Nat) (bs : List Byte) (w : wf m = true) : wf (splice m x bs) = true := by
  unfold splice wf
  rw [List.append_assoc]
  refine wfFrom_below_append x (Nat.zero_le x) w (wfFrom_cells_append x bs ?_)
  exact wfFrom_mono (by omega) (wfFrom_above (x + bs.length) w)

/-! ## Reads after writes -/

/-- Below the first cell a byte reads 0. -/
theorem read_below {k x : Nat} {m : List Host.Cell} (w : wfFrom k m = true) (h : x < k) : read m x = 0 := by
  cases m with
  | nil => rfl
  | cons e m =>
    obtain ⟨a, b⟩ := e
    simp only [wfFrom, Bool.and_eq_true, decide_eq_true_eq] at w
    unfold read
    rw [if_neg (by omega), if_pos (by omega)]

/-- A read at the head of the list. -/
theorem read_cons (a : Nat) (b : Byte) (m : List Host.Cell) (x : Nat) :
    read ((a, b) :: m) x = if a = x then b else if x < a then 0 else read m x := rfl

/-- A byte written is read back, and every other byte is as before. -/
theorem read_write_from {k : Nat} {m : List Host.Cell} (x y : Nat) (v : Byte) (w : wfFrom k m = true) :
    read (write m x v) y = if y = x then v else read m y := by
  induction m generalizing k with
  | nil =>
    unfold write
    split
    · rename_i hv; subst hv; split <;> rfl
    · simp only [read_cons]
      split
      · rename_i h; rw [if_pos h.symm]
      · rename_i h; rw [if_neg (Ne.symm h)]; split <;> rfl
  | cons e m ih =>
    obtain ⟨a, b⟩ := e
    simp only [wfFrom, Bool.and_eq_true, decide_eq_true_eq] at w
    have h := ih w.2
    have low : ∀ z, z ≤ a → read m z = 0 := fun z hz => read_below w.2 (by omega)
    unfold write
    split
    · rename_i hax
      subst hax
      split
      · rename_i hv
        subst hv
        rw [read_cons]
        split
        · rename_i hy; rw [hy]; exact low a (Nat.le_refl a)
        · rename_i hy
          rw [if_neg (Ne.symm hy)]
          split
          · exact low y (by omega)
          · rfl
      · rw [read_cons, read_cons]
        split
        · rename_i hy; rw [if_pos hy.symm]
        · rename_i hy; rw [if_neg (Ne.symm hy)]
    · rename_i hax
      split
      · rename_i hxa
        split
        · rename_i hv
          subst hv
          split
          · rename_i hy; subst hy; rw [read_cons, if_neg hax, if_pos hxa]
          · rfl
        · rw [read_cons (a := x)]
          split
          · rename_i hy; rw [if_pos hy.symm]
          · rename_i hy
            rw [if_neg (Ne.symm hy)]
            split
            · rw [read_cons, if_neg (by omega), if_pos (by omega)]
            · rfl
      · rw [read_cons, read_cons]
        split
        · rename_i hy; subst hy; rw [if_neg hax]
        · split
          · rw [if_neg (by omega)]
          · exact h

/-- A byte written is read back, and every other byte is as before. -/
theorem read_write {m : List Host.Cell} (x y : Nat) (v : Byte) (w : wf m = true) :
    read (write m x v) y = if y = x then v else read m y := read_write_from x y v w

/-- A byte outside the bytes written reads as before. -/
theorem read_writeBytes_outside {m : List Host.Cell} (x y : Nat) (bs : List Byte) (w : wf m = true)
    (h : y < x ∨ x + bs.length ≤ y) : read (writeBytes m x bs) y = read m y := by
  induction bs generalizing m x with
  | nil => rfl
  | cons b bs ih =>
    simp only [List.length_cons] at h
    have := ih (m := write m x b) (x + 1) (wf_write x b w) (by omega)
    rw [writeBytes, this, read_write x y b w, if_neg (by omega)]

/-- A byte inside the bytes written reads the byte written there. -/
theorem read_writeBytes_inside {m : List Host.Cell} (x i : Nat) (bs : List Byte) (w : wf m = true) (h : i < bs.length) :
    read (writeBytes m x bs) (x + i) = bs.getD i 0 := by
  induction bs generalizing m x i with
  | nil => simp at h
  | cons b bs ih =>
    cases i with
    | zero =>
      rw [writeBytes, read_writeBytes_outside (x + 1) (x + 0) bs (wf_write x b w) (by omega), read_write x (x + 0) b w]
      simp
    | succ i =>
      have h' : i < bs.length := by simpa using h
      rw [writeBytes, show x + (i + 1) = (x + 1) + i by omega, ih (x + 1) i (wf_write x b w) h']
      simp

end Sys2Proof.Machine.Memory
end

