-- ==== Sys2Proof/Laws/Requests.lean ====
section
/-! SUPPORT. What a request of a master can do (R333, R334), said once for every row that is a request. -/

namespace Sys2Proof.Machine

variable (s : State) (m : Master) (k : Nat) (data : List Byte) (toggleOk : Bool)

/-- A request of a port that does not reach the dictionary changes nothing. -/
theorem State.request_unreached (h : s.reaches m = false) : s.request m k data toggleOk = s := by
  simp [State.request, h]

/-- A request that reaches the dictionary is aborted, ignored or applied, as its verdict says. -/
theorem State.request_reached (h : s.reaches m = true) :
    s.request m k data toggleOk = match (s.touch m).verdict m k data toggleOk with
      | .abort => s.touch m
      | .ignored reason => ((s.touch m).ignore m k reason).refusedToo m k reason data
      | .applied => match objAt k with
        | none => s.touch m
        | some r => ((s.touch m).applyWrite m r k (valueOf r data) data).keepWrite m r k (valueOf r data) data :=
  if_neg (by simp [h])

/-- An aborted request leaves nothing but the session's time. -/
theorem State.request_abort (h : s.reaches m = true) (v : (s.touch m).verdict m k data toggleOk = .abort) :
    s.request m k data toggleOk = s.touch m := by
  rw [s.request_reached m k data toggleOk h, v]

/-- An ignored request is counted and recorded with its reason. -/
theorem State.request_ignored (h : s.reaches m = true) {reason : Nat} (v : (s.touch m).verdict m k data toggleOk = .ignored reason) :
    s.request m k data toggleOk = ((s.touch m).ignore m k reason).refusedToo m k reason data := by
  rw [s.request_reached m k data toggleOk h, v]

/-- An applied request writes its object and is kept. -/
theorem State.request_applied (h : s.reaches m = true) (v : (s.touch m).verdict m k data toggleOk = .applied) {r : ObjRow}
    (o : objAt k = some r) : s.request m k data toggleOk =
      ((s.touch m).applyWrite m r k (valueOf r data) data).keepWrite m r k (valueOf r data) data := by
  rw [s.request_reached m k data toggleOk h, v, o]

/-- Only a request of an object of the dictionary is applied. -/
theorem State.object_of_applied (v : s.verdict m k data toggleOk = .applied) : ∃ r, objAt k = some r := by
  unfold State.verdict at v
  cases h : objAt k with
  | none => simp [h] at v
  | some r => exact ⟨r, rfl⟩

end Sys2Proof.Machine
end

