-- ==== Sys2Proof/Laws/Table.lean ====
section
/-! SUPPORT. Laws of sparse tables: a read after a write, of the same key and of another. -/

namespace Sys2Proof.SMap

variable {α : Type}

/-- The key just set reads the value set. -/
@[simp] theorem find?_set_self (m : SMap α) (k : Nat) (v : α) : (m.set k v).find? k = some v := by
  induction m with
  | nil => simp [set, find?]
  | cons e m ih =>
    obtain ⟨k', v'⟩ := e
    unfold set
    split
    · simp [find?]
    · split
      · simp [find?]
      · simp [find?, *]

/-- Another key reads what it read before. -/
theorem find?_set_ne (m : SMap α) {k j : Nat} (v : α) (h : j ≠ k) : (m.set k v).find? j = m.find? j := by
  induction m with
  | nil => simp [set, find?, Ne.symm h]
  | cons e m ih =>
    obtain ⟨k', v'⟩ := e
    unfold set
    split
    · rename_i hk; subst hk; simp [find?, Ne.symm h]
    · split
      · simp [find?, Ne.symm h]
      · simp [find?, ih]

/-- The key just set, with a default. -/
@[simp] theorem get_set_self (d : α) (m : SMap α) (k : Nat) (v : α) : (m.set k v).get d k = v := by
  simp [get]

/-- Another key, with a default. -/
theorem get_set_ne (d : α) (m : SMap α) {k j : Nat} (v : α) (h : j ≠ k) : (m.set k v).get d j = m.get d j := by
  simp [get, find?_set_ne m v h]

/-- A key changed by a function. -/
@[simp] theorem get_upd_self (d : α) (m : SMap α) (k : Nat) (f : α → α) : (m.upd d k f).get d k = f (m.get d k) := by
  simp [upd]

/-- Another key keeps its entry when one is changed. -/
theorem get_upd_ne (d : α) (m : SMap α) {k j : Nat} (f : α → α) (h : j ≠ k) : (m.upd d k f).get d j = m.get d j := by
  simp [upd, get_set_ne d m _ h]

/-- A key removed reads nothing. -/
@[simp] theorem find?_del_self (m : SMap α) (k : Nat) : (m.del k).find? k = none := by
  induction m with
  | nil => simp [del, find?]
  | cons e m ih =>
    obtain ⟨k', v'⟩ := e
    unfold del
    split
    · exact ih
    · simp [find?, *]

/-- Another key is kept by a removal. -/
theorem find?_del_ne (m : SMap α) {k j : Nat} (h : j ≠ k) : (m.del k).find? j = m.find? j := by
  induction m with
  | nil => simp [del, find?]
  | cons e m ih =>
    obtain ⟨k', v'⟩ := e
    unfold del
    split
    · rename_i hk; subst hk; simp [find?, Ne.symm h, ih]
    · simp [find?, ih]

end Sys2Proof.SMap
end

