-- ==== Sys2Proof/Laws/State.lean ====
section
/-! SUPPORT. Laws of the state's named updates: what each leaves of every field, and what a read of an object finds after a write. -/

namespace Sys2Proof.Machine

variable (s : State)

/-! ## Fields an update leaves alone -/

/-! `advance` -/
@[simp] theorem State.advance_lastBoundary (t : Nat) : (s.advance t).lastBoundary = s.lastBoundary := rfl
@[simp] theorem State.advance_freeCount (t : Nat) : (s.advance t).freeCount = s.freeCount := rfl
@[simp] theorem State.advance_pending (t : Nat) : (s.advance t).pending = s.pending := rfl
@[simp] theorem State.advance_mem (t : Nat) : (s.advance t).mem = s.mem := rfl
@[simp] theorem State.advance_objs (t : Nat) : (s.advance t).objs = s.objs := rfl
@[simp] theorem State.advance_doms (t : Nat) : (s.advance t).doms = s.doms := rfl
@[simp] theorem State.advance_heldNum (t : Nat) : (s.advance t).heldNum = s.heldNum := rfl
@[simp] theorem State.advance_heldDom (t : Nat) : (s.advance t).heldDom = s.heldDom := rfl
@[simp] theorem State.advance_health (t : Nat) : (s.advance t).health = s.health := rfl
@[simp] theorem State.advance_ctrl (t : Nat) : (s.advance t).ctrl = s.ctrl := rfl
@[simp] theorem State.advance_power (t : Nat) : (s.advance t).power = s.power := rfl
@[simp] theorem State.advance_disc (t : Nat) : (s.advance t).disc = s.disc := rfl
@[simp] theorem State.advance_gate (t : Nat) : (s.advance t).gate = s.gate := rfl
@[simp] theorem State.advance_kerb (t : Nat) : (s.advance t).kerb = s.kerb := rfl
@[simp] theorem State.advance_inputs (t : Nat) : (s.advance t).inputs = s.inputs := rfl
@[simp] theorem State.advance_market (t : Nat) : (s.advance t).market = s.market := rfl
@[simp] theorem State.advance_queues (t : Nat) : (s.advance t).queues = s.queues := rfl
@[simp] theorem State.advance_square (t : Nat) : (s.advance t).square = s.square := rfl
@[simp] theorem State.advance_cal (t : Nat) : (s.advance t).cal = s.cal := rfl
@[simp] theorem State.advance_link (t : Nat) : (s.advance t).link = s.link := rfl
@[simp] theorem State.advance_sec (t : Nat) : (s.advance t).sec = s.sec := rfl
@[simp] theorem State.advance_flash (t : Nat) : (s.advance t).flash = s.flash := rfl
@[simp] theorem State.advance_loader (t : Nat) : (s.advance t).loader = s.loader := rfl
@[simp] theorem State.advance_recov (t : Nat) : (s.advance t).recov = s.recov := rfl
/-! `setNum` -/
@[simp] theorem State.setNum_time (k : Nat) (v : Int) : (s.setNum k v).time = s.time := rfl
@[simp] theorem State.setNum_lastBoundary (k : Nat) (v : Int) : (s.setNum k v).lastBoundary = s.lastBoundary := rfl
@[simp] theorem State.setNum_freeCount (k : Nat) (v : Int) : (s.setNum k v).freeCount = s.freeCount := rfl
@[simp] theorem State.setNum_pending (k : Nat) (v : Int) : (s.setNum k v).pending = s.pending := rfl
@[simp] theorem State.setNum_mem (k : Nat) (v : Int) : (s.setNum k v).mem = s.mem := rfl
@[simp] theorem State.setNum_doms (k : Nat) (v : Int) : (s.setNum k v).doms = s.doms := rfl
@[simp] theorem State.setNum_heldNum (k : Nat) (v : Int) : (s.setNum k v).heldNum = s.heldNum := rfl
@[simp] theorem State.setNum_heldDom (k : Nat) (v : Int) : (s.setNum k v).heldDom = s.heldDom := rfl
@[simp] theorem State.setNum_health (k : Nat) (v : Int) : (s.setNum k v).health = s.health := rfl
@[simp] theorem State.setNum_ctrl (k : Nat) (v : Int) : (s.setNum k v).ctrl = s.ctrl := rfl
@[simp] theorem State.setNum_power (k : Nat) (v : Int) : (s.setNum k v).power = s.power := rfl
@[simp] theorem State.setNum_disc (k : Nat) (v : Int) : (s.setNum k v).disc = s.disc := rfl
@[simp] theorem State.setNum_gate (k : Nat) (v : Int) : (s.setNum k v).gate = s.gate := rfl
@[simp] theorem State.setNum_kerb (k : Nat) (v : Int) : (s.setNum k v).kerb = s.kerb := rfl
@[simp] theorem State.setNum_inputs (k : Nat) (v : Int) : (s.setNum k v).inputs = s.inputs := rfl
@[simp] theorem State.setNum_market (k : Nat) (v : Int) : (s.setNum k v).market = s.market := rfl
@[simp] theorem State.setNum_queues (k : Nat) (v : Int) : (s.setNum k v).queues = s.queues := rfl
@[simp] theorem State.setNum_square (k : Nat) (v : Int) : (s.setNum k v).square = s.square := rfl
@[simp] theorem State.setNum_cal (k : Nat) (v : Int) : (s.setNum k v).cal = s.cal := rfl
@[simp] theorem State.setNum_link (k : Nat) (v : Int) : (s.setNum k v).link = s.link := rfl
@[simp] theorem State.setNum_sec (k : Nat) (v : Int) : (s.setNum k v).sec = s.sec := rfl
@[simp] theorem State.setNum_flash (k : Nat) (v : Int) : (s.setNum k v).flash = s.flash := rfl
@[simp] theorem State.setNum_loader (k : Nat) (v : Int) : (s.setNum k v).loader = s.loader := rfl
@[simp] theorem State.setNum_recov (k : Nat) (v : Int) : (s.setNum k v).recov = s.recov := rfl
/-! `setNat` -/
@[simp] theorem State.setNat_time (k v : Nat) : (s.setNat k v).time = s.time := rfl
@[simp] theorem State.setNat_lastBoundary (k v : Nat) : (s.setNat k v).lastBoundary = s.lastBoundary := rfl
@[simp] theorem State.setNat_freeCount (k v : Nat) : (s.setNat k v).freeCount = s.freeCount := rfl
@[simp] theorem State.setNat_pending (k v : Nat) : (s.setNat k v).pending = s.pending := rfl
@[simp] theorem State.setNat_mem (k v : Nat) : (s.setNat k v).mem = s.mem := rfl
@[simp] theorem State.setNat_doms (k v : Nat) : (s.setNat k v).doms = s.doms := rfl
@[simp] theorem State.setNat_heldNum (k v : Nat) : (s.setNat k v).heldNum = s.heldNum := rfl
@[simp] theorem State.setNat_heldDom (k v : Nat) : (s.setNat k v).heldDom = s.heldDom := rfl
@[simp] theorem State.setNat_health (k v : Nat) : (s.setNat k v).health = s.health := rfl
@[simp] theorem State.setNat_ctrl (k v : Nat) : (s.setNat k v).ctrl = s.ctrl := rfl
@[simp] theorem State.setNat_power (k v : Nat) : (s.setNat k v).power = s.power := rfl
@[simp] theorem State.setNat_disc (k v : Nat) : (s.setNat k v).disc = s.disc := rfl
@[simp] theorem State.setNat_gate (k v : Nat) : (s.setNat k v).gate = s.gate := rfl
@[simp] theorem State.setNat_kerb (k v : Nat) : (s.setNat k v).kerb = s.kerb := rfl
@[simp] theorem State.setNat_inputs (k v : Nat) : (s.setNat k v).inputs = s.inputs := rfl
@[simp] theorem State.setNat_market (k v : Nat) : (s.setNat k v).market = s.market := rfl
@[simp] theorem State.setNat_queues (k v : Nat) : (s.setNat k v).queues = s.queues := rfl
@[simp] theorem State.setNat_square (k v : Nat) : (s.setNat k v).square = s.square := rfl
@[simp] theorem State.setNat_cal (k v : Nat) : (s.setNat k v).cal = s.cal := rfl
@[simp] theorem State.setNat_link (k v : Nat) : (s.setNat k v).link = s.link := rfl
@[simp] theorem State.setNat_sec (k v : Nat) : (s.setNat k v).sec = s.sec := rfl
@[simp] theorem State.setNat_flash (k v : Nat) : (s.setNat k v).flash = s.flash := rfl
@[simp] theorem State.setNat_loader (k v : Nat) : (s.setNat k v).loader = s.loader := rfl
@[simp] theorem State.setNat_recov (k v : Nat) : (s.setNat k v).recov = s.recov := rfl
/-! `count` -/
@[simp] theorem State.count_time (w k n : Nat) : (s.count w k n).time = s.time := rfl
@[simp] theorem State.count_lastBoundary (w k n : Nat) : (s.count w k n).lastBoundary = s.lastBoundary := rfl
@[simp] theorem State.count_freeCount (w k n : Nat) : (s.count w k n).freeCount = s.freeCount := rfl
@[simp] theorem State.count_pending (w k n : Nat) : (s.count w k n).pending = s.pending := rfl
@[simp] theorem State.count_mem (w k n : Nat) : (s.count w k n).mem = s.mem := rfl
@[simp] theorem State.count_doms (w k n : Nat) : (s.count w k n).doms = s.doms := rfl
@[simp] theorem State.count_heldNum (w k n : Nat) : (s.count w k n).heldNum = s.heldNum := rfl
@[simp] theorem State.count_heldDom (w k n : Nat) : (s.count w k n).heldDom = s.heldDom := rfl
@[simp] theorem State.count_health (w k n : Nat) : (s.count w k n).health = s.health := rfl
@[simp] theorem State.count_ctrl (w k n : Nat) : (s.count w k n).ctrl = s.ctrl := rfl
@[simp] theorem State.count_power (w k n : Nat) : (s.count w k n).power = s.power := rfl
@[simp] theorem State.count_disc (w k n : Nat) : (s.count w k n).disc = s.disc := rfl
@[simp] theorem State.count_gate (w k n : Nat) : (s.count w k n).gate = s.gate := rfl
@[simp] theorem State.count_kerb (w k n : Nat) : (s.count w k n).kerb = s.kerb := rfl
@[simp] theorem State.count_inputs (w k n : Nat) : (s.count w k n).inputs = s.inputs := rfl
@[simp] theorem State.count_market (w k n : Nat) : (s.count w k n).market = s.market := rfl
@[simp] theorem State.count_queues (w k n : Nat) : (s.count w k n).queues = s.queues := rfl
@[simp] theorem State.count_square (w k n : Nat) : (s.count w k n).square = s.square := rfl
@[simp] theorem State.count_cal (w k n : Nat) : (s.count w k n).cal = s.cal := rfl
@[simp] theorem State.count_link (w k n : Nat) : (s.count w k n).link = s.link := rfl
@[simp] theorem State.count_sec (w k n : Nat) : (s.count w k n).sec = s.sec := rfl
@[simp] theorem State.count_flash (w k n : Nat) : (s.count w k n).flash = s.flash := rfl
@[simp] theorem State.count_loader (w k n : Nat) : (s.count w k n).loader = s.loader := rfl
@[simp] theorem State.count_recov (w k n : Nat) : (s.count w k n).recov = s.recov := rfl
/-! `setDom` -/
@[simp] theorem State.setDom_time (k : Nat) (bs : List Byte) : (s.setDom k bs).time = s.time := rfl
@[simp] theorem State.setDom_lastBoundary (k : Nat) (bs : List Byte) : (s.setDom k bs).lastBoundary = s.lastBoundary := rfl
@[simp] theorem State.setDom_freeCount (k : Nat) (bs : List Byte) : (s.setDom k bs).freeCount = s.freeCount := rfl
@[simp] theorem State.setDom_pending (k : Nat) (bs : List Byte) : (s.setDom k bs).pending = s.pending := rfl
@[simp] theorem State.setDom_mem (k : Nat) (bs : List Byte) : (s.setDom k bs).mem = s.mem := rfl
@[simp] theorem State.setDom_objs (k : Nat) (bs : List Byte) : (s.setDom k bs).objs = s.objs := rfl
@[simp] theorem State.setDom_heldNum (k : Nat) (bs : List Byte) : (s.setDom k bs).heldNum = s.heldNum := rfl
@[simp] theorem State.setDom_heldDom (k : Nat) (bs : List Byte) : (s.setDom k bs).heldDom = s.heldDom := rfl
@[simp] theorem State.setDom_health (k : Nat) (bs : List Byte) : (s.setDom k bs).health = s.health := rfl
@[simp] theorem State.setDom_ctrl (k : Nat) (bs : List Byte) : (s.setDom k bs).ctrl = s.ctrl := rfl
@[simp] theorem State.setDom_power (k : Nat) (bs : List Byte) : (s.setDom k bs).power = s.power := rfl
@[simp] theorem State.setDom_disc (k : Nat) (bs : List Byte) : (s.setDom k bs).disc = s.disc := rfl
@[simp] theorem State.setDom_gate (k : Nat) (bs : List Byte) : (s.setDom k bs).gate = s.gate := rfl
@[simp] theorem State.setDom_kerb (k : Nat) (bs : List Byte) : (s.setDom k bs).kerb = s.kerb := rfl
@[simp] theorem State.setDom_inputs (k : Nat) (bs : List Byte) : (s.setDom k bs).inputs = s.inputs := rfl
@[simp] theorem State.setDom_market (k : Nat) (bs : List Byte) : (s.setDom k bs).market = s.market := rfl
@[simp] theorem State.setDom_queues (k : Nat) (bs : List Byte) : (s.setDom k bs).queues = s.queues := rfl
@[simp] theorem State.setDom_square (k : Nat) (bs : List Byte) : (s.setDom k bs).square = s.square := rfl
@[simp] theorem State.setDom_cal (k : Nat) (bs : List Byte) : (s.setDom k bs).cal = s.cal := rfl
@[simp] theorem State.setDom_link (k : Nat) (bs : List Byte) : (s.setDom k bs).link = s.link := rfl
@[simp] theorem State.setDom_sec (k : Nat) (bs : List Byte) : (s.setDom k bs).sec = s.sec := rfl
@[simp] theorem State.setDom_flash (k : Nat) (bs : List Byte) : (s.setDom k bs).flash = s.flash := rfl
@[simp] theorem State.setDom_loader (k : Nat) (bs : List Byte) : (s.setDom k bs).loader = s.loader := rfl
@[simp] theorem State.setDom_recov (k : Nat) (bs : List Byte) : (s.setDom k bs).recov = s.recov := rfl
/-! `deferNum` -/
@[simp] theorem State.deferNum_time (k : Nat) (v : Int) : (s.deferNum k v).time = s.time := rfl
@[simp] theorem State.deferNum_lastBoundary (k : Nat) (v : Int) : (s.deferNum k v).lastBoundary = s.lastBoundary := rfl
@[simp] theorem State.deferNum_freeCount (k : Nat) (v : Int) : (s.deferNum k v).freeCount = s.freeCount := rfl
@[simp] theorem State.deferNum_pending (k : Nat) (v : Int) : (s.deferNum k v).pending = s.pending := rfl
@[simp] theorem State.deferNum_mem (k : Nat) (v : Int) : (s.deferNum k v).mem = s.mem := rfl
@[simp] theorem State.deferNum_doms (k : Nat) (v : Int) : (s.deferNum k v).doms = s.doms := rfl
@[simp] theorem State.deferNum_heldDom (k : Nat) (v : Int) : (s.deferNum k v).heldDom = s.heldDom := rfl
@[simp] theorem State.deferNum_health (k : Nat) (v : Int) : (s.deferNum k v).health = s.health := rfl
@[simp] theorem State.deferNum_ctrl (k : Nat) (v : Int) : (s.deferNum k v).ctrl = s.ctrl := rfl
@[simp] theorem State.deferNum_power (k : Nat) (v : Int) : (s.deferNum k v).power = s.power := rfl
@[simp] theorem State.deferNum_disc (k : Nat) (v : Int) : (s.deferNum k v).disc = s.disc := rfl
@[simp] theorem State.deferNum_gate (k : Nat) (v : Int) : (s.deferNum k v).gate = s.gate := rfl
@[simp] theorem State.deferNum_kerb (k : Nat) (v : Int) : (s.deferNum k v).kerb = s.kerb := rfl
@[simp] theorem State.deferNum_inputs (k : Nat) (v : Int) : (s.deferNum k v).inputs = s.inputs := rfl
@[simp] theorem State.deferNum_market (k : Nat) (v : Int) : (s.deferNum k v).market = s.market := rfl
@[simp] theorem State.deferNum_queues (k : Nat) (v : Int) : (s.deferNum k v).queues = s.queues := rfl
@[simp] theorem State.deferNum_square (k : Nat) (v : Int) : (s.deferNum k v).square = s.square := rfl
@[simp] theorem State.deferNum_cal (k : Nat) (v : Int) : (s.deferNum k v).cal = s.cal := rfl
@[simp] theorem State.deferNum_link (k : Nat) (v : Int) : (s.deferNum k v).link = s.link := rfl
@[simp] theorem State.deferNum_sec (k : Nat) (v : Int) : (s.deferNum k v).sec = s.sec := rfl
@[simp] theorem State.deferNum_flash (k : Nat) (v : Int) : (s.deferNum k v).flash = s.flash := rfl
@[simp] theorem State.deferNum_loader (k : Nat) (v : Int) : (s.deferNum k v).loader = s.loader := rfl
@[simp] theorem State.deferNum_recov (k : Nat) (v : Int) : (s.deferNum k v).recov = s.recov := rfl
/-! `deferDom` -/
@[simp] theorem State.deferDom_time (k n : Nat) (bs : List Byte) : (s.deferDom k n bs).time = s.time := rfl
@[simp] theorem State.deferDom_lastBoundary (k n : Nat) (bs : List Byte) : (s.deferDom k n bs).lastBoundary = s.lastBoundary := rfl
@[simp] theorem State.deferDom_freeCount (k n : Nat) (bs : List Byte) : (s.deferDom k n bs).freeCount = s.freeCount := rfl
@[simp] theorem State.deferDom_pending (k n : Nat) (bs : List Byte) : (s.deferDom k n bs).pending = s.pending := rfl
@[simp] theorem State.deferDom_mem (k n : Nat) (bs : List Byte) : (s.deferDom k n bs).mem = s.mem := rfl
@[simp] theorem State.deferDom_objs (k n : Nat) (bs : List Byte) : (s.deferDom k n bs).objs = s.objs := rfl
@[simp] theorem State.deferDom_heldNum (k n : Nat) (bs : List Byte) : (s.deferDom k n bs).heldNum = s.heldNum := rfl
@[simp] theorem State.deferDom_health (k n : Nat) (bs : List Byte) : (s.deferDom k n bs).health = s.health := rfl
@[simp] theorem State.deferDom_ctrl (k n : Nat) (bs : List Byte) : (s.deferDom k n bs).ctrl = s.ctrl := rfl
@[simp] theorem State.deferDom_power (k n : Nat) (bs : List Byte) : (s.deferDom k n bs).power = s.power := rfl
@[simp] theorem State.deferDom_disc (k n : Nat) (bs : List Byte) : (s.deferDom k n bs).disc = s.disc := rfl
@[simp] theorem State.deferDom_gate (k n : Nat) (bs : List Byte) : (s.deferDom k n bs).gate = s.gate := rfl
@[simp] theorem State.deferDom_kerb (k n : Nat) (bs : List Byte) : (s.deferDom k n bs).kerb = s.kerb := rfl
@[simp] theorem State.deferDom_inputs (k n : Nat) (bs : List Byte) : (s.deferDom k n bs).inputs = s.inputs := rfl
@[simp] theorem State.deferDom_market (k n : Nat) (bs : List Byte) : (s.deferDom k n bs).market = s.market := rfl
@[simp] theorem State.deferDom_queues (k n : Nat) (bs : List Byte) : (s.deferDom k n bs).queues = s.queues := rfl
@[simp] theorem State.deferDom_square (k n : Nat) (bs : List Byte) : (s.deferDom k n bs).square = s.square := rfl
@[simp] theorem State.deferDom_cal (k n : Nat) (bs : List Byte) : (s.deferDom k n bs).cal = s.cal := rfl
@[simp] theorem State.deferDom_link (k n : Nat) (bs : List Byte) : (s.deferDom k n bs).link = s.link := rfl
@[simp] theorem State.deferDom_sec (k n : Nat) (bs : List Byte) : (s.deferDom k n bs).sec = s.sec := rfl
@[simp] theorem State.deferDom_flash (k n : Nat) (bs : List Byte) : (s.deferDom k n bs).flash = s.flash := rfl
@[simp] theorem State.deferDom_loader (k n : Nat) (bs : List Byte) : (s.deferDom k n bs).loader = s.loader := rfl
@[simp] theorem State.deferDom_recov (k n : Nat) (bs : List Byte) : (s.deferDom k n bs).recov = s.recov := rfl
/-! `drew` -/
@[simp] theorem State.drew_time (n : Nat) : (s.drew n).time = s.time := rfl
@[simp] theorem State.drew_lastBoundary (n : Nat) : (s.drew n).lastBoundary = s.lastBoundary := rfl
@[simp] theorem State.drew_pending (n : Nat) : (s.drew n).pending = s.pending := rfl
@[simp] theorem State.drew_mem (n : Nat) : (s.drew n).mem = s.mem := rfl
@[simp] theorem State.drew_objs (n : Nat) : (s.drew n).objs = s.objs := rfl
@[simp] theorem State.drew_doms (n : Nat) : (s.drew n).doms = s.doms := rfl
@[simp] theorem State.drew_heldNum (n : Nat) : (s.drew n).heldNum = s.heldNum := rfl
@[simp] theorem State.drew_heldDom (n : Nat) : (s.drew n).heldDom = s.heldDom := rfl
@[simp] theorem State.drew_health (n : Nat) : (s.drew n).health = s.health := rfl
@[simp] theorem State.drew_ctrl (n : Nat) : (s.drew n).ctrl = s.ctrl := rfl
@[simp] theorem State.drew_power (n : Nat) : (s.drew n).power = s.power := rfl
@[simp] theorem State.drew_disc (n : Nat) : (s.drew n).disc = s.disc := rfl
@[simp] theorem State.drew_gate (n : Nat) : (s.drew n).gate = s.gate := rfl
@[simp] theorem State.drew_kerb (n : Nat) : (s.drew n).kerb = s.kerb := rfl
@[simp] theorem State.drew_inputs (n : Nat) : (s.drew n).inputs = s.inputs := rfl
@[simp] theorem State.drew_market (n : Nat) : (s.drew n).market = s.market := rfl
@[simp] theorem State.drew_queues (n : Nat) : (s.drew n).queues = s.queues := rfl
@[simp] theorem State.drew_square (n : Nat) : (s.drew n).square = s.square := rfl
@[simp] theorem State.drew_cal (n : Nat) : (s.drew n).cal = s.cal := rfl
@[simp] theorem State.drew_link (n : Nat) : (s.drew n).link = s.link := rfl
@[simp] theorem State.drew_sec (n : Nat) : (s.drew n).sec = s.sec := rfl
@[simp] theorem State.drew_flash (n : Nat) : (s.drew n).flash = s.flash := rfl
@[simp] theorem State.drew_loader (n : Nat) : (s.drew n).loader = s.loader := rfl
@[simp] theorem State.drew_recov (n : Nat) : (s.drew n).recov = s.recov := rfl
/-! `store` -/
@[simp] theorem State.store_time (a : Nat) (bs : List Byte) : (s.store a bs).time = s.time := rfl
@[simp] theorem State.store_lastBoundary (a : Nat) (bs : List Byte) : (s.store a bs).lastBoundary = s.lastBoundary := rfl
@[simp] theorem State.store_freeCount (a : Nat) (bs : List Byte) : (s.store a bs).freeCount = s.freeCount := rfl
@[simp] theorem State.store_pending (a : Nat) (bs : List Byte) : (s.store a bs).pending = s.pending := rfl
@[simp] theorem State.store_objs (a : Nat) (bs : List Byte) : (s.store a bs).objs = s.objs := rfl
@[simp] theorem State.store_doms (a : Nat) (bs : List Byte) : (s.store a bs).doms = s.doms := rfl
@[simp] theorem State.store_heldNum (a : Nat) (bs : List Byte) : (s.store a bs).heldNum = s.heldNum := rfl
@[simp] theorem State.store_heldDom (a : Nat) (bs : List Byte) : (s.store a bs).heldDom = s.heldDom := rfl
@[simp] theorem State.store_health (a : Nat) (bs : List Byte) : (s.store a bs).health = s.health := rfl
@[simp] theorem State.store_ctrl (a : Nat) (bs : List Byte) : (s.store a bs).ctrl = s.ctrl := rfl
@[simp] theorem State.store_power (a : Nat) (bs : List Byte) : (s.store a bs).power = s.power := rfl
@[simp] theorem State.store_disc (a : Nat) (bs : List Byte) : (s.store a bs).disc = s.disc := rfl
@[simp] theorem State.store_gate (a : Nat) (bs : List Byte) : (s.store a bs).gate = s.gate := rfl
@[simp] theorem State.store_kerb (a : Nat) (bs : List Byte) : (s.store a bs).kerb = s.kerb := rfl
@[simp] theorem State.store_inputs (a : Nat) (bs : List Byte) : (s.store a bs).inputs = s.inputs := rfl
@[simp] theorem State.store_market (a : Nat) (bs : List Byte) : (s.store a bs).market = s.market := rfl
@[simp] theorem State.store_queues (a : Nat) (bs : List Byte) : (s.store a bs).queues = s.queues := rfl
@[simp] theorem State.store_square (a : Nat) (bs : List Byte) : (s.store a bs).square = s.square := rfl
@[simp] theorem State.store_cal (a : Nat) (bs : List Byte) : (s.store a bs).cal = s.cal := rfl
@[simp] theorem State.store_link (a : Nat) (bs : List Byte) : (s.store a bs).link = s.link := rfl
@[simp] theorem State.store_sec (a : Nat) (bs : List Byte) : (s.store a bs).sec = s.sec := rfl
@[simp] theorem State.store_flash (a : Nat) (bs : List Byte) : (s.store a bs).flash = s.flash := rfl
@[simp] theorem State.store_loader (a : Nat) (bs : List Byte) : (s.store a bs).loader = s.loader := rfl
@[simp] theorem State.store_recov (a : Nat) (bs : List Byte) : (s.store a bs).recov = s.recov := rfl
/-! `modPort` -/
@[simp] theorem State.modPort_time (p : Nat) (f : SensorPort → SensorPort) : (s.modPort p f).time = s.time := rfl
@[simp] theorem State.modPort_lastBoundary (p : Nat) (f : SensorPort → SensorPort) : (s.modPort p f).lastBoundary = s.lastBoundary := rfl
@[simp] theorem State.modPort_freeCount (p : Nat) (f : SensorPort → SensorPort) : (s.modPort p f).freeCount = s.freeCount := rfl
@[simp] theorem State.modPort_pending (p : Nat) (f : SensorPort → SensorPort) : (s.modPort p f).pending = s.pending := rfl
@[simp] theorem State.modPort_mem (p : Nat) (f : SensorPort → SensorPort) : (s.modPort p f).mem = s.mem := rfl
@[simp] theorem State.modPort_objs (p : Nat) (f : SensorPort → SensorPort) : (s.modPort p f).objs = s.objs := rfl
@[simp] theorem State.modPort_doms (p : Nat) (f : SensorPort → SensorPort) : (s.modPort p f).doms = s.doms := rfl
@[simp] theorem State.modPort_heldNum (p : Nat) (f : SensorPort → SensorPort) : (s.modPort p f).heldNum = s.heldNum := rfl
@[simp] theorem State.modPort_heldDom (p : Nat) (f : SensorPort → SensorPort) : (s.modPort p f).heldDom = s.heldDom := rfl
@[simp] theorem State.modPort_health (p : Nat) (f : SensorPort → SensorPort) : (s.modPort p f).health = s.health := rfl
@[simp] theorem State.modPort_ctrl (p : Nat) (f : SensorPort → SensorPort) : (s.modPort p f).ctrl = s.ctrl := rfl
@[simp] theorem State.modPort_power (p : Nat) (f : SensorPort → SensorPort) : (s.modPort p f).power = s.power := rfl
@[simp] theorem State.modPort_disc (p : Nat) (f : SensorPort → SensorPort) : (s.modPort p f).disc = s.disc := rfl
@[simp] theorem State.modPort_kerb (p : Nat) (f : SensorPort → SensorPort) : (s.modPort p f).kerb = s.kerb := rfl
@[simp] theorem State.modPort_inputs (p : Nat) (f : SensorPort → SensorPort) : (s.modPort p f).inputs = s.inputs := rfl
@[simp] theorem State.modPort_market (p : Nat) (f : SensorPort → SensorPort) : (s.modPort p f).market = s.market := rfl
@[simp] theorem State.modPort_queues (p : Nat) (f : SensorPort → SensorPort) : (s.modPort p f).queues = s.queues := rfl
@[simp] theorem State.modPort_square (p : Nat) (f : SensorPort → SensorPort) : (s.modPort p f).square = s.square := rfl
@[simp] theorem State.modPort_cal (p : Nat) (f : SensorPort → SensorPort) : (s.modPort p f).cal = s.cal := rfl
@[simp] theorem State.modPort_link (p : Nat) (f : SensorPort → SensorPort) : (s.modPort p f).link = s.link := rfl
@[simp] theorem State.modPort_sec (p : Nat) (f : SensorPort → SensorPort) : (s.modPort p f).sec = s.sec := rfl
@[simp] theorem State.modPort_flash (p : Nat) (f : SensorPort → SensorPort) : (s.modPort p f).flash = s.flash := rfl
@[simp] theorem State.modPort_loader (p : Nat) (f : SensorPort → SensorPort) : (s.modPort p f).loader = s.loader := rfl
@[simp] theorem State.modPort_recov (p : Nat) (f : SensorPort → SensorPort) : (s.modPort p f).recov = s.recov := rfl
/-! `modTile` -/
@[simp] theorem State.modTile_time (t : Nat) (f : Tile → Tile) : (s.modTile t f).time = s.time := rfl
@[simp] theorem State.modTile_lastBoundary (t : Nat) (f : Tile → Tile) : (s.modTile t f).lastBoundary = s.lastBoundary := rfl
@[simp] theorem State.modTile_freeCount (t : Nat) (f : Tile → Tile) : (s.modTile t f).freeCount = s.freeCount := rfl
@[simp] theorem State.modTile_pending (t : Nat) (f : Tile → Tile) : (s.modTile t f).pending = s.pending := rfl
@[simp] theorem State.modTile_mem (t : Nat) (f : Tile → Tile) : (s.modTile t f).mem = s.mem := rfl
@[simp] theorem State.modTile_objs (t : Nat) (f : Tile → Tile) : (s.modTile t f).objs = s.objs := rfl
@[simp] theorem State.modTile_doms (t : Nat) (f : Tile → Tile) : (s.modTile t f).doms = s.doms := rfl
@[simp] theorem State.modTile_heldNum (t : Nat) (f : Tile → Tile) : (s.modTile t f).heldNum = s.heldNum := rfl
@[simp] theorem State.modTile_heldDom (t : Nat) (f : Tile → Tile) : (s.modTile t f).heldDom = s.heldDom := rfl
@[simp] theorem State.modTile_health (t : Nat) (f : Tile → Tile) : (s.modTile t f).health = s.health := rfl
@[simp] theorem State.modTile_ctrl (t : Nat) (f : Tile → Tile) : (s.modTile t f).ctrl = s.ctrl := rfl
@[simp] theorem State.modTile_power (t : Nat) (f : Tile → Tile) : (s.modTile t f).power = s.power := rfl
@[simp] theorem State.modTile_disc (t : Nat) (f : Tile → Tile) : (s.modTile t f).disc = s.disc := rfl
@[simp] theorem State.modTile_gate (t : Nat) (f : Tile → Tile) : (s.modTile t f).gate = s.gate := rfl
@[simp] theorem State.modTile_kerb (t : Nat) (f : Tile → Tile) : (s.modTile t f).kerb = s.kerb := rfl
@[simp] theorem State.modTile_inputs (t : Nat) (f : Tile → Tile) : (s.modTile t f).inputs = s.inputs := rfl
@[simp] theorem State.modTile_queues (t : Nat) (f : Tile → Tile) : (s.modTile t f).queues = s.queues := rfl
@[simp] theorem State.modTile_square (t : Nat) (f : Tile → Tile) : (s.modTile t f).square = s.square := rfl
@[simp] theorem State.modTile_cal (t : Nat) (f : Tile → Tile) : (s.modTile t f).cal = s.cal := rfl
@[simp] theorem State.modTile_link (t : Nat) (f : Tile → Tile) : (s.modTile t f).link = s.link := rfl
@[simp] theorem State.modTile_sec (t : Nat) (f : Tile → Tile) : (s.modTile t f).sec = s.sec := rfl
@[simp] theorem State.modTile_flash (t : Nat) (f : Tile → Tile) : (s.modTile t f).flash = s.flash := rfl
@[simp] theorem State.modTile_loader (t : Nat) (f : Tile → Tile) : (s.modTile t f).loader = s.loader := rfl
@[simp] theorem State.modTile_recov (t : Nat) (f : Tile → Tile) : (s.modTile t f).recov = s.recov := rfl
/-! `modCtx` -/
@[simp] theorem State.modCtx_time (n : Nat) (f : Context → Context) : (s.modCtx n f).time = s.time := rfl
@[simp] theorem State.modCtx_lastBoundary (n : Nat) (f : Context → Context) : (s.modCtx n f).lastBoundary = s.lastBoundary := rfl
@[simp] theorem State.modCtx_freeCount (n : Nat) (f : Context → Context) : (s.modCtx n f).freeCount = s.freeCount := rfl
@[simp] theorem State.modCtx_pending (n : Nat) (f : Context → Context) : (s.modCtx n f).pending = s.pending := rfl
@[simp] theorem State.modCtx_mem (n : Nat) (f : Context → Context) : (s.modCtx n f).mem = s.mem := rfl
@[simp] theorem State.modCtx_objs (n : Nat) (f : Context → Context) : (s.modCtx n f).objs = s.objs := rfl
@[simp] theorem State.modCtx_doms (n : Nat) (f : Context → Context) : (s.modCtx n f).doms = s.doms := rfl
@[simp] theorem State.modCtx_heldNum (n : Nat) (f : Context → Context) : (s.modCtx n f).heldNum = s.heldNum := rfl
@[simp] theorem State.modCtx_heldDom (n : Nat) (f : Context → Context) : (s.modCtx n f).heldDom = s.heldDom := rfl
@[simp] theorem State.modCtx_health (n : Nat) (f : Context → Context) : (s.modCtx n f).health = s.health := rfl
@[simp] theorem State.modCtx_ctrl (n : Nat) (f : Context → Context) : (s.modCtx n f).ctrl = s.ctrl := rfl
@[simp] theorem State.modCtx_power (n : Nat) (f : Context → Context) : (s.modCtx n f).power = s.power := rfl
@[simp] theorem State.modCtx_disc (n : Nat) (f : Context → Context) : (s.modCtx n f).disc = s.disc := rfl
@[simp] theorem State.modCtx_gate (n : Nat) (f : Context → Context) : (s.modCtx n f).gate = s.gate := rfl
@[simp] theorem State.modCtx_kerb (n : Nat) (f : Context → Context) : (s.modCtx n f).kerb = s.kerb := rfl
@[simp] theorem State.modCtx_inputs (n : Nat) (f : Context → Context) : (s.modCtx n f).inputs = s.inputs := rfl
@[simp] theorem State.modCtx_queues (n : Nat) (f : Context → Context) : (s.modCtx n f).queues = s.queues := rfl
@[simp] theorem State.modCtx_square (n : Nat) (f : Context → Context) : (s.modCtx n f).square = s.square := rfl
@[simp] theorem State.modCtx_cal (n : Nat) (f : Context → Context) : (s.modCtx n f).cal = s.cal := rfl
@[simp] theorem State.modCtx_link (n : Nat) (f : Context → Context) : (s.modCtx n f).link = s.link := rfl
@[simp] theorem State.modCtx_sec (n : Nat) (f : Context → Context) : (s.modCtx n f).sec = s.sec := rfl
@[simp] theorem State.modCtx_flash (n : Nat) (f : Context → Context) : (s.modCtx n f).flash = s.flash := rfl
@[simp] theorem State.modCtx_loader (n : Nat) (f : Context → Context) : (s.modCtx n f).loader = s.loader := rfl
@[simp] theorem State.modCtx_recov (n : Nat) (f : Context → Context) : (s.modCtx n f).recov = s.recov := rfl
/-! `progress` -/
@[simp] theorem State.progress_time (u n : Nat) : (s.progress u n).time = s.time := rfl
@[simp] theorem State.progress_lastBoundary (u n : Nat) : (s.progress u n).lastBoundary = s.lastBoundary := rfl
@[simp] theorem State.progress_freeCount (u n : Nat) : (s.progress u n).freeCount = s.freeCount := rfl
@[simp] theorem State.progress_pending (u n : Nat) : (s.progress u n).pending = s.pending := rfl
@[simp] theorem State.progress_mem (u n : Nat) : (s.progress u n).mem = s.mem := rfl
@[simp] theorem State.progress_objs (u n : Nat) : (s.progress u n).objs = s.objs := rfl
@[simp] theorem State.progress_doms (u n : Nat) : (s.progress u n).doms = s.doms := rfl
@[simp] theorem State.progress_heldNum (u n : Nat) : (s.progress u n).heldNum = s.heldNum := rfl
@[simp] theorem State.progress_heldDom (u n : Nat) : (s.progress u n).heldDom = s.heldDom := rfl
@[simp] theorem State.progress_health (u n : Nat) : (s.progress u n).health = s.health := rfl
@[simp] theorem State.progress_ctrl (u n : Nat) : (s.progress u n).ctrl = s.ctrl := rfl
@[simp] theorem State.progress_power (u n : Nat) : (s.progress u n).power = s.power := rfl
@[simp] theorem State.progress_disc (u n : Nat) : (s.progress u n).disc = s.disc := rfl
@[simp] theorem State.progress_gate (u n : Nat) : (s.progress u n).gate = s.gate := rfl
@[simp] theorem State.progress_kerb (u n : Nat) : (s.progress u n).kerb = s.kerb := rfl
@[simp] theorem State.progress_inputs (u n : Nat) : (s.progress u n).inputs = s.inputs := rfl
@[simp] theorem State.progress_market (u n : Nat) : (s.progress u n).market = s.market := rfl
@[simp] theorem State.progress_queues (u n : Nat) : (s.progress u n).queues = s.queues := rfl
@[simp] theorem State.progress_square (u n : Nat) : (s.progress u n).square = s.square := rfl
@[simp] theorem State.progress_cal (u n : Nat) : (s.progress u n).cal = s.cal := rfl
@[simp] theorem State.progress_link (u n : Nat) : (s.progress u n).link = s.link := rfl
@[simp] theorem State.progress_sec (u n : Nat) : (s.progress u n).sec = s.sec := rfl
@[simp] theorem State.progress_flash (u n : Nat) : (s.progress u n).flash = s.flash := rfl
@[simp] theorem State.progress_loader (u n : Nat) : (s.progress u n).loader = s.loader := rfl

/-! ## Fields an update changes -/

@[simp] theorem State.advance_time (t : Nat) : (s.advance t).time = max s.time t := rfl
@[simp] theorem State.setNum_objs (k : Nat) (v : Int) : (s.setNum k v).objs = s.objs.set k v := rfl
@[simp] theorem State.setNat_objs (k v : Nat) : (s.setNat k v).objs = s.objs.set k (v : Nat) := rfl
@[simp] theorem State.setDom_doms (k : Nat) (bs : List Byte) : (s.setDom k bs).doms = s.doms.set k bs := rfl
@[simp] theorem State.store_mem (a : Nat) (bs : List Byte) : (s.store a bs).mem = Memory.writeBytes s.mem a bs := rfl
@[simp] theorem State.drew_freeCount (n : Nat) : (s.drew n).freeCount = s.freeCount + n := rfl

/-! ## Several objects at once -/

/-- One step of `setAll`. -/
theorem State.setAll_cons (e : Nat × Int) (l : List (Nat × Int)) : s.setAll (e :: l) = (s.setNum e.1 e.2).setAll l := rfl
@[simp] theorem State.setAll_nil : s.setAll [] = s := rfl

@[simp] theorem State.setAll_time (l : List (Nat × Int)) : (s.setAll l).time = s.time := by
  induction l generalizing s with
  | nil => rfl
  | cons e l ih => rw [State.setAll_cons, ih]; rfl
@[simp] theorem State.setAll_lastBoundary (l : List (Nat × Int)) : (s.setAll l).lastBoundary = s.lastBoundary := by
  induction l generalizing s with
  | nil => rfl
  | cons e l ih => rw [State.setAll_cons, ih]; rfl
@[simp] theorem State.setAll_freeCount (l : List (Nat × Int)) : (s.setAll l).freeCount = s.freeCount := by
  induction l generalizing s with
  | nil => rfl
  | cons e l ih => rw [State.setAll_cons, ih]; rfl
@[simp] theorem State.setAll_pending (l : List (Nat × Int)) : (s.setAll l).pending = s.pending := by
  induction l generalizing s with
  | nil => rfl
  | cons e l ih => rw [State.setAll_cons, ih]; rfl
@[simp] theorem State.setAll_mem (l : List (Nat × Int)) : (s.setAll l).mem = s.mem := by
  induction l generalizing s with
  | nil => rfl
  | cons e l ih => rw [State.setAll_cons, ih]; rfl
@[simp] theorem State.setAll_doms (l : List (Nat × Int)) : (s.setAll l).doms = s.doms := by
  induction l generalizing s with
  | nil => rfl
  | cons e l ih => rw [State.setAll_cons, ih]; rfl
@[simp] theorem State.setAll_heldNum (l : List (Nat × Int)) : (s.setAll l).heldNum = s.heldNum := by
  induction l generalizing s with
  | nil => rfl
  | cons e l ih => rw [State.setAll_cons, ih]; rfl
@[simp] theorem State.setAll_heldDom (l : List (Nat × Int)) : (s.setAll l).heldDom = s.heldDom := by
  induction l generalizing s with
  | nil => rfl
  | cons e l ih => rw [State.setAll_cons, ih]; rfl
@[simp] theorem State.setAll_health (l : List (Nat × Int)) : (s.setAll l).health = s.health := by
  induction l generalizing s with
  | nil => rfl
  | cons e l ih => rw [State.setAll_cons, ih]; rfl
@[simp] theorem State.setAll_ctrl (l : List (Nat × Int)) : (s.setAll l).ctrl = s.ctrl := by
  induction l generalizing s with
  | nil => rfl
  | cons e l ih => rw [State.setAll_cons, ih]; rfl
@[simp] theorem State.setAll_power (l : List (Nat × Int)) : (s.setAll l).power = s.power := by
  induction l generalizing s with
  | nil => rfl
  | cons e l ih => rw [State.setAll_cons, ih]; rfl
@[simp] theorem State.setAll_disc (l : List (Nat × Int)) : (s.setAll l).disc = s.disc := by
  induction l generalizing s with
  | nil => rfl
  | cons e l ih => rw [State.setAll_cons, ih]; rfl
@[simp] theorem State.setAll_gate (l : List (Nat × Int)) : (s.setAll l).gate = s.gate := by
  induction l generalizing s with
  | nil => rfl
  | cons e l ih => rw [State.setAll_cons, ih]; rfl
@[simp] theorem State.setAll_kerb (l : List (Nat × Int)) : (s.setAll l).kerb = s.kerb := by
  induction l generalizing s with
  | nil => rfl
  | cons e l ih => rw [State.setAll_cons, ih]; rfl
@[simp] theorem State.setAll_inputs (l : List (Nat × Int)) : (s.setAll l).inputs = s.inputs := by
  induction l generalizing s with
  | nil => rfl
  | cons e l ih => rw [State.setAll_cons, ih]; rfl
@[simp] theorem State.setAll_market (l : List (Nat × Int)) : (s.setAll l).market = s.market := by
  induction l generalizing s with
  | nil => rfl
  | cons e l ih => rw [State.setAll_cons, ih]; rfl
@[simp] theorem State.setAll_queues (l : List (Nat × Int)) : (s.setAll l).queues = s.queues := by
  induction l generalizing s with
  | nil => rfl
  | cons e l ih => rw [State.setAll_cons, ih]; rfl
@[simp] theorem State.setAll_square (l : List (Nat × Int)) : (s.setAll l).square = s.square := by
  induction l generalizing s with
  | nil => rfl
  | cons e l ih => rw [State.setAll_cons, ih]; rfl
@[simp] theorem State.setAll_cal (l : List (Nat × Int)) : (s.setAll l).cal = s.cal := by
  induction l generalizing s with
  | nil => rfl
  | cons e l ih => rw [State.setAll_cons, ih]; rfl
@[simp] theorem State.setAll_link (l : List (Nat × Int)) : (s.setAll l).link = s.link := by
  induction l generalizing s with
  | nil => rfl
  | cons e l ih => rw [State.setAll_cons, ih]; rfl
@[simp] theorem State.setAll_sec (l : List (Nat × Int)) : (s.setAll l).sec = s.sec := by
  induction l generalizing s with
  | nil => rfl
  | cons e l ih => rw [State.setAll_cons, ih]; rfl
@[simp] theorem State.setAll_flash (l : List (Nat × Int)) : (s.setAll l).flash = s.flash := by
  induction l generalizing s with
  | nil => rfl
  | cons e l ih => rw [State.setAll_cons, ih]; rfl
@[simp] theorem State.setAll_loader (l : List (Nat × Int)) : (s.setAll l).loader = s.loader := by
  induction l generalizing s with
  | nil => rfl
  | cons e l ih => rw [State.setAll_cons, ih]; rfl
@[simp] theorem State.setAll_recov (l : List (Nat × Int)) : (s.setAll l).recov = s.recov := by
  induction l generalizing s with
  | nil => rfl
  | cons e l ih => rw [State.setAll_cons, ih]; rfl

/-! ## Reads of objects after writes -/

/-- The object just written reads the value written. -/
@[simp] theorem State.num_setNum_self (k : Nat) (v : Int) : (s.setNum k v).num k = v := by simp [State.num]

/-- Every other object reads as before. -/
theorem State.num_setNum_ne {k j : Nat} (v : Int) (h : j ≠ k) : (s.setNum k v).num j = s.num j := by
  simp [State.num, SMap.find?_set_ne s.objs v h]

@[simp] theorem State.num_setNat_self (k v : Nat) : (s.setNat k v).num k = (v : Nat) := s.num_setNum_self k v
@[simp] theorem State.nat_setNat_self (k v : Nat) : (s.setNat k v).nat k = v := by simp [State.nat]

theorem State.num_setNat_ne {k j : Nat} (v : Nat) (h : j ≠ k) : (s.setNat k v).num j = s.num j := s.num_setNum_ne _ h
theorem State.nat_setNat_ne {k j : Nat} (v : Nat) (h : j ≠ k) : (s.setNat k v).nat j = s.nat j := by
  simp [State.nat, s.num_setNat_ne v h]
theorem State.nat_setNum_ne {k j : Nat} (v : Int) (h : j ≠ k) : (s.setNum k v).nat j = s.nat j := by
  simp [State.nat, s.num_setNum_ne v h]

/-- A counter reads its sum modulo its width. -/
@[simp] theorem State.nat_count_self (w k n : Nat) : (s.count w k n).nat k = (s.nat k + n) % 2 ^ w := by simp [State.count]
theorem State.nat_count_ne {w k j n : Nat} (h : j ≠ k) : (s.count w k n).nat j = s.nat j := s.nat_setNat_ne _ h
theorem State.num_count_ne {w k j n : Nat} (h : j ≠ k) : (s.count w k n).num j = s.num j := s.num_setNat_ne _ h

/-- An object that `setAll` does not name reads as before. -/
theorem State.num_setAll_ne {j : Nat} (l : List (Nat × Int)) (h : ∀ e ∈ l, j ≠ e.1) : (s.setAll l).num j = s.num j := by
  induction l generalizing s with
  | nil => rfl
  | cons e l ih =>
    rw [State.setAll_cons, ih (s.setNum e.1 e.2) (fun x hx => h x (List.mem_cons_of_mem _ hx))]
    exact s.num_setNum_ne _ (h e (List.mem_cons_self ..))

/-- A deferred write reads at once and keeps the value in force (R333). -/
@[simp] theorem State.num_deferNum_self (k : Nat) (v : Int) : (s.deferNum k v).num k = v := by simp [State.num, State.deferNum]
theorem State.forceNum_deferNum (k : Nat) (v : Int) : (s.deferNum k v).forceNum k = s.forceNum k := by
  unfold State.forceNum State.deferNum
  cases h : s.heldNum.find? k with
  | some x => simp [h]
  | none => simp

/-- Updates that leave the objects alone leave their values. -/
theorem State.num_congr {s s' : State} (h : s'.objs = s.objs) (k : Nat) : s'.num k = s.num k := by simp [State.num, h]
theorem State.nat_congr {s s' : State} (h : s'.objs = s.objs) (k : Nat) : s'.nat k = s.nat k := by simp [State.nat, State.num_congr h]

@[simp] theorem State.num_advance (t k : Nat) : (s.advance t).num k = s.num k := rfl
@[simp] theorem State.nat_advance (t k : Nat) : (s.advance t).nat k = s.nat k := rfl
@[simp] theorem State.on_advance (t k : Nat) : (s.advance t).on k = s.on k := rfl
@[simp] theorem State.dev_advance (t : Nat) : (s.advance t).dev = s.dev := rfl
@[simp] theorem State.dieUp_advance (t : Nat) : (s.advance t).dieUp = s.dieUp := rfl

/-! ## The named parts -/

@[simp] theorem State.port_modPort_self (p : Nat) (f : SensorPort → SensorPort) : (s.modPort p f).port p = f (s.port p) := by
  simp [State.port, State.modPort, Gate.port]
theorem State.port_modPort_ne {p q : Nat} (f : SensorPort → SensorPort) (h : q ≠ p) : (s.modPort p f).port q = s.port q := by
  simp [State.port, State.modPort, Gate.port, SMap.get_upd_ne _ _ _ h]
@[simp] theorem State.tile_modTile_self (t : Nat) (f : Tile → Tile) : (s.modTile t f).tile t = f (s.tile t) := by
  simp [State.tile, State.modTile, Market.tile]
theorem State.tile_modTile_ne {t u : Nat} (f : Tile → Tile) (h : u ≠ t) : (s.modTile t f).tile u = s.tile u := by
  simp [State.tile, State.modTile, Market.tile, SMap.get_upd_ne _ _ _ h]
@[simp] theorem State.ctx_modCtx_self (n : Nat) (f : Context → Context) : (s.modCtx n f).ctx n = f (s.ctx n) := by
  simp [State.ctx, State.modCtx, Market.ctx]
theorem State.ctx_modCtx_ne {n k : Nat} (f : Context → Context) (h : k ≠ n) : (s.modCtx n f).ctx k = s.ctx k := by
  simp [State.ctx, State.modCtx, Market.ctx, SMap.get_upd_ne _ _ _ h]

/-! ## Notices and faults -/

@[simp] theorem State.raise_time (code u : Nat) : (s.raise code u).time = s.time := by unfold State.raise; split <;> rfl
@[simp] theorem State.raiseIf_time (c : Bool) (code u : Nat) : (s.raiseIf c code u).time = s.time := by cases c <;> simp [State.raiseIf]
@[simp] theorem State.raise_lastBoundary (code u : Nat) : (s.raise code u).lastBoundary = s.lastBoundary := by unfold State.raise; split <;> rfl
@[simp] theorem State.raiseIf_lastBoundary (c : Bool) (code u : Nat) : (s.raiseIf c code u).lastBoundary = s.lastBoundary := by cases c <;> simp [State.raiseIf]
@[simp] theorem State.raise_freeCount (code u : Nat) : (s.raise code u).freeCount = s.freeCount := by unfold State.raise; split <;> rfl
@[simp] theorem State.raiseIf_freeCount (c : Bool) (code u : Nat) : (s.raiseIf c code u).freeCount = s.freeCount := by cases c <;> simp [State.raiseIf]
@[simp] theorem State.raise_pending (code u : Nat) : (s.raise code u).pending = s.pending := by unfold State.raise; split <;> rfl
@[simp] theorem State.raiseIf_pending (c : Bool) (code u : Nat) : (s.raiseIf c code u).pending = s.pending := by cases c <;> simp [State.raiseIf]
@[simp] theorem State.raise_mem (code u : Nat) : (s.raise code u).mem = s.mem := by unfold State.raise; split <;> rfl
@[simp] theorem State.raiseIf_mem (c : Bool) (code u : Nat) : (s.raiseIf c code u).mem = s.mem := by cases c <;> simp [State.raiseIf]
@[simp] theorem State.raise_doms (code u : Nat) : (s.raise code u).doms = s.doms := by unfold State.raise; split <;> rfl
@[simp] theorem State.raiseIf_doms (c : Bool) (code u : Nat) : (s.raiseIf c code u).doms = s.doms := by cases c <;> simp [State.raiseIf]
@[simp] theorem State.raise_heldNum (code u : Nat) : (s.raise code u).heldNum = s.heldNum := by unfold State.raise; split <;> rfl
@[simp] theorem State.raiseIf_heldNum (c : Bool) (code u : Nat) : (s.raiseIf c code u).heldNum = s.heldNum := by cases c <;> simp [State.raiseIf]
@[simp] theorem State.raise_heldDom (code u : Nat) : (s.raise code u).heldDom = s.heldDom := by unfold State.raise; split <;> rfl
@[simp] theorem State.raiseIf_heldDom (c : Bool) (code u : Nat) : (s.raiseIf c code u).heldDom = s.heldDom := by cases c <;> simp [State.raiseIf]
@[simp] theorem State.raise_ctrl (code u : Nat) : (s.raise code u).ctrl = s.ctrl := by unfold State.raise; split <;> rfl
@[simp] theorem State.raiseIf_ctrl (c : Bool) (code u : Nat) : (s.raiseIf c code u).ctrl = s.ctrl := by cases c <;> simp [State.raiseIf]
@[simp] theorem State.raise_power (code u : Nat) : (s.raise code u).power = s.power := by unfold State.raise; split <;> rfl
@[simp] theorem State.raiseIf_power (c : Bool) (code u : Nat) : (s.raiseIf c code u).power = s.power := by cases c <;> simp [State.raiseIf]
@[simp] theorem State.raise_disc (code u : Nat) : (s.raise code u).disc = s.disc := by unfold State.raise; split <;> rfl
@[simp] theorem State.raiseIf_disc (c : Bool) (code u : Nat) : (s.raiseIf c code u).disc = s.disc := by cases c <;> simp [State.raiseIf]
@[simp] theorem State.raise_gate (code u : Nat) : (s.raise code u).gate = s.gate := by unfold State.raise; split <;> rfl
@[simp] theorem State.raiseIf_gate (c : Bool) (code u : Nat) : (s.raiseIf c code u).gate = s.gate := by cases c <;> simp [State.raiseIf]
@[simp] theorem State.raise_kerb (code u : Nat) : (s.raise code u).kerb = s.kerb := by unfold State.raise; split <;> rfl
@[simp] theorem State.raiseIf_kerb (c : Bool) (code u : Nat) : (s.raiseIf c code u).kerb = s.kerb := by cases c <;> simp [State.raiseIf]
@[simp] theorem State.raise_inputs (code u : Nat) : (s.raise code u).inputs = s.inputs := by unfold State.raise; split <;> rfl
@[simp] theorem State.raiseIf_inputs (c : Bool) (code u : Nat) : (s.raiseIf c code u).inputs = s.inputs := by cases c <;> simp [State.raiseIf]
@[simp] theorem State.raise_market (code u : Nat) : (s.raise code u).market = s.market := by unfold State.raise; split <;> rfl
@[simp] theorem State.raiseIf_market (c : Bool) (code u : Nat) : (s.raiseIf c code u).market = s.market := by cases c <;> simp [State.raiseIf]
@[simp] theorem State.raise_queues (code u : Nat) : (s.raise code u).queues = s.queues := by unfold State.raise; split <;> rfl
@[simp] theorem State.raiseIf_queues (c : Bool) (code u : Nat) : (s.raiseIf c code u).queues = s.queues := by cases c <;> simp [State.raiseIf]
@[simp] theorem State.raise_square (code u : Nat) : (s.raise code u).square = s.square := by unfold State.raise; split <;> rfl
@[simp] theorem State.raiseIf_square (c : Bool) (code u : Nat) : (s.raiseIf c code u).square = s.square := by cases c <;> simp [State.raiseIf]
@[simp] theorem State.raise_cal (code u : Nat) : (s.raise code u).cal = s.cal := by unfold State.raise; split <;> rfl
@[simp] theorem State.raiseIf_cal (c : Bool) (code u : Nat) : (s.raiseIf c code u).cal = s.cal := by cases c <;> simp [State.raiseIf]
@[simp] theorem State.raise_link (code u : Nat) : (s.raise code u).link = s.link := by unfold State.raise; split <;> rfl
@[simp] theorem State.raiseIf_link (c : Bool) (code u : Nat) : (s.raiseIf c code u).link = s.link := by cases c <;> simp [State.raiseIf]
@[simp] theorem State.raise_sec (code u : Nat) : (s.raise code u).sec = s.sec := by unfold State.raise; split <;> rfl
@[simp] theorem State.raiseIf_sec (c : Bool) (code u : Nat) : (s.raiseIf c code u).sec = s.sec := by cases c <;> simp [State.raiseIf]
@[simp] theorem State.raise_flash (code u : Nat) : (s.raise code u).flash = s.flash := by unfold State.raise; split <;> rfl
@[simp] theorem State.raiseIf_flash (c : Bool) (code u : Nat) : (s.raiseIf c code u).flash = s.flash := by cases c <;> simp [State.raiseIf]
@[simp] theorem State.raise_loader (code u : Nat) : (s.raise code u).loader = s.loader := by unfold State.raise; split <;> rfl
@[simp] theorem State.raiseIf_loader (c : Bool) (code u : Nat) : (s.raiseIf c code u).loader = s.loader := by cases c <;> simp [State.raiseIf]
@[simp] theorem State.raise_recov (code u : Nat) : (s.raise code u).recov = s.recov := by unfold State.raise; split <;> rfl
@[simp] theorem State.raiseIf_recov (c : Bool) (code u : Nat) : (s.raiseIf c code u).recov = s.recov := by cases c <;> simp [State.raiseIf]

/-- The objects that raising a code writes (R348, R353). -/
def raiseKeys : List Nat := [Ob.statusLogNewest, Ob.faultCount, Ob.faultsPending, Ob.noticeCount]

/-- What raising a code does to the log (R353), and which objects it leaves alone. -/
theorem State.raise_spec (code u : Nat) :
    (s.raise code u).health.log = logAfter s.time code u s.health.log ∧
      ∀ k, k ∉ raiseKeys → (s.raise code u).num k = s.num k := by
  unfold State.raise
  split
  · refine ⟨rfl, fun k hk => ?_⟩
    simp only [raiseKeys, List.mem_cons, List.not_mem_nil, or_false, not_or] at hk
    show (((s.setNat _ _).count _ _ _).setNat _ _).num k = _
    rw [State.num_setNat_ne _ _ hk.2.2.1, State.num_count_ne _ hk.2.1, State.num_setNat_ne _ _ hk.1]
  · refine ⟨rfl, fun k hk => ?_⟩
    simp only [raiseKeys, List.mem_cons, List.not_mem_nil, or_false, not_or] at hk
    show ((s.setNat _ _).count _ _ _).num k = _
    rw [State.num_count_ne _ hk.2.2.2, State.num_setNat_ne _ _ hk.1]

/-- The log never holds more than its 256 entries (R353). -/
theorem logAfter_length (t code u : Nat) (log : List LogEntry) (h : log.length ≤ 256) : (logAfter t code u log).length ≤ 256 := by
  have merge : ∀ l l' : List LogEntry, mergeLog t code u l = some l' → l'.length = l.length := by
    intro l
    induction l with
    | nil => intro l' h; cases h
    | cons e l ih =>
      intro l' h
      unfold mergeLog at h
      split at h
      · split at h
        · cases h; rfl
        · cases h
      · cases hm : mergeLog t code u l with
        | none => simp [hm] at h
        | some x => simp [hm] at h; subst h; simp [ih x hm]
  unfold logAfter
  split
  · rename_i l hl; rw [merge log l hl]; exact h
  · simp only [List.length_take]; omega

end Sys2Proof.Machine
end

