-- ==== Sys2Proof/WellFormed.lean ====
section
/-! DEFINITION. Well-formed commands: operands as wide as the objects, records and lines that carry them. -/

namespace Sys2Proof

/-- Whether an integer fits `w` bits in two's complement. -/
def fitsInt (w : Nat) (x : Int) : Bool := decide (-(2 ^ (w - 1) : Nat) ≤ x ∧ x < (2 ^ (w - 1) : Nat))

/-- Whether a package's fixed-size fields have their sizes and its pinned range of routes starts within the table (Tables 17-2, 18-1, 18-2; R198). -/
def phaseWf : FoePhase → Bool
  | .begin => true
  | .finish p => decide (p.name.length ≤ 32 ∧ p.header.length ≤ 256 ∧ p.placements.length ≤ 3) &&
      (match p.pinned with
        | some off => decide (off < 33554432)
        | none => true)

/-- Whether a surface patch holds at most 4,096 pixels (R52). -/
def patchWf : DeliveryTurn → Bool
  | .queue _ => true
  | .patch r => decide (r.w * r.h ≤ 4096)

/-- Whether a command is well-formed: written values fit their objects, data fits the transfer that carries it (R34, R88, R281,
R336), measured values fit the objects that show them (Tables 14-6, 14-8), and a packet's last bit comes no earlier than its
header. -/
def Instr.wf : Instr → Bool
  | .inputPowerValid => true
  | .dieBringupDone _ => true
  | .autoload _ => true
  | .inputVoltageExcursion _ mv => decide (mv ≤ 40000)
  | .inputBelowHoldUp _ mv => decide (mv ≤ 40000)
  | .inputRestored _ mv => decide (mv ≤ 40000)
  | .inputBelowLodgeSupply _ => true
  | .regulatorOutOfRegulation _ => true
  | .thermalCapTick _ junction plate => fitsInt 16 junction && fitsInt 16 plate
  | .thermalShutdown _ junction plate => fitsInt 16 junction && fitsInt 16 plate
  | .lodgeSupervisorTimeout _ => true
  | .slotBoundary => true
  | .timeSourceWrite _ _ v => decide (v < 256)
  | .timeSourceSample _ _ => true
  | .timeSourceLost _ => true
  | .holdoverLimitExpiry _ => true
  | .syncOutEdge _ => true
  | .syncOutPulseEnd _ => true
  | .portEnable _ _ _ v => decide (v < 256)
  | .clearLost _ _ _ => true
  | .reAnchor _ _ _ => true
  | .csi2PacketHeader t _ h => decide (t ≤ h.arrival)
  | .eventWord _ _ _ => true
  | .framePacket _ _ _ => true
  | .payloadCrcCheck _ _ _ => true
  | .rateTrimWindowEnd _ _ => true
  | .hotWindowEnd _ _ => true
  | .coldTimeExpiry _ _ => true
  | .surfaceLineWriteback _ _ => true
  | .governorTick _ => true
  | .gateDeliveryFlit _ turn => patchWf turn
  | .i3cTransfer _ _ _ _ => true
  | .i3cTransferComplete _ _ _ data => decide (data.length ≤ 32)
  | .inBandInterrupt _ _ _ _ => true
  | .triggerInputEdge _ _ _ => true
  | .kerbDecayTick _ _ => true
  | .coarseCode _ _ _ => true
  | .kerbPulseEnd _ _ => true
  | .kerbInhibitEnd _ _ => true
  | .ruleEnable _ _ _ v => decide (v < 256)
  | .latchClear _ _ _ v => decide (v < 256)
  | .channelEnable _ _ _ v => decide (v < 256)
  | .customFirWrite _ _ _ _ => true
  | .modulatorOverload _ _ _ => true
  | .decimatedSample _ _ _ _ => true
  | .settlingDone _ _ => true
  | .offsetCalPeriod _ _ _ => true
  | .slotBlockWrite _ _ => true
  | .blockComplete _ _ => true
  | .inertialReadTrigger _ _ => true
  | .inertialReadComplete _ _ data => decide (data.length ≤ 28)
  | .drdySilence _ _ => true
  | .encoderEdge _ _ _ _ => true
  | .indexEdge _ _ => true
  | .encoderCommand _ _ _ v => decide (v < 256)
  | .encoderLineFault _ _ => true
  | .encoderLineRestore _ _ => true
  | .bundleIssue _ _ => true
  | .agWaitRelease _ _ _ => true
  | .agCompletionPost _ _ _ => true
  | .transactionIssue _ _ _ acc => !acc.write || decide (acc.data.length = acc.bytes)
  | .transactionResponse _ _ _ _ => true
  | .postArrival _ _ => true
  | .waitRelease _ _ => true
  | .tileWake _ _ => true
  | .inputMarkAutoRaise _ _ => true
  | .stepOpen _ _ => true
  | .stepRelease _ _ => true
  | .stepDoneReport _ _ => true
  | .spikeMessage _ _ => true
  | .routeCacheMissResponse _ _ _ => true
  | .sramScrub _ _ _ _ => true
  | .lagPublish _ => true
  | .voltageLoopTick _ _ _ _ => true
  | .guardCanaryError _ _ => true
  | .deltaAudit _ _ layer _ => decide (layer < 256)
  | .forceExact _ _ _ v => decide (v < 256)
  | .contextStart _ _ _ => true
  | .contextPause _ _ _ => true
  | .contextPauseDone _ _ => true
  | .contextResume _ _ _ => true
  | .contextStop _ _ _ => true
  | .contextUnload _ _ _ => true
  | .measurementFiled _ _ => true
  | .feedWord _ => true
  | .feedWindowRefresh _ => true
  | .slotClose _ => true
  | .slotDeadline _ => true
  | .egoSettle _ => true
  | .egoCausalPublish _ => true
  | .fusionStart _ => true
  | .fusionEnd _ => true
  | .referenceReset _ _ v => decide (v < 256)
  | .projectionSetWrite _ _ _ sub _ => decide (sub.val ≠ 0)
  | .sensorRestore _ _ _ v => decide (v < 256)
  | .degradationReset _ _ v => decide (v < 256)
  | .waitLimitLoopTick _ => true
  | .refractoryLearnWindowEnd _ _ => true
  | .biasWindowEnd _ _ => true
  | .timeOffsetWindowEnd _ _ _ peak => decide (peak ≤ 256)
  | .extrinsicWindowEnd _ _ rotation translation => decide (rotation.length = 3 ∧ translation.length = 3)
  | .scaleWindowEnd _ => true
  | .calibrationRestart _ _ v => decide (v < 256)
  | .calibrationSave _ _ v => decide (v < 256)
  | .linkDeskewCorrection _ _ _ => true
  | .chaivoPortEnable _ _ _ v => decide (v < 256)
  | .retrainStored _ _ _ => true
  | .retrainFull _ _ _ => true
  | .trainingComplete _ _ => true
  | .trainingStallNotice _ _ => true
  | .downRetryTimer _ _ => true
  | .blockLockLoss _ _ => true
  | .sfpInsertion _ _ ident => decide (ident.length = 96)
  | .sfpOvercurrent _ _ => true
  | .flitHeader _ _ _ => true
  | .flitTrailer _ _ payload _ => decide (payload.length % 64 = 0)
  | .flitAckReceived _ _ _ _ _ => true
  | .nakReceived _ _ _ => true
  | .retryTimeout _ _ => true
  | .linkBlock _ _ _ => true
  | .timingBlockSend _ _ => true
  | .timingBlockReceive _ _ _ _ => true
  | .timeMessageSend _ _ => true
  | .time _ _ _ _ => true
  | .hello _ _ _ _ => true
  | .link _ _ _ => true
  | .read _ _ _ => true
  | .write _ _ _ _ => true
  | .writePosted _ _ _ _ => true
  | .pull _ _ _ => true
  | .readResp _ _ _ => true
  | .writeAck _ _ => true
  | .pullResp _ _ _ => true
  | .errorResp _ _ => true
  | .kerbPostMessage _ _ _ => true
  | .echo _ _ _ => true
  | .echoReply _ _ => true
  | .responseTimeout _ _ => true
  | .hostModeFrame _ _ _ _ => true
  | .streetMapWrite _ _ _ _ => true
  | .streetMapSwap _ => true
  | .mapFlashMirror _ => true
  | .resultRecordEntry _ _ => true
  | .batchTailTimeout _ _ => true
  | .queueStallNotice _ _ => true
  | .commitTargetUnload _ => true
  | .provocationItem _ _ item => decide (0 < item.bytes.length)
  | .provocationSwapTimeout _ _ => true
  | .dramScrub _ _ => true
  | .goReady _ _ => true
  | .goRun _ _ => true
  | .goStandby _ _ => true
  | .halt _ _ => true
  | .restart _ _ => true
  | .transitionComplete _ => true
  | .claimTake _ _ => true
  | .claimRelease _ _ => true
  | .dictionaryWrite _ _ _ _ _ _ => true
  | .sync0Event _ => true
  | .ethercatStateRequest _ _ _ => true
  | .fieldLoss _ => true
  | .storeParameters _ _ v => decide (v < 4294967296)
  | .restoreDefaultParameters _ _ v => decide (v < 4294967296)
  | .parameterMirrorWrite _ => true
  | .numberOfErrorsClear _ _ v => decide (v < 256)
  | .statusAcknowledge _ _ v => decide (v < 256)
  | .sessionChallenge _ _ => true
  | .sessionResponse _ _ _ => true
  | .sessionClose _ _ v => decide (v < 256)
  | .sessionTimeout _ _ => true
  | .roleKeyWrite _ _ _ _ => true
  | .packageKeysWrite _ _ _ => true
  | .accessRightsWrite _ _ _ => true
  | .dramFirewallWrite _ _ _ => true
  | .portFiltersWrite _ _ _ => true
  | .debugLockWrite _ _ v => decide (v < 256)
  | .debugReadData _ _ => true
  | .certifiedEnter _ _ => true
  | .certifiedLeave _ _ => true
  | .trngTestFail _ => true
  | .trngRetest _ _ => true
  | .firmwareFoeWrite _ _ => true
  | .packageFoeWrite _ _ phase => phaseWf phase
  | .load _ _ => true
  | .loadComplete _ => true
  | .commit _ _ => true
  | .erase _ _ => true
  | .builtInTest _ _ v => decide (v < 256)
  | .builtInTestDone _ results _ => results.all (fun r => decide (r.1 < 64))
  | .ledgerClear _ _ v => decide (v < 256)
  | .tallySample _ => true
  | .tallyExpiry _ => true
  | .fenceComplete _ => true
  | .fenceTimeout _ => true
  | .ledgerReadTimeout _ _ => true
  | .ledgerWritten _ => true
  | .resetRelease _ => true
  | .resetDone _ => true
  | .resetDoneTimeout _ => true
  | .dramRetrainFail _ => true
  | .ledgerFlashCopyDone _ _ => true
  | .suspectReplayStart _ => true
  | .replayRangeDone _ => true
  | .replaySliceExpiry _ => true
  | .replayHang _ => true
  | .returnToService _ => true
  | .supplyTapOvercurrent _ _ => true
  | .producerHeartbeat _ => true
  | .ethercatFrame _ rx => decide (rx.length ≤ 256)
  | .canFdFrame _ => true
  | .modulePowerCycleEnd => true
  | .weightSwapComplete _ _ => true
  | .imageRewriteDone _ _ => true
  | .linkBlockSend _ _ => true
  | .tagReuseExpiry _ _ => true
  | .auditLogFlashMirror _ => true

/-- A well-formed command. -/
abbrev WellFormed (c : Instr) : Prop := c.wf = true

end Sys2Proof
end

