-- ==== Sys2Proof/Tests/Slice0.lean ====
section
/-! SUPPORT. The model's own tests: ill-formed commands are refused, the premises of the statements are met, and a few effects of single
commands on small states. Expected results come from the rules named. -/

set_option Elab.async false

namespace Sys2Proof.Tests

open Sys2Proof Sys2Proof.Machine

/-! ## Small states -/

/-- A supplied module with its die up in STANDBY, SAFEOP, both sessions Owner, the main side holding the claim, and the objects listed. -/
def up (l : List (Nat × Int)) : State :=
  ({ State.reset with
    power := { Power.init with lodge := true, rails := true },
    sec := { Security.init with mailbox := { Session.init with role := 4 }, canFd := { Session.init with role := 4 } } }).setAll
    ([(Ob.deviceState, 2), (Ob.dieUp, 1), (Ob.ethercatState, 4), (Ob.claimHolder, 1)] ++ l)

/-- Whether a command is a write request that is applied. -/
def accepts (c : Instr) (s : State) : Bool :=
  match requestOf c with
  | some r => (s.advance r.t).reaches r.m && decide (((s.advance r.t).touch r.m).verdict r.m r.key r.data r.toggleOk = .applied)
  | none => false

/-- What `accepts` says is what the statements mean by an accepted command. -/
theorem accepted_of {c : Instr} {s : State} (h : accepts c s = true) : Accepted c s := by
  unfold accepts at h
  split at h
  · rename_i r hr
    simp only [Bool.and_eq_true, decide_eq_true_eq] at h
    exact ⟨r, hr, h⟩
  · cases h

/-- Whether a command is a write request that is ignored with a reason. -/
def ignores (c : Instr) (s : State) (reason : Nat) : Bool :=
  match requestOf c with
  | some r => (s.advance r.t).reaches r.m && decide (((s.advance r.t).touch r.m).verdict r.m r.key r.data r.toggleOk = .ignored reason)
  | none => false

/-- Whether a command is a write request that passes checks 4 and on no further than an abort (checks 1 to 3). -/
def aborts (c : Instr) (s : State) : Bool :=
  match requestOf c with
  | some r => (s.advance r.t).reaches r.m && decide (((s.advance r.t).touch r.m).verdict r.m r.key r.data r.toggleOk = .abort)
  | none => false

/-- Whether a command is a write request that does not reach the dictionary. -/
def unreached (c : Instr) (s : State) : Bool :=
  match requestOf c with
  | some r => !(s.advance r.t).reaches r.m
  | none => false

/-- Whether a command is an accepted write of a numeric object whose index lies in a range. -/
def numericWrite (lo hi : Nat) (c : Instr) (s : State) : Bool :=
  accepts c s && match requestOf c with
  | some r => decide (lo ≤ r.key / 256 ∧ r.key / 256 ≤ hi) && (match objAt r.key with | some row => widthOf row != 0 | none => false)
  | none => false

/-- A state with a transition in progress. -/
def trans (s : State) (tr : Transition) : State := { s with ctrl := { s.ctrl with transition := some tr } }

/-- A state with a context as given. -/
def withCtx (s : State) (n : Nat) (f : Context → Context) : State := s.modCtx n f

/-- A small state with its power part changed. -/
def powered (l : List (Nat × Int)) (f : Power → Power) : State := let s := up l; { s with power := f s.power }

/-- A small state with its time discipline changed. -/
def disciplined (l : List (Nat × Int)) (f : Discipline → Discipline) : State := let s := up l; { s with disc := f s.disc }

/-- A small state with its loader changed. -/
def loaderWith (l : List (Nat × Int)) (f : Loader → Loader) : State := let s := up l; { s with loader := f s.loader }

/-- A small state with the recovery sequencer changed. -/
def recovery (l : List (Nat × Int)) (f : Recov → Recov) : State := let s := up l; { s with recov := f s.recov }

/-- A small state whose firmware image slots verify or not. -/
def imaged (primary fallback : Bool) (f : State → State) : State :=
  let s := up []
  f { s with sec := { s.sec with primary := if primary then some ⟨true, 0, 0⟩ else none, fallback := if fallback then some ⟨true, 0, 0⟩ else none } }

/-- A layer of a package. -/
def layer0 : LayerInfo :=
  { number := 3, inputs := [], inSize := (8, 8), filter := (3, 3), stride := (1, 1), dilation := (1, 1), padLo := (0, 0), padHi := (0, 0),
    deltaCapable := true, format := 1, thetaCap := 16, weightNorm := 1, products := 9, maxExp := 0, mult := 1, scaleShift := 0,
    stochastic := false }

/-- A package of no placement, with one layer. -/
def package0 : Package :=
  { bytes := 1000, sha := 0, signerKey := 0, signatureOk := true, productCode := 0, securityVersion := 0, encrypted := false, recipientOk := true,
    tagOk := true, contentOk := true, version := 0, name := [], header := [], digest := 0, weightOnly := false, calRuntime := false,
    participation := false, routeCount := 0, trackSlots := 0, subscriptions := 0, firewallRegions := 0, placements := [], pinned := none,
    objects := [], layers := [layer0], resultLayers := [] }

/-- A package that a load places on one tile. -/
def package1 : Package :=
  { package0 with productCode := 0x0064E001, firewallRegions := 1,
                  placements := [{ w := 1, h := 1, origin := none, streams := false, syncObjects := 1, neuronsPerTile := 0, dramBytes := 4096,
                                   scratchBytes := 0, derating := 1000, tiles := [], weights := [], image := [], neurons := [], routes := [], subs := [] }] }
/-! ## Premises met: the step, the status log, memory

Each theorem below shows, clause by clause, one state and operands that meet all premises of a clause of the statement it is named after. -/

/-- The limits of State.Inv hold of the small state. -/
theorem up_inv : (up []).Inv :=
  ⟨by decide +kernel, by decide +kernel, by decide +kernel, by decide +kernel, by decide +kernel, by decide +kernel, by decide +kernel,
    by decide +kernel, by decide +kernel⟩

theorem wit_EveryStepKeepsLimits : (up []).Inv ∧ ∃ u, step (up []) = .next u := ⟨up_inv, _, rfl⟩

/-- A log entry of code 0x0D02 and unit 0 first seen at 0. -/
def entry0 : LogEntry := ⟨0, 0x0D02, true, 0, 1⟩

theorem wit_RaisedCodeIsLogged :
    (let s := { up [] with health := { (up []).health with log := [] ++ entry0 :: [] }, time := 999999999 }
     s.health.log.length ≤ 256 ∧ s.health.log = [] ++ entry0 :: [] ∧ entry0.code = 0x0D02 ∧ entry0.unit_ = 0 ∧
     s.time < entry0.stamp + 1000000000) ∧
    (let s := { up [] with health := { (up []).health with log := [] ++ entry0 :: [] }, time := 1000000000 }
     s.health.log = [] ++ entry0 :: [] ∧ entry0.code = 0x0D02 ∧ entry0.unit_ = 0 ∧ entry0.stamp + 1000000000 ≤ s.time) ∧
    (∀ x ∈ (up []).health.log, ¬ (x.code = 0x0D02 ∧ x.unit_ = 0)) ∧ isFault 0x0D02 = true ∧ isFault 0x0D05 = false := by decide +kernel

theorem wit_StoredBytesReadBack : Memory.wf (up []).mem = true := by decide +kernel

/-! ## Premises met: requests and control -/

theorem wit_AppliedRequestCompletes : accepts (.goReady 5 .mailbox) (up [(Ob.contextState 0, 1)]) = true ∧
    accepts (.dictionaryWrite 5 .mailbox 0x2600 1 (leBytes 2 60) true) (up []) = true := by decide +kernel

theorem wit_IgnoredRequestIsRecorded : ignores (.goRun 5 .mailbox) (up []) 4 = true ∧ ignores (.goRun 25000000 .canFd) (up []) 5 = true := by
  decide +kernel

theorem wit_AbortedRequestChangesNothing : unreached (.goRun 19999999 .canFd) (up []) = true ∧
    aborts (.dictionaryWrite 5 .mailbox 0x2001 0x99 [1] true) (up []) = true ∧
    aborts (.dictionaryWrite 5 .mailbox 0x2000 1 [1] false) (up []) = true := by decide +kernel

/-- What a write of one object meets before the claim and the state: its length, its role, its access, the certified configuration. -/
def passesTo (s : State) (m : Master) (k : Nat) (data : List Byte) : Bool :=
  match objAt k with
  | some r => lengthOk r data.length && decide (s.needRole true k r ≤ s.roleOf m) && decide (r.acc ≠ .ro) && !s.certLocks k data
  | none => false

theorem wit_FirstFailingCheckDecides : objAt 0x200199 = none ∧
    (∃ r, objAt Ob.deviceCommand = some r ∧ lengthOk r [(1 : Byte)].length = true ∧
      State.reset.roleOf .mailbox < State.reset.needRole true Ob.deviceCommand r) ∧
    (∃ r, objAt Ob.deviceState = some r ∧ lengthOk r [(1 : Byte)].length = true ∧
      (up []).needRole true Ob.deviceState r ≤ (up []).roleOf .mailbox ∧ r.acc = .ro) ∧
    (∃ r, objAt Ob.debugLock = some r ∧ lengthOk r [(0 : Byte)].length = true ∧
      (up [(Ob.certifiedConfiguration, 1)]).needRole true Ob.debugLock r ≤ (up [(Ob.certifiedConfiguration, 1)]).roleOf .mailbox ∧ r.acc ≠ .ro ∧
      (up [(Ob.certifiedConfiguration, 1)]).certLocks Ob.debugLock [0] = true) ∧
    (passesTo (up [(Ob.dieUp, 0)]) .mailbox Ob.powerCap (leBytes 2 100) = true ∧ (up [(Ob.dieUp, 0)]).dieUp = false ∧
      lodgeKey Ob.powerCap = false) ∧
    (passesTo (up []) .canFd Ob.deviceCommand [1] = true ∧ ((up []).dieUp = true ∨ lodgeKey Ob.deviceCommand = true) ∧
      stateCommand Ob.deviceCommand = true ∧ (up []).nat Ob.claimHolder ≠ claimSide .canFd) :=
  ⟨rfl, ⟨_, rfl, by decide +kernel⟩, ⟨_, rfl, by decide +kernel⟩, ⟨_, rfl, by decide +kernel⟩, by decide +kernel, by decide +kernel⟩

theorem wit_WrittenSettingReadsBack : numericWrite 0x2400 0x260F (.dictionaryWrite 5 .mailbox 0x2510 1 (leBytes 4 2000) true) (up [(Ob.contextState 0, 1)]) = true ∧
    numericWrite 0x2400 0x260F (.dictionaryWrite 5 .mailbox 0x2600 1 (leBytes 2 60) true) (up []) = true ∧
    numericWrite 0x2400 0x260F (.dictionaryWrite 5 .mailbox 0x2600 5 (leBytes 2 1024) true) (up []) = true := by decide +kernel

theorem wit_DeferredWriteWaitsForTheBoundary :
    numericWrite 0x2300 0x2303 (.dictionaryWrite 5 .mailbox 0x2300 1 [3] true) (up []) = true ∧
    numericWrite 0x2300 0x2303 (.dictionaryWrite 5 .mailbox 0x2301 4 (leBytes 4 0) true) (up []) = true ∧
    ((up []).dieUp = true ∧ (up []).fenced = false) := by decide +kernel

theorem wit_DeviceCommandsAreAccepted : accepts (.goReady 5 .mailbox) (up [(Ob.contextState 0, 1)]) = true ∧
    accepts (.goRun 5 .mailbox) (up [(Ob.deviceState, 3)]) = true ∧ accepts (.goStandby 5 .mailbox) (up [(Ob.deviceState, 4)]) = true ∧
    accepts (.halt 5 .mailbox) (up [(Ob.deviceState, 4)]) = true ∧
    (accepts (.halt 5 .mailbox) (up [(Ob.deviceState, 3)]) = true ∧ (up [(Ob.deviceState, 3)]).dev ≠ 4) ∧
    accepts (.restart 5 .mailbox) (up [(Ob.deviceState, 7)]) = true := by decide +kernel

theorem wit_TransitionsTakeEffect : (trans (up []) ⟨1, 2, false⟩).ctrl.transition = some ⟨1, 2, false⟩ ∧
    (trans (up []) ⟨2, 3, false⟩).ctrl.transition = some ⟨2, 3, false⟩ ∧
    (trans (up []) ⟨1, 4, false⟩).ctrl.transition = some ⟨1, 4, false⟩ ∧ (trans (up []) ⟨3, 4, false⟩).ctrl.transition = some ⟨3, 4, false⟩ ∧
    ((up [(Ob.deviceState, 3)]).ctrl.transition = none ∧ (up [(Ob.deviceState, 3)]).dev = 3 ∧
      (up [(Ob.deviceState, 3)]).anyContext = false) ∧
    (trans (up []) ⟨1, 4, true⟩).ctrl.transition = some ⟨1, 4, true⟩ ∧ (trans (up []) ⟨3, 4, true⟩).ctrl.transition = some ⟨3, 4, true⟩ ∧
    ((trans (up []) ⟨4, 4, true⟩).ctrl.transition = some ⟨4, 4, true⟩ ∧
      ∀ n, n < 8 → ((trans (up []) ⟨4, 4, true⟩).ctx n).pausing = false) := by decide +kernel

theorem wit_ControlClaimGoverns : accepts (.claimTake 5 .mailbox) (up [(Ob.claimHolder, 0)]) = true ∧
    accepts (.claimTake 25000000 .canFd) (up []) = true ∧ accepts (.claimRelease 5 .mailbox) (up []) = true ∧
    (up []).nat Ob.claimHolder = claimSide .mailbox ∧ (up []).nat Ob.claimHolder ≠ claimSide .canFd ∧
    ((up []).nat Ob.claimHolder ≠ claimSide .canFd ∧ (up []).takeAllowed .canFd = true) ∧
    (let s := { up [] with sec := Security.init, ctrl := { Control.init with ecatLast := some 0 } }
     s.nat Ob.claimHolder ≠ claimSide .canFd ∧ s.takeAllowed .canFd = false) ∧
    (State.reset.nat Ob.claimHolder = 0 ∧ (up []).roleOf .canFd = 4) ∧
    (requestOf (.goRun 5 .canFd) = some ⟨5, .canFd, Ob.deviceCommand, leBytes 1 2, true⟩ ∧ stateCommand Ob.deviceCommand = true ∧
      (up []).nat Ob.claimHolder ≠ claimSide .canFd) := by decide +kernel

theorem wit_ControlClaimGoverns_next : ∃ u, exec (.goRun 5 .canFd) (up []) = .next u := ⟨_, rfl⟩

theorem wit_ContextCommandsAct : accepts (.contextStart 5 .mailbox 7) (up [(Ob.deviceState, 3), (Ob.contextState 7, 1)]) = true ∧
    accepts (.contextPause 5 .mailbox 0) (up [(Ob.contextState 0, 2)]) = true ∧
    (let s := up [(Ob.deviceState, 3), (Ob.contextState 0, 3)]
     accepts (.contextResume 5 .mailbox 0) s = true ∧ (s.ctx 0).needRewrite = false) ∧
    (let s := withCtx (up [(Ob.deviceState, 3), (Ob.contextState 0, 3)]) 0 (fun c => { c with needRewrite := true })
     accepts (.contextResume 5 .mailbox 0) s = true ∧ (s.ctx 0).needRewrite = true) ∧
    accepts (.contextStop 5 .mailbox 0) (up [(Ob.contextState 0, 3)]) = true ∧
    accepts (.contextUnload 5 .mailbox 0) (up [(Ob.contextState 0, 4)]) = true ∧
    (let s := withCtx (up []) 0 (fun c => { c with pausing := true })
     (s.ctx 0).pausing = true ∧ s.quiet 0 = true ∧ (s.ctx 0).swapAccepted = false) := by decide +kernel

theorem wit_ContextCommandsAct_package :
    (let s := withCtx (up [(Ob.contextState 0, 2)]) 0 (fun c => { c with swapping := true, staged := some package1, pkg := some package1 })
     (s.ctx 0).swapping = true ∧ (s.ctx 0).staged = some package1) ∧
    (let s := withCtx (up [(Ob.contextState 0, 3)]) 0 (fun c => { c with rewriting := true, pkg := some package1 })
     (s.ctx 0).rewriting = true ∧ (s.ctx 0).content ≠ none) := by decide +kernel

/-! ## Premises met: supply, temperature, time, bring-up, frames -/

theorem wit_SupplyEventsAct :
    ((up []).power.lodge = true ∧ (17999 < 18000 ∨ 32000 < 17999) ∧ (up []).power.outside = false) ∧
    ((up []).power.lodge = true ∧ 18000 ≤ 18000 ∧ 32000 ≤ 32000) ∧ (powered [] (fun p => { p with outside := true })).power.outside = true ∧
    ((up []).power.lodge = true ∧ (up []).power.rails = true ∧ 14999 < 15000) ∧
    (let s := imaged true true (fun s => { s with power := { s.power with holdUp := true } })
     s.power.holdUp = true ∧ 17000 ≤ 17000 ∧ s.sec.passes s.sec.primary = true) ∧
    (let s := imaged false true (fun s => { s with power := { s.power with holdUp := true } })
     s.power.holdUp = true ∧ s.sec.passes s.sec.primary = false ∧ s.sec.passes s.sec.fallback = true) ∧
    (let s := imaged false false (fun s => { s with power := { s.power with holdUp := true } })
     s.power.holdUp = true ∧ s.sec.passes s.sec.primary = false ∧ s.sec.passes s.sec.fallback = false) ∧
    (let s := powered [] (fun p => { p with regFails := [5] })
     s.power.rails = true ∧ ∃ r ∈ s.power.regFails, max s.time 6 < r + 1000000000) := by decide +kernel

theorem wit_PowerUpStartsTheModule :
    (State.reset.power.lodge = false ∧ State.reset.recov.phase ≠ .cycle ∧ State.reset.sec.stored = false ∧
      State.reset.sec.passes State.reset.sec.primary = true) ∧
    (let s := { (up []).cycleModule with sec := { (up []).cycleModule.sec with stored := true } }
     s.recov.phase = .cycle ∧ s.sec.stored = true ∧ s.sec.passes s.sec.fallback = true) := by decide +kernel

theorem wit_TemperatureActs :
    ((up []).power.rails = true ∧ (up []).num Ob.throttleThreshold ≤ (up []).num Ob.throttleThreshold ∧ (up []).num Ob.throttleState ≠ 1) ∧
    (let s := up [(Ob.throttleState, 1)]
     s.power.rails = true ∧ s.num Ob.throttleThreshold ≤ 32767 ∧ s.num Ob.throttleState = 1) ∧
    ((up []).num Ob.throttleThreshold - 50 ≤ (up []).num Ob.throttleThreshold - 1 ∧
      (up []).num Ob.throttleThreshold - 1 < (up []).num Ob.throttleThreshold) ∧
    (up []).num Ob.throttleThreshold - 51 < (up []).num Ob.throttleThreshold - 50 := by decide +kernel

/-- The source DC system time, in a state of the discipline. -/
def dcSource (dev state : Nat) (f : Discipline → Discipline) : State :=
  disciplined [(Ob.timeSource, 1), (Ob.timeSourceState, state), (Ob.deviceState, dev)] f

theorem wit_TimeDisciplineActs :
    ((dcSource 2 2 id).nat Ob.timeSource = 1 ∧ (up [(Ob.timeSource, 2)]).nat Ob.timeSource = 2 ∧
      (up [(Ob.timeSource, 3), (Ob.syncInPeriod, 1000)]).nat Ob.timeSource = 3 ∧ 0 < (up [(Ob.timeSource, 3), (Ob.syncInPeriod, 1000)]).nat Ob.syncInPeriod) ∧
    (let s := dcSource 2 2 id
     s.dieUp = true ∧ (s.advance 5).sourceThere = true ∧ (s.advance 5).sampleOffset 7 = 7 ∧ s.nat Ob.timeSourceState = 2) ∧
    (let s := dcSource 4 1 (fun d => { d with inRow := 15 })
     s.dieUp = true ∧ (s.advance 5).sourceThere = true ∧ (s.advance 5).sampleOffset 20 = 20 ∧ s.nat Ob.timeSourceState ≠ 2 ∧
     s.stepAllowed = false) ∧
    (let s := dcSource 2 1 id
     (s.advance 5).sampleOffset 1000 = 1000 ∧ s.nat Ob.timeSourceState ≠ 2 ∧ (1000 : Int).natAbs ≤ 1000) ∧
    (let s := dcSource 2 1 (fun d => { d with stepped := true })
     s.dieUp = true ∧ (s.advance 5).sourceThere = true ∧ (s.advance 5).sampleOffset (-1000001) = -1000001 ∧ s.nat Ob.timeSourceState ≠ 2 ∧
     s.stepAllowed = true ∧ 1000000 < (-1000001 : Int).natAbs) ∧
    (let s := dcSource 2 3 id
     s.dieUp = true ∧ (s.advance 5).sourceThere = true ∧ s.stepAllowed = true ∧ 1000 < (1001 : Int).natAbs ∧ s.nat Ob.timeSourceState ≠ 2 ∧
     s.nat Ob.timeSourceState ≠ 1) := by decide +kernel

theorem wit_TimeDisciplineActs_rest :
    (dcSource 2 2 id).nat Ob.timeSourceState = 2 ∧ (dcSource 2 1 id).nat Ob.timeSourceState ≠ 2 ∧
    (let s := dcSource 2 3 (fun d => { d with holdoverAt := some 0 })
     s.disc.holdoverAt = some 0 ∧ s.nat Ob.timeSourceState = 3 ∧ 0 + s.nat Ob.holdoverLimit * 1000000 ≤ max s.time 1000000000000) ∧
    accepts (.timeSourceWrite 5 .mailbox 1) (up []) = true ∧ accepts (.timeSourceWrite 5 .mailbox 0) (up [(Ob.timeSource, 1)]) = true ∧
    (let s := up [(Ob.syncOutPeriod, 1000), (Ob.syncOutPhase, 0)]
     s.dieUp = true ∧ 0 < s.nat Ob.syncOutPeriod ∧ max s.time 2000 % s.nat Ob.syncOutPeriod = s.nat Ob.syncOutPhase % s.nat Ob.syncOutPeriod) ∧
    (let s := disciplined [] (fun d => { d with syncHigh := true, syncUntil := 4000 })
     s.disc.syncUntil ≤ 2 * max s.time 2000) ∧
    (let s := up [(Ob.producerHeartbeatTime, 10)]
     s.power.lodge = true ∧ s.nat Ob.producerHeartbeatTime ≠ 0) := by decide +kernel

/-- A small state with one context listed by Autoload and its slot in a state, the slot number as given. -/
def listed (slot slotState : Nat) (l : List (Nat × Int)) : State :=
  (loaderWith ((Ob.slotState 0, slotState) :: l) (fun x => { x with autoload := 0 :: [], slots := [(0, package1)] })).setDom Ob.autoload (BitVec.ofNat 8 slot :: List.replicate 15 0)

theorem wit_DieStartsUp :
    (let s := up [(Ob.deviceState, 1), (Ob.dieUp, 0)]
     s.dev = 1 ∧ s.power.rails = true ∧ s.dieUp = false) ∧
    (let s := recovery [(Ob.deviceState, 6)] (fun r => { r with phase := .retraining, restart := true })
     s.dev ≠ 1 ∧ s.recov.phase = .retraining ∧ s.recov.restart = true) ∧
    (let s := recovery [(Ob.deviceState, 6)] (fun r => { r with phase := .retraining, suspects := [0] })
     s.dev ≠ 1 ∧ s.recov.phase = .retraining ∧ s.recov.restart = false ∧ s.recov.suspects ≠ []) ∧
    (let s := listed 0 1 []
     s.evaluating = true ∧ s.loader.load = none ∧ s.loader.autoload = 0 :: [] ∧ s.domNat Ob.autoload (2 * 0) 1 = 0 ∧ 0 < 8 ∧
     s.loadAllowed 0 0 = true ∧ s.nat (Ob.slotState 0) = 1) ∧
    (let s := listed 8 1 []
     s.evaluating = true ∧ s.loader.load = none ∧ s.loader.autoload = 0 :: [] ∧ s.domNat Ob.autoload (2 * 0) 1 = 8 ∧ 8 ≤ 8) ∧
    (let s := listed 0 1 [(Ob.contextState 0, 2)]
     s.evaluating = true ∧ s.loader.load = none ∧ s.loader.autoload = 0 :: [] ∧ s.domNat Ob.autoload (2 * 0) 1 = 0 ∧ s.loadAllowed 0 0 = false) ∧
    (let s := listed 0 3 []
     s.evaluating = true ∧ s.loader.load = none ∧ s.loader.autoload = 0 :: [] ∧ s.domNat Ob.autoload (2 * 0) 1 = 0 ∧ 0 < 8 ∧
     s.loadAllowed 0 0 = true ∧ (s.nat (Ob.slotState 0) = 0 ∨ s.nat (Ob.slotState 0) = 3)) ∧
    (let s := loaderWith [(Ob.contextState 0, 1)] (fun x => { x with readyDue := true })
     s.dev = 2 ∧ s.loader.load = none ∧ s.loader.autoload = [] ∧ s.loader.readyDue = true ∧ s.deviceAllowed 1 = true) ∧
    (let s := loaderWith [(Ob.deviceState, 3), (Ob.contextState 7, 1)] (fun x => { x with starts := [7] })
     (s.dev = 3 ∨ s.dev = 4) ∧ s.loader.load = none ∧ s.loader.autoload = [] ∧ (∀ n ∈ s.loader.starts, n < 8) ∧ s.ctxState 7 = 1) ∧
    (up [(Ob.dieUp, 0)]).dieUp = false := by decide +kernel

theorem wit_FramesAndFieldLoss :
    ((up [(Ob.ethercatState, 8)]).power.lodge = true ∧ (up [(Ob.ethercatState, 8)]).nat Ob.ethercatState = 8 ∧ (up []).power.lodge = true ∧
      (up []).nat Ob.ethercatState ≠ 8) ∧
    (let s := { up [(Ob.claimHolder, 0)] with ctrl := { Control.init with leftOp := true } }
     s.ctrl.fieldLost = false ∧ s.ctrl.leftOp = true ∧ s.nat Ob.ethercatState ≠ 8 ∧ s.nat Ob.claimHolder ≠ 1) ∧
    (let s := up []
     s.ctrl.fieldLost = false ∧ 100 ≤ (s.advance 100000000).silence ∧ s.nat Ob.fieldLossAction = 0) ∧
    (let s := up [(Ob.fieldLossAction, 1), (Ob.deviceState, 4)]
     s.ctrl.fieldLost = false ∧ 100 ≤ (s.advance 100000000).silence ∧ s.nat Ob.claimHolder = 1 ∧ s.nat Ob.fieldLossAction = 1 ∧
     s.deviceAllowed 1 = true) ∧
    (let s := up [(Ob.fieldLossAction, 2), (Ob.deviceState, 4)]
     s.ctrl.fieldLost = false ∧ 100 ≤ (s.advance 100000000).silence ∧ s.nat Ob.claimHolder = 1 ∧ s.nat Ob.fieldLossAction = 2 ∧
     s.deviceAllowed 4 = true) := by decide +kernel

/-! ## Premises met: the Gate, the Kerb path and the inputs -/

/-- A long packet of a port's virtual channel 0 and event data type 0x30. -/
def header : PacketHeader := { vc := 0, dataType := BitVec.ofNat 6 (dfltNum (Ob.dataType 0)).toNat, kind := .long,
                               ecc := .ok, supported := true, arrival := 100 }

/-- An analog channel of a state changed. -/
def modChan (s : State) (n : Nat) (f : AnalogChan → AnalogChan) : State := s.setChan n (f (s.chan n))

/-- A port of the Gate changed in a small state, the port shown STREAMING. -/
def withPort (l : List (Nat × Int)) (f : SensorPort → SensorPort) : State := (up ((Ob.portState 0, 2) :: l)).modPort 0 f

/-- An open event packet with the items given. -/
def openPacket (items : List PendItem) : Packet := { Packet.opened 0 0x30 100 false ⟨0, 0, 0, none⟩ with items := items }

theorem wit_PacketHeadersOpenPackets :
    ((up [(Ob.portState 0, 1)]).nat (Ob.portState 0) ≠ 0 ∧ (up [(Ob.portState 0, 1)]).fenced = false) ∧
    ({ header with ecc := .uncorrectable }.ecc = .uncorrectable) ∧
    ({ header with vc := 3 }.ecc ≠ .uncorrectable ∧ { header with vc := 3 }.supported = true ∧
      { header with vc := 3 }.vc.toNat ≠ (up []).nat (Ob.virtualChannel 0)) ∧
    (header.ecc ≠ .uncorrectable ∧ header.supported = true ∧ header.vc.toNat = (up []).nat (Ob.virtualChannel 0) ∧ header.kind = .long ∧
      header.dataType.toNat = (if (up []).nat (Ob.wordFormat 0) < 3 then (up []).nat (Ob.dataType 0) else 0x2A + ((up []).nat (Ob.wordFormat 0) - 3))) ∧
    { header with kind := .frameStart }.kind = .frameStart ∧ { header with kind := .lineEnd }.kind = .lineEnd := by decide +kernel

/-- A state whose port 0 has a packet open. -/
def packetOpen (l : List (Nat × Int)) (pk : Packet) : State := withPort l (fun q => { q with packet := some pk })

theorem wit_WordsJoinTheirPacket :
    (let s := packetOpen [] (openPacket [])
     (s.port 0).packet = some (openPacket []) ∧ (openPacket []).frame = false ∧
     (s.decodeWord 0 (s.port 0).running true (3 + 2 * 2 ^ 12 + 2 ^ 24 + 5 * 2 ^ 25)).what = .event 3 2 1 ∧
     (s.decodeWord 0 (s.port 0).running true (2 ^ 62 - 1)).what = .discard) ∧
    (let pk := { openPacket [] with frame := true }
     let s := packetOpen [(Ob.wordFormat 0, 3)] pk
     (s.port 0).packet = some pk ∧ pk.frame = true ∧ 2 ≤ s.nat (Ob.portState 0) ∧ 3 ≤ s.nat (Ob.wordFormat 0)) := by decide +kernel

/-- A packet of one event at device time 50. -/
def oneEvent : Packet := openPacket [.event 7 50 .none]

theorem wit_CrcCheckClosesThePacket :
    (let s := packetOpen [] oneEvent
     (s.port 0).packet = some oneEvent ∧ oneEvent.anchored = false) ∧
    (let s := withPort [] (fun q => { q with packet := some oneEvent, lastEpoch := some (50 / 2 ^ 37) })
     (s.port 0).packet = some oneEvent ∧ oneEvent.items = [.event 7 50 .none] ∧ (s.port 0).backlog = [] ∧ (s.port 0).queue.length < 4088 ∧
     (s.port 0).gap = 0 ∧ (s.port 0).lastEpoch = some (50 / 2 ^ 37)) ∧
    { oneEvent with anchored := true }.anchored = true := by decide +kernel

theorem wit_PortWindowsAndGovernor :
    (let s := withPort [(Ob.rateTracking 0, 1)] (fun q => { q with rMin := some 3, rPrev := some 4 })
     (s.port 0).rMin = some 3 ∧ (s.port 0).rPrev = some 4 ∧ s.num (Ob.rateTracking 0) = 1) ∧
    (let s := withPort [] id
     s.nat (Ob.portState 0) ≠ 0 ∧ (s.port 0).hotFrom + 1000000 * (s.port 0).hotWindow ≤ (s.advance 10000000).time) ∧
    (let s := withPort [] (fun q => { q with coldRunning := true, coldUntil := 50000000 })
     (s.port 0).coldRunning = true ∧ (s.port 0).coldUntil ≤ (s.advance 50000000).time) ∧
    (let s := { up [] with gate := { (up []).gate with cache := [(128, 5)] } }
     s.gate.cache = [(128, 5)] ∧ 128 / 64 = 2 ∧ Memory.wf s.mem = true ∧ ∀ e ∈ s.gate.cache, e.1 / 64 = 2 → 132 < e.1 ∨ e.1 + 4 ≤ 132) ∧
    (let s := withPort [(Ob.governorPin 0, 1)] id
     s.nat (Ob.portState 0) ≠ 0 ∧ s.num (Ob.governorPin 0) = 1) ∧
    (let s := withPort [] id
     s.nat (Ob.portState 0) ≠ 0 ∧ s.num (Ob.governorPin 0) ≠ 1 ∧ s.nat (Ob.keepFloor 0) ≤ s.nat (Ob.keepCeiling 0)) ∧
    (up []).nat (Ob.portState 0) = 0 := by decide +kernel

/-- A subscription of tile 0 to every event of port 0. -/
def sub0 : Subscription := { port := 0, tileMask := 1, win := ⟨0, 4095, 0, 4095⟩, events := true, markers := true, patches := true, frames := true }

/-- A state in which port 0 holds one event word and tile 0, in context 0, subscribes to it with a ring of a number of entries. -/
def subscribed (size : Nat) : State :=
  (((withPort [(Ob.contextState 0, 2), (Ob.tileContext 0, 0)] (fun q => { q with queue := [⟨0, 0, 0, 0⟩] })).modCtx 0
    (fun c => { c with w := 1, h := 1, subs := [sub0] })).modTile 0 (fun x => { x with ringSize := size }))

/-- A patch of one pixel of port 0. -/
def patch0 : Patch := ⟨0, 0, 0, 1, 1⟩

/-- The flits of a patch. -/
def patchFlits (s : State) : List (Nat × List Nat × List LaneWord) :=
  (inFlits (s.patchWords patch0).length (s.patchWords patch0)).flatMap (fun f => s.flitsOf patch0.port f)

theorem wit_DeliveryTakesWords :
    (let s := subscribed 1
     s.deliveryPort = some 0 ∧ ((s.advance 5).flitsOf 0 ((s.port 0).queue.take 4)).map (·.2.1) = [[0]] ∧
     ∀ f ∈ (s.advance 5).flitsOf 0 ((s.port 0).queue.take 4), ∀ x ∈ f.2.1,
       (s.tile x).ringHeld + (((s.advance 5).flitsOf 0 ((s.port 0).queue.take 4)).filter (fun g => g.2.1.contains x)).length ≤ (s.tile x).ringSize) ∧
    (let s := subscribed 0
     s.deliveryPort = some 0 ∧ ∃ f ∈ (s.advance 5).flitsOf 0 ((s.port 0).queue.take 4), ∃ x ∈ f.2.1,
       (s.tile x).ringSize < (s.tile x).ringHeld + (((s.advance 5).flitsOf 0 ((s.port 0).queue.take 4)).filter (fun g => g.2.1.contains x)).length) ∧
    ((subscribed 1).deliveryPort = some 0 ∧ ((subscribed 1).port 0).queue = [⟨0, 0, 0, 0⟩] ∧ ((subscribed 1).port 0).backlog = []) ∧
    (let s := (subscribed 4).setNat (Ob.surfaceFormat 0) 0
     patchFlits (s.advance 5) ≠ [] ∧ s.nat (Ob.portState patch0.port) ≠ 0 ∧ s.nat (Ob.surfaceFormat patch0.port) ≠ 2 ∧
     ∀ f ∈ patchFlits (s.advance 5), ∀ x ∈ f.2.1,
       (s.tile x).ringHeld + ((patchFlits (s.advance 5)).filter (fun g => g.2.1.contains x)).length ≤ (s.tile x).ringSize) := by decide +kernel

theorem wit_PortCommandsAct : (accepts (.portEnable 5 .mailbox 3 1) (up []) = true ∧ (up []).num (Ob.portEnable 3) ≠ 1) ∧
    accepts (.portEnable 5 .mailbox 0 0) (withPort [(Ob.portEnable 0, 1)] id) = true ∧
    accepts (.clearLost 5 .mailbox 0) (up [(Ob.portState 0, 3)]) = true ∧ accepts (.reAnchor 5 .mailbox 0) (up [(Ob.portState 0, 2)]) = true ∧
    accepts (.i3cTransfer 5 .mailbox 0 [0x10, 1, 0, 0, 7]) (up []) = true := by decide +kernel

theorem wit_TransfersAndTriggers :
    (let s := withPort [] (fun q => { q with i3c := [⟨true, []⟩] })
     (s.port 0).i3c = ⟨true, []⟩ :: []) ∧
    (let s := withPort [] (fun q => { q with i3c := [⟨false, [0, 0, 4, 0]⟩] })
     (s.port 0).i3c = ⟨false, [0, 0, 4, 0]⟩ :: []) ∧
    (let s := up [(Ob.triggerEnable 3, 1)]
     s.num (Ob.triggerEnable 3) = 1 ∧ s.nat (Ob.triggerGlitchFilter 3) ≤ s.nat (Ob.triggerGlitchFilter 3)) ∧
    (let s := up [(Ob.triggerEnable 3, 1), (Ob.triggerGlitchFilter 3, 100)]
     s.num (Ob.triggerEnable 3) = 1 ∧ 99 < s.nat (Ob.triggerGlitchFilter 3)) := by decide +kernel

/-- A small state with a rule changed. -/
def ruled (l : List (Nat × Int)) (n : Nat) (r : KerbRule) : State := (up l).setRule n r

theorem wit_KerbPathActs :
    (let s := (up []).setDom Ob.counterSet (List.replicate 8 1)
     s.evaluating = true ∧ s.counterShift 0 ≠ 0) ∧
    (let s := up [(Ob.channelEnable 7, 1), (Ob.channelState 7, 2)]
     s.num (Ob.channelEnable 7) = 1 ∧ s.evaluating = true ∧ s.measuringOffset 7 = false) ∧
    (let s := modChan (up [(Ob.channelEnable 7, 1), (Ob.channelState 7, 2), (Ob.offsetCalEnable 7, 1), (Ob.preset 7, 2)]) 7 (fun c => { c with periods := 63 })
     s.measuringOffset 7 = true) ∧
    (let s := ruled [(Ob.inhibit 31, 100)] 31 { KerbRule.init with pulse := true, pulseEnd := 20 }
     (s.rule 31).pulse = true ∧ (s.rule 31).pulseEnd ≤ 4 * (s.advance 5).time ∧ 0 < s.nat (Ob.inhibit 31) ∧
     4 * (s.advance 4).time < (s.rule 31).pulseEnd) ∧
    (let s := ruled [] 31 { KerbRule.init with inhibit := true, inhibitEnd := 20 }
     (s.rule 31).inhibitEnd ≤ 4 * (s.advance 5).time ∧ 4 * (s.advance 4).time < (s.rule 31).inhibitEnd) ∧
    accepts (.ruleEnable 5 .mailbox 31 0) (up [(Ob.ruleEnable 31, 1)]) = true ∧ accepts (.ruleEnable 5 .mailbox 31 1) (up []) = true ∧
    (accepts (.latchClear 5 .mailbox 7 1) (up []) = true ∧ (up [(Ob.ruleOutput 31, 7)]).nat (Ob.ruleOutput 31) = 7 ∧
      (up []).nat (Ob.ruleOutput 31) ≠ 7) := by decide +kernel

theorem wit_AnalogChannelsAct :
    (let s := (up [(Ob.channelEnable 0, 1), (Ob.channelState 0, 2), (Ob.boxcarLength 0 0, 1), (Ob.boxcarLength 0 1, 1), (Ob.boxcarLength 0 2, 1)])
     s.chanRuns 0 = true ∧ s.measuringOffset 0 = false ∧ s.num (Ob.dcBlockerEnable 0) ≠ 1 ∧ (∀ i : Fin 3, s.nat (Ob.boxcarLength 0 i) = 1) ∧
     (s.chan 0).box.length = 3) ∧
    (let s := modChan (up [(Ob.channelEnable 0, 1), (Ob.channelState 0, 2), (Ob.offsetCalEnable 0, 1), (Ob.preset 0, 3)]) 0 (fun c => { c with periods := 63, measCount := 254 })
     s.chanRuns 0 = true ∧ s.measuringOffset 0 = true ∧ (s.chan 0).measCount < 255) ∧
    (let s := modChan (up [(Ob.channelEnable 0, 1), (Ob.channelState 0, 2), (Ob.offsetCalEnable 0, 1), (Ob.preset 0, 3)]) 0 (fun c => { c with periods := 63, measCount := 255 })
     s.chanRuns 0 = true ∧ s.measuringOffset 0 = true ∧ 255 ≤ (s.chan 0).measCount ∧ s.num (Ob.offsetCorrection 0) = 0 ∧ (-8388604 : Int) ≤ 0 ∧
     (0 : Int) ≤ 8388603) ∧
    (let s := up [(Ob.channelState 0, 1)]
     s.nat (Ob.channelState 0) = 1 ∧ (s.chan 0).settleLeft = 0) := by decide +kernel

/-- A small state with inertial port 1 enabled and changed. -/
def inertialUp (l : List (Nat × Int)) (f : InertialPort → InertialPort) : State :=
  let s := up ((Ob.inertialEnable 1, 1) :: (Ob.inertialState 1, 1) :: l)
  s.setInert 1 (f (s.inert 1))

theorem wit_InertialPortsAct :
    (let s := inertialUp [(Ob.readTrigger 1, 2)] id
     s.num (Ob.inertialEnable 1) = 1 ∧ s.evaluating = true ∧ s.nat (Ob.readTrigger 1) = ReadCause.timer.code ∧
     max s.time (s.nat (Ob.samplePeriod 1)) % s.nat (Ob.samplePeriod 1) = 0 ∧ (s.inert 1).reading = none) ∧
    (let s := inertialUp [(Ob.readTrigger 1, 1)] (fun q => { q with reading := some 5 })
     s.num (Ob.inertialEnable 1) = 1 ∧ s.evaluating = true ∧ s.nat (Ob.readTrigger 1) = ReadCause.drdyFalling.code ∧
     (s.inert 1).reading = some 5 ∧ ReadCause.drdyFalling ≠ .timer) ∧
    (let s := inertialUp [(Ob.readTrigger 1, 2)] (fun q => { q with reading := some 5 })
     s.num (Ob.inertialEnable 1) = 1 ∧ s.evaluating = true ∧ s.nat (Ob.readTrigger 1) = ReadCause.timer.code ∧
     max s.time (s.nat (Ob.samplePeriod 1)) % s.nat (Ob.samplePeriod 1) = 0 ∧ (s.inert 1).reading = some 5) ∧
    (let s := inertialUp [] (fun q => { q with reading := some 5 })
     (s.inert 1).reading = some 5 ∧ 5 + s.readTime 1 ≤ max s.time (5 + s.readTime 1) ∧ max s.time 5 < 5 + s.readTime 1) ∧
    (let s := inertialUp [] id
     s.nat (Ob.inertialState 1) = 1 ∧ s.nat (Ob.readTrigger 1) ≠ 2 ∧
     (s.inert 1).lastDrdy + 16 * s.nat (Ob.samplePeriod 1) ≤ max s.time (16 * s.nat (Ob.samplePeriod 1))) := by decide +kernel

/-- A small state with encoder 0 running. -/
def encoderUp (l : List (Nat × Int)) (f : Encoder → Encoder) : State :=
  let s := up ((Ob.encoderEnable 0, 1) :: (Ob.encoderState 0, 1) :: l)
  s.setEnc 0 (f (s.enc 0))

/-- A level that stands for a number of ns. -/
def level (high : Bool) (stable : Nat) : Level := ⟨high, stable⟩

theorem wit_EncodersAct :
    (let s := encoderUp [(Ob.glitchFilter 0, 100)] id
     (level true 99).stable < s.nat (Ob.glitchFilter 0)) ∧
    (let s := encoderUp [] id
     s.encRuns 0 = true ∧ s.nat (Ob.glitchFilter 0) ≤ (level true 100000).stable ∧ s.nat (Ob.countMode 0) ≠ 3 ∧
     (s.enc 0).a ≠ (level true 100000).high ∧ (s.enc 0).b ≠ (level true 100000).high) ∧
    (let s := encoderUp [] id
     s.encRuns 0 = true ∧ (s.enc 0).a ≠ (level true 100000).high ∧ (s.enc 0).b = (level false 100000).high ∧ s.nat (Ob.countMode 0) = 0) ∧
    (let s := encoderUp [(Ob.countMode 0, 3)] id
     s.encRuns 0 = true ∧ s.nat (Ob.glitchFilter 0) ≤ (level true 100000).stable ∧ s.nat (Ob.countMode 0) = 3 ∧ (s.enc 0).a = false ∧
     (level true 100000).high = true) ∧
    (let s := encoderUp [(Ob.indexMode 0, 2)] id
     s.encRuns 0 = true ∧ s.nat (Ob.indexMode 0) ≠ 0 ∧ s.nat (Ob.glitchFilter 0) ≤ 100000) ∧
    (up [(Ob.encoderState 0, 1)]).nat (Ob.encoderState 0) = 1 ∧ (up [(Ob.encoderState 0, 2)]).nat (Ob.encoderState 0) = 2 ∧
    accepts (.encoderCommand 5 .mailbox 3 1) (up []) = true ∧
    ((encoderUp [] (fun c => { c with loadPending := true })).enc 0).loadPending = true := by decide +kernel

theorem wit_ChannelEnablesAndBlocks :
    (accepts (.channelEnable 5 .mailbox 7 1) (up []) = true ∧ (up []).num (Ob.channelEnable 7) ≠ 1) ∧
    (accepts (.channelEnable 5 .mailbox 0 0) (up [(Ob.channelEnable 0, 1), (Ob.channelState 0, 2)]) = true ∧
      (up [(Ob.channelEnable 0, 1), (Ob.channelState 0, 2)]).num (Ob.channelEnable 0) = 1) ∧
    accepts (.customFirWrite 5 .mailbox 0 (List.replicate 188 0 ++ leBytes 4 4194304)) (up []) = true ∧
    (let s := { encoderUp [] id with time := 2000, lastBoundary := 2000 }
     s.fenced = false ∧ (s.blockOf (.encoder 0) (slotOf s.lastBoundary - 1)).isSome = true) ∧
    (let s := { up [] with inputs := { (up []).inputs with rings := [(10, { SampleRing.init with open_ := some (1, 64) })] } }
     (s.ring (ringIndex (.encoder 0))).open_ = some (1, 64)) := by decide +kernel

/-! ## Premises met: the Market -/

/-- A small state with context 0 RUNNING on tiles 0 and 1, tile 0 awake. -/
def tileUp (l : List (Nat × Int)) (f : Tile → Tile) : State :=
  ((up ([(Ob.contextState 0, 2), (Ob.tileContext 0, 0), (Ob.tileContext 1, 0)] ++ l)).modCtx 0 (fun c => { c with w := 2, h := 1 })).modTile 0
    (fun x => f { x with asleep := false })

/-- A firewall table whose first region is all of the DRAM, readable and writable by every requester. -/
def openFirewall : List Byte := leBytes 8 0 ++ leBytes 8 0x1C0000000 ++ [0xFF, 0x1F, 0xFF, 0x0F, 1]

/-- An access of 64 bytes at 256 MiB. -/
def access (write : Bool) : Access := { write := write, module := none, addr := 0x10000000, bytes := 64, data := List.replicate 64 0, dest := 0 }

/-- A descriptor that waits for object 1 to reach 0 and posts object 2. -/
def desc0 : Desc :=
  { base := 0x10000000, space := 1, module := 0, format := 0, window := false, padding := false, circular := false, faultOnError := false,
    waitFirst := true, postDone := true, padValue := 0, counts := [1, 1, 1, 1], strides := [0, 0, 0, 0], xLo := 0, xHi := 0, yLo := 0, yHi := 0,
    axisX := 0, axisY := 0, waitId := 1, waitTarget := 0, postId := 2, circLen := 0, xOrg := 0, yOrg := 0, sx := 0, sy := 0, dx := 0, dy := 0,
    groups := 1, groupStride := 0 }

theorem wit_BundleIssues :
    (let s := tileUp [] id
     s.tileRuns 0 = true ∧ (s.tile 0).asleep = false ∧ (s.tile 0).hold ≠ .transactions ∧ (s.tile 0).code.get Bundle.nop (s.tile 0).pc = Bundle.nop ∧
     (s.advance 7).syncHold 0 (s.tile 0) Bundle.nop.s7 = .none ∧ ((s.advance 7).feeds 0 (s.tile 0) Bundle.nop).isSome = true ∧
     Bundle.nop.s0.op ≠ .store ∧ ((s.advance 7).feeds 0 (s.tile 0) Bundle.nop).map (·.out) = some [] ∧ Bundle.nop.s7.op = .nop) ∧
    (let b := { Bundle.nop with s7 := ⟨.wait 0 1, none⟩ }
     let s := tileUp [] (fun x => { x with code := [(0, b)] })
     s.tileRuns 0 = true ∧ (s.tile 0).asleep = false ∧ (s.tile 0).hold ≠ .transactions ∧ (s.tile 0).code.get Bundle.nop (s.tile 0).pc = b ∧
     (s.advance 7).syncHold 0 (s.tile 0) b.s7 = .wait 0 1 ∧ Hold.wait 0 1 ≠ .none) ∧
    (let b := { Bundle.nop with s4 := ⟨.accumulate, none, 0, 1, false, 0, 0, false, 1⟩ }
     let s := tileUp [] (fun x => { x with code := [(0, b)], ags := [(0, { AddrGen.init with desc := some desc0, running := true })] })
     s.tileRuns 0 = true ∧ (s.tile 0).asleep = false ∧ (s.tile 0).hold ≠ .transactions ∧ (s.tile 0).code.get Bundle.nop (s.tile 0).pc = b ∧
     (s.advance 7).syncHold 0 (s.tile 0) b.s7 = .none ∧ (s.advance 7).feeds 0 (s.tile 0) b = none) := by decide +kernel

/-- A slot that adds g1 and g2 into a register. -/
def adds (dst : GReg) : ScalarSlot := ⟨.add, none, dst, 1, 2, false, 0⟩

theorem wit_ScalarSlotComputes :
    ({ Tile.init with g := [(2, 0)] }).predOn (some 2) = false ∧
    ((Tile.init).predOn (adds 3).pred = true ∧ scalarResult (adds 3).op (Tile.init.greg 1) (scalarB (adds 3) Tile.init) = some 0 ∧ (adds 3).dst ≠ 0) ∧
    (adds 0).dst = 0 ∧
    (Tile.init.predOn ({ adds 3 with op := .load }).pred = true ∧ ({ adds 3 with op := .load }).op = .load ∧ (adds 3).dst ≠ 0) ∧
    (Tile.init.predOn ({ adds 3 with op := .store }).pred = true ∧ ({ adds 3 with op := .store }).op = .store ∧ Memory.wf (up []).mem = true) ∧
    (-(2 ^ 63 : Int) ≤ (2 ^ 62 : Word).toInt + (2 ^ 62 - 1 : Word).toInt ∧ (2 ^ 62 : Word).toInt + (2 ^ 62 - 1 : Word).toInt < 2 ^ 63) ∧
    (-(2 ^ 63 : Int) ≤ (-(2 ^ 63) : Word).toInt - (0 : Word).toInt ∧ (-(2 ^ 63) : Word).toInt - (0 : Word).toInt < 2 ^ 63) ∧
    (63 : Word).toNat < 64 := by decide +kernel

/-- A state with the posts given on their way. -/
def posting (ps : List Post) : State := let s := tileUp [] id; { s with market := { s.market with posts := ps } }

theorem wit_HeldTilesGoOn :
    (let s := tileUp [] (fun x => { x with hold := .wait 3 5, sync := [(3, 5)] })
     (s.tile 0).hold = .wait 3 5 ∧ s.tileRuns 0 = true ∧ syncReached ((s.tile 0).obj 3) 5 = true) ∧
    (let s := tileUp [] (fun x => { x with asleep := true, wake := true })
     s.tileRuns 0 = true ∧ (s.tile 0).asleep = true ∧ (s.tile 0).wake = true) ∧
    (let s := tileUp [] (fun x => { x with ags := [(2, { AddrGen.init with desc := some desc0, waiting := true })] })
     ((s.tile 0).ag 2).desc = some desc0 ∧ s.tileRuns 0 = true ∧ ((s.tile 0).ag 2).waiting = true ∧
     syncReached ((s.tile 0).obj (desc0.waitId % 256)) desc0.waitTarget = true) ∧
    (let s := tileUp [] (fun x => { x with ags := [(2, { AddrGen.init with desc := some desc0, toPost := true })] })
     ((s.tile 0).ag 2).desc = some desc0 ∧ ((s.tile 0).ag 2).toPost = true ∧ ((s.tile 0).ag 2).out = [] ∧
     ∀ tr ∈ (s.tile 0).trans, tr.issuer ≠ .ag 2) ∧
    (let p : Post := ⟨0, 256 + 254, 3, []⟩
     let s := posting [p]
     s.market.posts[0]? = some p ∧ p.after = [] ∧ s.market.posts.take 0 = [] ∧ s.tileCtx p.tile < 8 ∧
     p.target / 256 ∈ s.ctxTiles (s.tileCtx p.tile) ∧ p.target < 16384 ∧ p.target % 256 ≠ 255) ∧
    (let p : Post := ⟨0, 256 + 255, 3, []⟩
     let s := posting [p]
     s.market.posts[0]? = some p ∧ p.after = [] ∧ s.market.posts.take 0 = [] ∧ s.tileCtx p.tile < 8 ∧
     p.target / 256 ∈ s.ctxTiles (s.tileCtx p.tile) ∧ p.target < 16384 ∧ p.target % 256 = 255) ∧
    (let p : Post := ⟨0, 512, 3, []⟩
     let s := posting [p]
     s.market.posts[0]? = some p ∧ p.after = [] ∧ s.market.posts.take 0 = [] ∧ p.target / 256 ∉ s.ctxTiles (s.tileCtx p.tile)) := by
  decide +kernel

theorem wit_TransactionsAct :
    (let s := (tileUp [] id).setDom Ob.dramFirewall openFirewall
     (s.tile 0).issuedAccess .scalar (access true) = some (access true) ∧ s.tileRuns 0 = true ∧ (s.tile 0).asleep = false ∧
     accessValid (access true) = true ∧ (access true).module = none ∧ (access true).write = true ∧ (s.tile 0).outstanding < 32 ∧
     s.channelsFree (access true) = true ∧ s.fwGrants true (s.tileCtx 0) (access true).addr.toNat (access true).bytes = true) ∧
    (let s := ((tileUp [] (fun x => { x with ags := [(0, { AddrGen.init with desc := some desc0, running := true })] }))).setDom Ob.dramFirewall openFirewall
     (s.tile 0).issuedAccess (.ag 0) (access false) = some (access false) ∧ s.tileRuns 0 = true ∧ (s.tile 0).asleep = false ∧
     accessValid (access false) = true ∧ (s.tile 0).acquiring = false ∧ (s.tile 0).outstanding < 32 ∧ s.channelsFree (access false) = true ∧
     s.fwGrants false (s.tileCtx 0) (access false).addr.toNat (access false).bytes = true) ∧
    (let s := (tileUp [] id).setDom Ob.dramFirewall []
     (s.tile 0).issuedAccess .scalar (access true) = some (access true) ∧ s.tileRuns 0 = true ∧ (s.tile 0).asleep = false ∧
     accessValid (access true) = true ∧ (access true).write = true ∧ (s.tile 0).outstanding < 32 ∧ s.channelsFree (access true) = true ∧
     targetOf (access true).addr.toNat = .dram ∧ s.fwGrants true (s.tileCtx 0) (access true).addr.toNat (access true).bytes = false) ∧
    (let s := tileUp [] (fun x => { x with trans := List.replicate 32 ⟨0, 0, .scalar, access true⟩ })
     (s.tile 0).issuedAccess .scalar (access true) = some (access true) ∧ s.tileRuns 0 = true ∧ (s.tile 0).asleep = false ∧
     accessValid (access true) = true ∧ (access true).write = true ∧ 32 ≤ (s.tile 0).outstanding) ∧
    (let tr : Transaction := ⟨0, 0, .scalar, access false⟩
     let s := tileUp [] (fun x => { x with trans := [tr] })
     (s.tile 0).trans[0]? = some tr ∧ tr.acc.module = none ∧ (s.tile 0).trans.take 0 = [] ∧ s.market.spikes = [] ∧
     targetOf tr.acc.addr.toNat ≠ .reserved) := by decide +kernel

theorem wit_TransactionsAct_errors :
    (let s := tileUp [] id
     s.tileCtx 0 < 8 ∧ s.ctxState (s.tileCtx 0) = 2) ∧
    (let l : CacheLine := ⟨9, false, []⟩
     let s := tileUp [] (fun x => { x with unit_ := { NeuronUnit.init with cache := [(36, l)] } })
     (s.nunit 0).cache.find? 36 = some l) := by decide +kernel

/-- A spiking context 0 on tiles 0 and 1, with marks as given and without a step open. -/
def spiking (part : Int) (mark : Int) : State :=
  (tileUp [(Ob.tileNeuronsResident 0, 1), (Ob.inputMark 0, mark), (Ob.inputMark 1, mark), (Ob.programParticipation 0, part)] id).modCtx 0
    (fun c => { c with logical := some 0 })

/-- A neuron unit at the end of step 4. -/
def unit4 : NeuronUnit :=
  { NeuronUnit.init with released := some 4, done := some 4, misses := [9], dynDone := some 4, neurons := [(0, ⟨0, [], 0⟩)] }

/-- A state with step 4 open, tile 0 with a unit, the tiles given done. -/
def stepping (u : NeuronUnit) (done : List Nat) : State :=
  (tileUp [(Ob.programParticipation 0, 1)] (fun x => { x with unit_ := u })).modCtx 0 (fun c => { c with opened := some 4, doneTiles := done })

theorem wit_StepsAct :
    (let s := tileUp [] id
     s.tileCtx 0 < 8 ∧ s.ctxState (s.tileCtx 0) = 2 ∧ s.nat (Ob.arithmeticMode (s.tileCtx 0)) ≠ 3 ∧ (s.tile 0).ringHeld = 0) ∧
    (let s := spiking 1 5000000
     s.ctxState 0 = 2 ∧ (s.ctx 0).swapping = false ∧ (s.ctx 0).rewriting = false ∧ s.spiking 0 = true ∧ (s.ctx 0).logical ≠ none ∧
     (s.ctx 0).opened = none ∧ (∀ x ∈ s.ctxTiles 0, (s.nextStep 0 + 1) * s.delta 0 ≤ s.nat (Ob.inputMark x)) ∧
     s.on (Ob.programParticipation 0) = true) ∧
    (let s := spiking 0 5000000
     s.ctxState 0 = 2 ∧ (s.ctx 0).swapping = false ∧ (s.ctx 0).rewriting = false ∧ s.spiking 0 = true ∧ (s.ctx 0).logical ≠ none ∧
     (s.ctx 0).opened = none ∧ (∀ x ∈ s.ctxTiles 0, (s.nextStep 0 + 1) * s.delta 0 ≤ s.nat (Ob.inputMark x)) ∧
     s.on (Ob.programParticipation 0) = false ∧
     (∀ x ∈ s.ctxTiles 0, s.anyActive x = false ∧ s.hasInput x (s.nextStep 0) = false ∧ (s.nunit x).far = [])) ∧
    (let s := stepping { unit4 with released := some 3 } []
     (s.ctx (s.tileCtx 0)).opened = some 4 ∧ s.tileRuns 0 = true ∧ (s.nunit 0).released ≠ some 4 ∧ (s.nunit 0).orderedCap = 0) := by
  decide +kernel

/-- A state with a spike message for neuron 0 of tile 0 on its way. -/
def spiked (m : SpikeMsg) : State := let s := stepping unit4 []; { s with market := { s.market with spikes := [m] } }

theorem wit_StepsAct_rest :
    (let s := stepping unit4 [1]
     s.tileCtx 0 = 0 ∧ (s.ctx 0).opened = some 4 ∧ s.tileRuns 0 = true ∧ (s.nunit 0).released = some 4 ∧ 0 ∉ (s.ctx 0).doneTiles ∧
     (s.nunit 0).walks = [] ∧ s.market.spikes = [] ∧ (s.nunit 0).done = some 4 ∧ (s.tile 0).openWrites = [] ∧
     ∀ y ∈ s.ctxTiles 0, y = 0 ∨ y ∈ (s.ctx 0).doneTiles) ∧
    (let s := stepping unit4 []
     s.tileCtx 0 = 0 ∧ (s.ctx 0).opened = some 4 ∧ s.tileRuns 0 = true ∧ (s.nunit 0).released = some 4 ∧ 0 ∉ (s.ctx 0).doneTiles ∧
     (s.nunit 0).walks = [] ∧ s.market.spikes = [] ∧ (s.nunit 0).done = some 4 ∧ (s.tile 0).openWrites = [] ∧
     ∃ y ∈ s.ctxTiles 0, y ≠ 0 ∧ y ∉ (s.ctx 0).doneTiles) ∧
    (let m : SpikeMsg := ⟨0, 0, 0, 20, 1, 8191, 7, some 4⟩
     let s := spiked m
     s.market.spikes[0]? = some m ∧ s.market.spikes.take 0 = [] ∧ (s.tile m.fromTile).trans = [] ∧ m.after = some 4 ∧
     (s.nunit m.tile).dynDone = some 4 ∧ (s.nunit m.tile).neurons.find? m.neuron = some ⟨0, [], 0⟩ ∧ (⟨0, [], 0⟩ : Neuron).ordered = false ∧
     s.earliest m.tile ≤ m.step ∧ m.source < 8192) ∧
    (let s := stepping unit4 []
     (s.nunit 0).misses = 9 :: [] ∧ (s.nunit 0).orderedCap = 0 ∧ s.tileCtx 0 < 8 ∧ s.ctxState (s.tileCtx 0) = 2) := by decide +kernel

/-- A state whose context 0 runs package 0, with one evaluation done and audits each evaluation. -/
def audited (f : Context → Context) : State :=
  (tileUp [(Ob.auditInterval 0, 1)] id).modCtx 0 (fun c => f { c with pkg := some package0, evals := 1 })

/-- What an audit finds: an output reused 3 LSB off. -/
def sample0 : AuditSample := ⟨0, 3, 0⟩

theorem wit_AdaptiveLoopsAct :
    (let s := tileUp [] id
     s.ctxState 0 = 2 ∧ (s.ctx 0).swapping = false ∧ s.ctxState 1 ≠ 2 ∧ s.tileRuns 0 = true) ∧
    (let s := tileUp [(Ob.loopMode 0, 1)] id
     s.tileRuns 0 = true ∧ s.nat (Ob.loopMode 0) = 1) ∧
    (let s := (tileUp [] id).modCtx 0 (fun c => { c with guards := [1, 2] })
     s.tileCtx 0 = 0 ∧ 2 ≤ ((s.ctx 0).guards.filter (fun g => decide (3 < g + 1000000000))).length) ∧
    (let s := tileUp [] id
     s.tileCtx 0 = 0 ∧ ((s.ctx 0).guards.filter (fun g => decide (3 < g + 1000000000))).length < 2) ∧
    (let s := audited id
     (s.deltaLayers 0).find? (fun l => l.number == 3) = some layer0 ∧ s.auditDue 0 3 [sample0] = true ∧ auditError [sample0] = 3 ∧
     s.nat (Ob.thetaMode 0) = 0 ∧ s.boundAt 0 layer0 ((s.ctx 0).theta.get 0 3) < 3) ∧
    accepts (.forceExact 5 .mailbox 0 1) (tileUp [] id) = true := by decide +kernel

/-! ## Premises met: the Square and calibration -/

/-- An open slot. -/
def slot0 (k : Nat) (closed : Bool) : OpenSlot :=
  { k := k, epoch := 0, first := false, deadline := 5000, meas := [], closed := closed, byDeadline := false, delivered := false, analog := [],
    cq := [1, 0, 0, 0], cw := [0, 0, 0] }

/-- A small state in RUN with a Square as given. -/
def square (l : List (Nat × Int)) (f : Square → Square) : State :=
  let s := up ((Ob.deviceState, 4) :: l)
  { s with square := f s.square }

/-- A record of a kind for slot 1, of frame 0. -/
def record0 (kind : Byte) : List Byte := leBytes 8 1000 ++ [kind, 0] ++ List.replicate 54 0

/-- A state with a record of context 0 on its way to the Square. -/
def filing (l : List (Nat × Int)) (bytes : List Byte) (f : Square → Square) : State :=
  let s := square ((Ob.frameEnable 0, 1) :: l) f
  { s with market := { s.market with submissions := [⟨0, bytes⟩] } }

/-- Slot 1 open. -/
def openOne (q : Square) : Square := { q with open_ := [slot0 1 false], top := some 1 }

theorem wit_SlotsFileAndClose :
    (let s := filing [] (leBytes 8 1000 ++ [5]) openOne
     s.market.submissions[0]? = some ⟨0, leBytes 8 1000 ++ [5]⟩ ∧ s.fenced = false ∧ s.recordBad (leBytes 8 1000 ++ [5]) = true) ∧
    (let s := filing [] (record0 0) openOne
     s.market.submissions[0]? = some ⟨0, record0 0⟩ ∧ s.fenced = false ∧ s.recordBad (record0 0) = false ∧ leAt (record0 0) 8 1 = 0 ∧
     (s.advance 5).watermarkOf 0 ≤ leAt (record0 0) 56 8) ∧
    (let s := filing [] (record0 0) (fun q => { openOne q with declared := [(0, 4)] })
     leAt (record0 0) 56 8 < (s.advance 5).watermarkOf 0) ∧
    (let s := filing [(Ob.deviceState, 3)] (record0 3) openOne
     s.fenced = false ∧ s.recordBad (record0 3) = false ∧ leAt (record0 3) 8 1 ≠ 0 ∧ s.driving = false) ∧
    (let bytes := leBytes 8 1006 ++ (record0 3).drop 8
     let s := filing [] bytes openOne
     s.fenced = false ∧ s.recordBad bytes = false ∧ leAt bytes 8 1 ≠ 0 ∧ max s.time 5 + 1000 < leAt bytes 0 8) ∧
    (let s := filing [] (record0 3) (fun q => { q with top := some 0 })
     s.fenced = false ∧ s.recordBad (record0 3) = false ∧ leAt (record0 3) 8 1 ≠ 0 ∧ s.driving = true ∧
     leAt (record0 3) 0 8 ≤ max s.time 0 + 1000 ∧ s.square.top = some 0 ∧ 0 < slotOf (leAt (record0 3) 0 8)) ∧
    (let s := filing [] (record0 2) openOne
     s.market.submissions[0]? = some ⟨0, record0 2⟩ ∧ s.fenced = false ∧ s.recordBad (record0 2) = false ∧ leAt (record0 2) 8 1 ≠ 0 ∧ s.driving = true ∧
     sumNat (s.square.open_.map (fun o => o.meas.length)) < 16384 ∧ leAt (record0 2) 0 8 ≤ max s.time 5 + 1000 ∧
     slotOf (leAt (record0 2) 0 8) = 1 ∧ s.square.top = some 1 ∧ bitAt (leAt (record0 2) 14 1) 1 = false ∧
     s.square.open_.find? (fun o => o.k == 1 && !o.closed) = some (slot0 1 false) ∧
     (State.measure ({ s with square := { s.square with filed := s.square.filed + 1 } } : State) 0 (record0 2) 0).map (·.isSome) = some true) := by
  decide +kernel

theorem wit_SlotsFileAndClose_close :
    (let s := square [] openOne
     s.nextToClose = some (slot0 1 false) ∧ s.awaitedStreams = [] ∧ (slot0 1 false).deadline ≤ max s.time 5000) ∧
    (let s := square [(Ob.awaitMask, 1), (Ob.contextState 0, 2)] (fun q => { openOne q with declared := [(0, 1999)] })
     s.nextToClose = some (slot0 1 false) ∧ s.awaitedStreams = [0] ∧ (s.advance 5000).delivered 0 1 = true) := by decide +kernel

/-- An event-level feed word of port 0 for slot 0 at the image's corner. -/
def feed0 : BitVec 64 := 2 ^ 30

/-- A state with the feed word given in the feed queue, slot 0 open and a window of track 7 in its cell. -/
def feeding : State :=
  let s := square [] (fun q => { q with open_ := [slot0 0 false], cells := [(0, [⟨7, 0, 0, 4⟩])] })
  { s with gate := { s.gate with feed := [feed0] } }

theorem wit_FusionAndFeed :
    (let s := square [] (fun q => { q with open_ := [slot0 1 true] })
     s.square.open_ = slot0 1 true :: [] ∧ s.square.fusing = none ∧ (slot0 1 true).closed = true ∧ s.dev = 4) ∧
    (let f : Fused := ⟨1, [], ⟨1, 0, 1, 0, false, []⟩⟩
     let s := square [] (fun q => { q with fusing := some f })
     s.square.fusing = some f ∧ s.square.hist.length < 256) ∧
    (feeding.gate.feed = feed0 :: [] ∧ slotOf (nearestTime (max feeding.time 5) (field feed0.toNat 0 30)) = 0 ∧ field feed0.toNat 62 2 = 0 ∧
     signed 15 (field feed0.toNat 46 15) = 0 ∧ signed 15 (field feed0.toNat 31 15) = 0 ∧
     feeding.square.open_.find? (fun o => o.k == 0 && !o.closed) = some (slot0 0 false) ∧
     feeding.feedForeign 0 (field feed0.toNat 30 1) (slot0 0 false).epoch = false ∧
     32 * 0 / (feeding.projNow 0).width < 64 ∧ 32 * 0 / (feeding.projNow 0).height < 64 ∧
     windowFor ((0 : Int) / 2) ((0 : Int) / 2) (feeding.square.cells.get [] (4096 * 0 + 64 * (32 * 0 / (feeding.projNow 0).height) +
       32 * 0 / (feeding.projNow 0).width)) = some ⟨7, 0, 0, 4⟩) := by decide +kernel

theorem wit_EgoMotionActs :
    (let s := square [(Ob.egoEnable, 1)] (fun q => { q with open_ := [slot0 1 true] })
     s.dev = 4 ∧ s.square.open_.find? (fun o => o.closed && (s.settledRec o.k).isNone) = some (slot0 1 true) ∧ s.on Ob.egoEnable = true) ∧
    (let s := square [] (fun q => { q with open_ := [slot0 1 true] })
     s.dev = 4 ∧ s.square.open_.find? (fun o => o.closed && (s.settledRec o.k).isNone) = some (slot0 1 true) ∧ s.on Ob.egoEnable = false) ∧
    accepts (.referenceReset 5 .mailbox 1) (up []) = true ∧
    (square [] (fun q => { q with ego := { q.ego with resetPending := true } })).square.ego.resetPending = true ∧
    accepts (.projectionSetWrite 5 .mailbox 15 3 (List.replicate 20 0)) (up []) = true ∧
    accepts (.sensorRestore 5 .mailbox 23 1) (up []) = true ∧ accepts (.degradationReset 5 .mailbox 1) (up []) = true ∧
    (let s := square [(Ob.waitLimitMode, 1)] id
     s.dev = 4 ∧ s.on Ob.waitLimitMode = true) ∧
    (let s := square [] (fun q => { q with wait := ⟨1, 1, 0, false⟩ })
     s.dev = 4 ∧ s.on Ob.waitLimitMode = false ∧ s.nat Ob.lateTarget * s.square.wait.total < s.square.wait.late * 65536) := by decide +kernel

/-- A small state with its calibration loops changed. -/
def calibrating (l : List (Nat × Int)) (f : Cal → Cal) : State := let s := up l; { s with cal := f s.cal }

/-- The objects with which the learning of port 0 has started. -/
def learnOn : List (Nat × Int) :=
  [(Ob.refractoryLearningEnable 0, 1), (Ob.biasTrimEnable 0, 1), (Ob.portEnable 0, 1), (Ob.portState 0, 2), (Ob.coldFlag 0, 0)]

/-- A state whose bias window of port 0 ends with a count, a code and a step. -/
def biased (count : Nat) (code : Int) : State :=
  ((up ((Ob.biasCode 0, code) :: (Ob.biasRateBand 0, 5 + 6 * 2 ^ 32) :: learnOn)).modPort 0 (fun q => { q with biasCount := count })).setDom (Ob.biasProgram 0)
    ([0, 0, 0, 0, 0, 0] ++ leBytes 2 100 ++ [0, 0] ++ leBytes 2 10 ++ List.replicate 68 0)

theorem wit_CalibrationActs :
    (let s := (up learnOn).modPort 0 (fun q => { q with learn := [0, 0, 0, 9] ++ List.replicate 12 0 })
     s.on (Ob.refractoryLearningEnable 0) = true ∧ s.gateLoopStarted 0 = true ∧
     (s.port 0).learnFrom + 1000000 * s.nat (Ob.refractoryLearnWindow 0) ≤ (s.advance 1000000000000).time) ∧
    learnedBin (List.replicate 16 0) = none ∧
    (let s := biased 0 7
     s.on (Ob.biasTrimEnable 0) = true ∧ s.gateLoopStarted 0 = true ∧
     (s.port 0).biasFrom + 1000000 * s.nat (Ob.biasWindow 0) ≤ (s.advance 1000000000000).time) ∧
    (let s := (biased 6 7).setNat (Ob.biasWindow 0) 1000
     field (s.nat (Ob.biasRateBand 0)) 0 32 * s.nat (Ob.biasWindow 0) ≤ (s.port 0).biasCount * 1000 ∧
     (s.port 0).biasCount * 1000 ≤ field (s.nat (Ob.biasRateBand 0)) 32 32 * s.nat (Ob.biasWindow 0)) ∧
    (let s := (biased 1000000 90).setNat (Ob.biasWindow 0) 1000
     s.objs.find? (Ob.biasCode 0) = some (Int.ofNat 90) ∧
     field (s.nat (Ob.biasRateBand 0)) 32 32 * s.nat (Ob.biasWindow 0) < (s.port 0).biasCount * 1000 ∧
     leAt (s.domBytes (Ob.biasProgram 0) 0 80) 10 2 = 10 ∧ 90 + 10 ≤ leAt (s.domBytes (Ob.biasProgram 0) 0 80) 6 2 ∧ (s.port 0).i3c.length < 8) ∧
    (let s := biased 1000000 91
     s.objs.find? (Ob.biasCode 0) = some (Int.ofNat 91) ∧ leAt (s.domBytes (Ob.biasProgram 0) 0 80) 6 2 < 91 + 10) := by decide +kernel

/-- The objects with which the loops of the runtime run: context 0 is the calibration context and runs. -/
def loopsOn : List (Nat × Int) :=
  [(Ob.deviceState, 4), (Ob.calibrationContext, 0), (Ob.contextState 0, 2), (Ob.tileContext 0, 0), (Ob.timeOffsetEnable 0, 1), (Ob.portState 0, 2), (Ob.coldFlag 0, 0),
    (Ob.egoEnable, 1), (Ob.inertialSource, 1), (Ob.inertialState 0, 1), (Ob.inertialEnable 0, 1), (Ob.refineEnable 1, 1), (Ob.frameEnable 0, 1),
    (Ob.frameEnable 1, 1), (Ob.scaleEnable, 1), (Ob.encoderState 0, 1), (Ob.encoderEnable 0, 1), (Ob.encoderRoles, 1)]

/-- A small state with every loop of the runtime started and its window at its end. -/
def loops (f : Cal → Cal) : State :=
  (calibrating loopsOn (fun c => f { c with residuals := [(1, 1000000)], scaleCount := 100000000 })).modCtx 0 (fun c => { c with w := 1, h := 1 })

theorem wit_CalibrationActs_runtime :
    (let s := loops id
     s.offsetStarted 0 = true ∧ s.runtimeOn = true ∧
     s.cal.offsetFrom.get 0 0 + 1000000 * s.nat (Ob.offsetWindow 0) ≤ (s.advance 1000000000000).time ∧ s.cal.tasks = [] ∧
     0 ≤ s.calBudget - s.cal.spent ∧ s.loopStopped 0 = false) ∧
    (let s := loops (fun c => { c with stopped := [0, extLoop 1, scaleLoop] })
     s.offsetStarted 0 = true ∧ s.runtimeOn = true ∧ s.cal.tasks = [] ∧ s.loopStopped 0 = true ∧ s.loopStopped (extLoop 1) = true ∧
     s.loopStopped scaleLoop = true) ∧
    (let s := loops id
     s.extStarted 1 = true ∧ s.runtimeOn = true ∧ s.nat (Ob.extrinsicWindow 1) ≤ s.cal.residuals.get 0 1 ∧ s.cal.tasks = [] ∧
     s.loopStopped (extLoop 1) = false) ∧
    (let s := loops id
     s.scaleStarted = true ∧ s.runtimeOn = true ∧ s.nat Ob.scaleWindow ≤ s.cal.scaleCount ∧ s.lineEncoder = some 0 ∧ s.cal.tasks = [] ∧
     s.loopStopped scaleLoop = false) ∧
    accepts (.calibrationRestart 5 .mailbox 1) (up []) = true ∧ accepts (.calibrationSave 5 .mailbox 1) (up []) = true ∧
    (let s := calibrating [] (fun c => { c with staged := [⟨0, 5, [], false⟩] })
     s.opensEpoch 9 = true ∧ s.loopsCommit 9 = true) ∧
    (up []).opensEpoch 9 = false := by decide +kernel

/-! ## Premises met: the link -/

/-- A small state with link port 0 UP and changed. -/
def linkUpState (l : List (Nat × Int)) (f : LinkPort → LinkPort) : State := (up ([(Ob.linkPortState 0, 2), (Ob.linkPortEnable 0, 1)] ++ l)).modLink 0 f

/-- A flit sent and kept for retry. -/
def sent (n : Nat) : SentFlit := ⟨n, ⟨0, []⟩, 0, 0, 0⟩

/-- A header for this module, address 0, of a type with its class, units and requested units, A and B. -/
def head (type cls units want a b : Nat) : BitVec 192 := mkHeader 0 1 cls 0 units type 9 0 want a b

theorem wit_LinkPortsTrain :
    (accepts (.chaivoPortEnable 5 .mailbox 3 1) (up []) = true ∧ (up []).num (Ob.linkPortEnable 3) ≠ 1) ∧
    accepts (.chaivoPortEnable 5 .mailbox 0 0) (linkUpState [] id) = true ∧ accepts (.retrainStored 5 .mailbox 0) (linkUpState [] id) = true ∧
    accepts (.retrainFull 5 .mailbox 0) (linkUpState [] id) = true ∧
    (let s := linkUpState [(Ob.linkPortState 0, 1)] (fun q => { q with heard := true })
     s.nat (Ob.linkPortState 0) = 1 ∧ (s.advance 5).cageOff 0 = false ∧ (s.linkPort 0).full = true ∧ (s.linkPort 0).heard = true) ∧
    (let s := linkUpState [(Ob.linkPortState 0, 3)] id
     s.nat (Ob.linkPortState 0) = 3 ∧ (s.advance 5).cageOff 0 = false ∧ (s.linkPort 0).heard = false) ∧
    (let s := linkUpState [(Ob.linkPortState 0, 1)] (fun q => { q with locked := true })
     s.nat (Ob.linkPortState 0) ≠ 0 ∧ (s.linkPort 0).locked = true) ∧
    (let s := linkUpState [(Ob.linkPortState 0, 1)] (fun q => { q with due := 5 })
     s.nat (Ob.linkPortState 0) = 1 ∧ (s.linkPort 0).due ≤ (s.advance 5).time) ∧
    (let s := linkUpState [(Ob.linkPortState 0, 3)] (fun q => { q with due := 5 })
     s.nat (Ob.linkPortState 0) = 3 ∧ (s.linkPort 0).due ≤ (s.advance 5).time) ∧
    ((linkUpState [] id).linkUp 0 = true ∧ (linkUpState [] id).on (Ob.linkPortEnable 0) = true) := by decide +kernel

theorem wit_FlitsMove :
    ((sent 5).seq = 5 ∧ ∀ y ∈ [sent 4], y.seq ≠ 5) ∧
    (let s := linkUpState [] (fun q => { q with retry := [sent 4, sent 5] })
     s.linkUp 0 = true ∧ (s.linkPort 0).queue = [] ∧ ackRetry 5 (s.linkPort 0).retry = []) ∧
    (let s := linkUpState [] (fun q => { q with retry := [sent 4, sent 5] })
     s.linkUp 0 = true ∧ (s.linkPort 0).queue = [] ∧ ackRetry 4 (s.linkPort 0).retry = sent 5 :: [] ∧ (sent 5).resent < 16) ∧
    (let s := linkUpState [] (fun q => { q with retry := [sent 4] })
     s.linkUp 0 = true ∧ (s.linkPort 0).retry = sent 4 :: [] ∧ (sent 4).sentAt + s.nat (Ob.retryTimeout 0) ≤ (s.advance 25000).time ∧
     (sent 4).resent < 16) ∧
    (let x := { sent 4 with resent := 16 }
     let s := linkUpState [] (fun q => { q with retry := [x] })
     s.linkUp 0 = true ∧ (s.linkPort 0).retry = x :: [] ∧ x.sentAt + s.nat (Ob.retryTimeout 0) ≤ (s.advance 25000).time ∧ 16 ≤ x.resent) ∧
    (let s := linkUpState [] id
     s.linkUp 0 = true ∧ (s.linkPort 0).queue = [] ∧ bitAt 0 39 = false ∧ (s.linkPort 0).credits.length = 4) ∧
    (let s := linkUpState [(Ob.portMode 0, 1)] id
     s.linkUp 0 = true ∧ s.hostMode 0 = true ∧ (s.linkPort 0).queue = [] ∧ bitAt (16 * 0) 39 = false ∧ (s.linkPort 0).credits.length = 4) ∧
    (let s := linkUpState [] (fun q => { q with unacked := true })
     s.linkUp 0 = true ∧ s.hostMode 0 = false ∧ (s.linkPort 0).unacked = true) := by decide +kernel

theorem wit_FlitsMove_headers :
    (let s := linkUpState [] id
     s.linkUp 0 = true ∧ (s.linkPort 0).skip = false ∧ (s.linkPort 0).discarding = false ∧ headerCheck (5 : BitVec 192).toNat ≠ 5 % 256 ∧
     (headerCheck (head 0x3F 0 0 0 0 0).toNat = (head 0x3F 0 0 0 0 0).toNat % 256 ∧ flitMalformed (head 0x3F 0 0 0 0 0) = true) ∧
     (headerCheck (head 0x10 0 0 0 0 0).toNat = (head 0x10 0 0 0 0 0).toNat % 256 ∧ flitMalformed (head 0x10 0 0 0 0 0) = false ∧
       hDest (head 0x10 0 0 0 0 0) = s.ownAddress)) := by decide +kernel

/-- The flit an ECHO without payload makes. -/
def echoRx : RxFlit := ⟨head 0x10 0 0 0 0 0, .here, false⟩

/-- A trailer with a CRC and a sequence number. -/
def trailer (crc seq : Nat) : BitVec 64 := BitVec.ofNat 64 (put 32 32 crc + put 20 12 seq)

theorem wit_FlitsMove_trailers :
    (let s := linkUpState [] (fun q => { q with rx := some echoRx, expected := 4095 })
     let c := flitCrc ⟨echoRx.header, []⟩
     s.linkUp 0 = true ∧ (s.linkPort 0).rx = some echoRx ∧
     field (trailer (c ^^^ 0xFFFFFFFF) 0).toNat 32 32 = c ^^^ 0xFFFFFFFF ∧
     (field (trailer 0 0).toNat 32 32 ≠ c ^^^ 0xFFFFFFFF ∧ field (trailer 0 0).toNat 32 32 ≠ c) ∧
     ([] : List Byte).length = 64 * hUnits echoRx.header ∧ field (trailer c 0).toNat 32 32 = c ∧
     field (trailer c 0).toNat 20 12 ≠ (s.linkPort 0).expected ∧ field (trailer c 4095).toNat 32 32 = c ∧
     field (trailer c 4095).toNat 20 12 = (s.linkPort 0).expected ∧ echoRx.route = .here) := by decide +kernel

/-- A frame of host mode without its FCS: type 0x88B5 and a flit of zeros. -/
def hostFrame : List Byte := List.replicate 12 0 ++ [0x88, 0xB5] ++ List.replicate 46 0

theorem wit_FlitsMove_host :
    (let s := up [(Ob.portMode 0, 1), (Ob.linkPortEnable 0, 1), (Ob.hostAddress 0, 0)]
     s.hostMode 0 = true ∧ s.on (Ob.linkPortEnable 0) = true ∧ s.linkUp 0 = false ∧ hostFrameOk [] = false ∧ hostFrameOk hostFrame = true ∧
     hSrc (BitVec.ofNat 192 (leAt hostFrame 14 24)) = s.nat (Ob.hostAddress 0)) := by decide +kernel

theorem wit_RequestsAreServed :
    (let s := (linkUpState [] id).setDom Ob.dramFirewall openFirewall
     (s.forUs 0 (head 1 2 0 1 0 64) 1 = true ∧ s.requestStatus 0 0 (head 1 2 0 1 0 64) (64 * hWant (head 1 2 0 1 0 64)) false = 0) ∧
     (s.forUs 0 (head 2 2 1 0 0 64) 2 = true ∧ s.requestStatus 0 1 (head 2 2 1 0 0 64) (64 * hUnits (head 2 2 1 0 0 64)) true = 0) ∧
     (s.forUs 0 (head 3 3 16 0 0 3072) 3 = true ∧ s.requestStatus 0 2 (head 3 3 16 0 0 3072) (64 * hUnits (head 3 3 16 0 0 3072)) true = 0) ∧
     (s.forUs 0 (head 3 3 16 0 0 3136) 3 = true ∧ s.requestStatus 0 2 (head 3 3 16 0 0 3136) (64 * hUnits (head 3 3 16 0 0 3136)) true ≠ 0)) ∧
    (let s := (linkUpState [] id).setDom Ob.dramFirewall []
     (s.forUs 0 (head 1 2 0 1 0 64) 1 = true ∧ s.requestStatus 0 0 (head 1 2 0 1 0 64) (64 * hWant (head 1 2 0 1 0 64)) false ≠ 0) ∧
     (s.forUs 0 (head 2 2 1 0 0 64) 2 = true ∧ s.requestStatus 0 1 (head 2 2 1 0 0 64) (64 * hUnits (head 2 2 1 0 0 64)) true ≠ 0)) ∧
    (let s := linkUpState [] id
     s.forUs 0 (head 4 2 0 1 8 0) 4 = true ∧ s.serves = true ∧ s.filterPasses 0 3 (head 4 2 0 1 8 0) = true ∧ lengthsOk (head 4 2 0 1 8 0) = true ∧
     hA (head 4 2 0 1 8 0) ≤ 8 ∧ s.readerInForce (hA (head 4 2 0 1 8 0)) ≠ 1 ∧ (((s.advance 5).expireTail 8).queue 8).closed = []) ∧
    (let s := linkUpState [(Ob.deviceState, 4)] id
     s.forUs 0 (head 9 0 0 0 7 0) 9 = true ∧ s.filterPasses 0 4 (head 9 0 0 0 7 0) = true ∧ s.driving = true ∧ s.evaluating = true ∧
     field (hA (head 9 0 0 0 7 0)) 3 10 = 0 ∧ s.forUs 0 (head 9 0 0 0 15 0) 9 = true ∧ s.filterPasses 0 4 (head 9 0 0 0 15 0) = true ∧
     field (hA (head 9 0 0 0 15 0)) 3 10 ≠ 0) ∧
    (let s := linkUpState [(Ob.deviceState, 7)] id
     s.forUs 0 (head 9 0 0 0 7 0) 9 = true ∧ s.filterPasses 0 4 (head 9 0 0 0 7 0) = true ∧ s.evaluating = false) ∧
    (let s := linkUpState [] id
     s.forUs 0 (head 0x10 0 0 0 0 0) 0x10 = true ∧ s.filterPasses 0 5 (head 0x10 0 0 0 0 0) = true) := by decide +kernel

/-- The request of tag 9 of tile 3's transaction 0. -/
def request9 : LinkRequest := ⟨9, 3, 0, 0, 64, 0, none⟩

/-- A state whose tile 3 has a transaction out, with one request under tag 9, and tag 8 in quarantine. -/
def asking : State :=
  let s := (up []).modTile 3 (fun x => { x with trans := [⟨0, 0, .scalar, access false⟩] })
  { s with link := { s.link with requests := [request9], quarantine := [(8, 20)] } }

theorem wit_RequestsAreServed_answers :
    (∀ r ∈ (up []).link.requests, r.tag = hTag (head 5 1 1 0 0 0) → r.answer ≠ none) ∧
    (asking.link.requests.find? (fun r => r.tag == hTag (head 5 1 1 0 0 0) && r.answer.isNone) = some request9 ∧
      asking.link.requests.filter (fun q => q.tile == request9.tile && q.num == request9.num) = [request9] ∧
      (asking.tile request9.tile).trans.find? (fun x => x.num == request9.num) = some ⟨0, 0, .scalar, access false⟩) ∧
    (∃ r ∈ asking.link.requests, r.tag = (9 : BitVec 12).toNat ∧ r.answer = none ∧
      r.sentAt + 1000 * asking.nat Ob.responseTimeout ≤ (asking.advance 2000000).time) ∧
    (((8 : BitVec 12).toNat, 20) ∈ asking.link.quarantine ∧ 20 ≤ (asking.advance 20).time) := by decide +kernel

theorem wit_LinkTimeAndMap :
    (let s := linkUpState [] (fun q => { q with count := 3, mIn := some 5, offset := some 7 })
     s.linkUp 0 = true ∧ s.hostMode 0 = false ∧ s.nat Ob.timeSource ≠ 2 ∧ (s.linkPort 0).count ≠ 0 ∧ (s.linkPort 0).mIn = some 5 ∧
     (s.linkPort 0).offset = some 7) ∧
    (let s := linkUpState [(Ob.portMode 0, 1)] id
     s.linkUp 0 = true ∧ s.hostMode 0 = true) ∧
    (let s := linkUpState [] id
     s.linkUp 0 = true ∧ -2147483648 ≤ s.num (Ob.deskewCorrection 0) ∧ s.num (Ob.deskewCorrection 0) ≤ 2147483647 ∧
     (s.num (Ob.deskewCorrection 0) + 250).natAbs < 2147483648) ∧
    accepts (.streetMapWrite 5 .mailbox true (List.replicate 1024 0)) (up []) = true ∧
    (let s := { up [] with link := { Link.init with swap := true } }
     s.link.swap = true) ∧
    (let s := { up [] with link := { Link.init with region := some [], local_ := some [], mirrorDue := true } }
     s.link.mirrorDue = true ∧ s.link.region = some [] ∧ s.link.local_ = some []) := by decide +kernel

/-! ## Premises met: queues, provocation, scrubs, standard objects, the field bus -/

/-- A result post. -/
def post0 : ResultPost := ⟨1, 5, 0, List.replicate 16 0⟩

/-- A small state with a queue that has a post, changed. -/
def queueState (q : Nat) (l : List (Nat × Int)) (f : ResultQueue → ResultQueue) : State := (up l).modQueue q (fun r => f { r with posts := [post0] })

/-- What a queue's entry is held against: its post, its place after the tail's expiry, its room. -/
def entryFits (q : Nat) (s : State) : Bool :=
  let e := ((s.advance 5).expireTail q).queue q
  decide (s.fenced = false ∧ (s.queue q).posts = post0 :: []) && decide (e.readOff ≤ sumNat (e.closed.map Batch.size)) &&
    decide (e.fillBytes + (recordBytes q (s.queue q).seq (s.on (Ob.resultCrcEnable q)) post0).length ≤ s.queueBytes q)

theorem wit_QueuesAct :
    entryFits 0 (queueState 0 [] (fun r => { r with seq := 65535 })) = true ∧
    (let s := queueState 0 [] id
     s.fenced = false ∧ (s.queue 0).posts = post0 :: [] ∧ s.nat (Ob.overflowPolicy 0) = 0 ∧ (s.queue 0).fullAt = none) ∧
    (let s := queueState 0 [(Ob.queueSize 0, 0)] (fun r => { r with fullAt := some 5 })
     s.fenced = false ∧ (s.queue 0).posts = post0 :: [] ∧ entryFits 0 s = false ∧ s.nat (Ob.overflowPolicy 0) = 0 ∧ (s.queue 0).fullAt ≠ none) ∧
    (let s := queueState 8 [] id
     s.fenced = false ∧ (s.queue 8).posts = post0 :: []) ∧
    (let s := queueState 0 [(Ob.overflowPolicy 0, 1)] id
     s.fenced = false ∧ (s.queue 0).posts = post0 :: [] ∧ s.nat (Ob.overflowPolicy 0) ≠ 0) ∧
    (let s := queueState 8 [] (fun r => { r with open_ := some ⟨[[0]], 0, 1, 0⟩ })
     (s.queue 8).open_ = some ⟨[[0]], 0, 1, 0⟩ ∧ 0 + 1000 * 0 ≤ max s.time 5) ∧
    (let s := queueState 0 [(Ob.queueSize 0, 0)] (fun r => { r with fullAt := some 5 })
     (s.queue 0).fullAt = some 5 ∧ (s.queue 0).stallNoted = false ∧ s.stillFull 0 = true ∧
     5 + 1000000 * s.nat (Ob.stallNoticeTime 0) ≤ max s.time 1000000000000) := by decide +kernel

/-- A state whose provocation units 0 and 7 are enabled, unit 0 selecting every item and unit 7 every second of class 3. -/
def provoked (action : Int) : State :=
  up [(Ob.provocationEnable 0, 1), (Ob.provocationEnable 7, 1), (Ob.classMask 7, 8), (Ob.period 0, 1), (Ob.action 0, action), (Ob.period 7, 2)]

theorem wit_QueuesAct_provocation :
    (((up []).prov 0).held = [] ∧ (up []).num (Ob.provocationEnable 0) = 0) ∧
    (((provoked 0).prov 0).held = [] ∧ (provoked 0).num (Ob.provocationEnable 0) = 1 ∧ (provoked 0).provSelects 0 = true ∧
      (provoked 0).nat (Ob.action 0) = 0 ∧ (provoked 1).nat (Ob.action 0) = 1 ∧ (provoked 2).nat (Ob.action 0) = 2 ∧
      (provoked 3).nat (Ob.action 0) = 3 ∧ (provoked 3).provSelects 0 = true) ∧
    (((provoked 0).prov 7).held = [] ∧ (provoked 0).num (Ob.provocationEnable 7) = 1 ∧ bitAt ((provoked 0).nat (Ob.classMask 7)) 3 = true ∧
      (provoked 0).provSelects 7 = false) ∧
    (let h : HeldItem := ⟨⟨[], 0⟩, 1, true, 0⟩
     let s := (up []).modProv 0 (fun u => { u with held := [h] })
     h.swap = true ∧ h.since + 10000 ≤ (s.advance 10000).time ∧ (s.prov 0).held = [h]) := by decide +kernel

theorem wit_QueuesAct_scrubs :
    (let s := { up [] with square := { Square.init with late := [⟨1000, 0, 0, 2, 0, 0, 0, 0, 0, 1, 0, [], [], [], [], 0⟩] } }
     0 < s.square.late.length) ∧
    (let s := { up [] with link := { Link.init with mirror := some ([], []) } }
     s.link.mirror = some ([], [])) := by decide +kernel

theorem wit_StandardObjectsAct :
    accepts (.storeParameters 5 .mailbox 0x65766173) (up []) = true ∧
    (let s := { up [] with flash := { Flash.init with due := some 5 } }
     s.flash.due = some 5 ∧ 5 + 1000000000 ≤ (s.advance 1000000005).time ∧ ∀ a, s.flash.due = some a → (s.advance 1000000004).time < a + 1000000000) ∧
    accepts (.restoreDefaultParameters 5 .mailbox 0x64616F6C) (up []) = true ∧
    accepts (.numberOfErrorsClear 5 .mailbox 0) (up []) = true ∧ accepts (.statusAcknowledge 5 .mailbox 1) (up []) = true ∧
    accepts (.ledgerClear 5 .mailbox 1) (up []) = true ∧ accepts (.builtInTest 5 .mailbox 1) (up [(Ob.testTiles, 1)]) = true ∧
    (let s := loaderWith [] (fun x => { x with test := some ⟨1, [0]⟩ })
     s.loader.test = some ⟨1, [0]⟩ ∧ (∃ r ∈ [((0 : Nat), (0 : Nat))], r.1 ∈ [0]) ∧ ∀ r ∈ [((1 : Nat), (0 : Nat))], r.1 ∉ [0]) := by decide +kernel

theorem wit_FieldBusActs :
    ((up []).power.lodge = true ∧ (up []).alCode 3 0 ≠ 0 ∧ 3 ≠ (up []).nat Ob.ethercatState) ∧
    (let s := up [(Ob.ethercatState, 2)]
     s.power.lodge = true ∧ 4 ≠ s.nat Ob.ethercatState ∧ s.nat Ob.ethercatState = 2 ∧ s.alCode 4 31249 = 0x0030 ∧ s.alCode 4 31250 = 0) ∧
    ((up []).alCode 2 0 = 0 ∧ 2 ≠ (up []).nat Ob.ethercatState) ∧ ((up []).alCode 8 0 = 0 ∧ 8 ≠ (up []).nat Ob.ethercatState) ∧
    (let s := up [(Ob.ethercatState, 8)]
     s.alCode 4 0 = 0 ∧ 4 ≠ s.nat Ob.ethercatState ∧ s.nat Ob.ethercatState = 8) ∧
    (let s := up [(Ob.deviceState, 4), (Ob.ethercatState, 1)]
     3 ≠ s.nat Ob.ethercatState ∧ s.dev ≠ 2 ∧ s.dev ≠ 7) ∧ (up []).nat Ob.ethercatState = 4 ∧
    (let s := { up [(Ob.ethercatState, 8)] with ctrl := { Control.init with rxFrame := some [] } }
     s.nat Ob.ethercatState = 8 ∧ s.ctrl.rxFrame = some [] ∧
     ∀ x ∈ rxPlaces (s.mapped true) 0 0, ofLeBytes (bytesAt [] x.2.2 (x.2.1 % 256 / 8)) = s.ctrl.rxPrev.get 0 x.1) := by decide +kernel

/-! ## Premises met: security, packages, recovery, the stated rules -/

/-- A challenge of zeros. -/
def challenge0 : List Byte := List.replicate 32 0

/-- A small state whose EtherCAT mailbox holds a challenge and whose Observer key is zero. -/
def challenged : State :=
  ({ up [] with sec := { (up []).sec with mailbox := { Session.init with role := 4, challenge := some (0, challenge0) } } }).setDom (Ob.roleKey 3)
    (List.replicate 32 0)

/-- The response of port 1 for role 1 with a key of zeros: HMAC-SHA-256 of the challenge, 1 and 1, computed outside the model (R409). -/
def response0 : List Byte := [1] ++ List.replicate 7 0 ++ leBytes 32 0x989599e8a1ccb7d9cbb36f9ddc9082748dd2b61acad637f9b80baaad849f4032

theorem wit_SessionsAct_challenge : ∃ row, objAt Ob.sessionChallenge = some row ∧ ((up []).advance 5).reaches .mailbox = true ∧
    (up []).needRole false Ob.sessionChallenge row ≤ (up []).roleOf .mailbox ∧ ((up []).advance 5).challengeLocked .mailbox = false ∧
    (up []).num Ob.trngHealth = 0 :=
  ⟨_, rfl, by decide +kernel⟩

theorem wit_SessionsAct_locked : ∃ row, objAt Ob.sessionChallenge = some row ∧ ((up [(Ob.trngHealth, 1)]).advance 5).reaches .mailbox = true ∧
    (up [(Ob.trngHealth, 1)]).needRole false Ob.sessionChallenge row ≤ (up [(Ob.trngHealth, 1)]).roleOf .mailbox ∧
    (up [(Ob.trngHealth, 1)]).num Ob.trngHealth = 1 :=
  ⟨_, rfl, by decide +kernel⟩

theorem wit_SessionsAct : accepts (.sessionResponse 5 .mailbox response0) challenged = true ∧
    (let s := { up [] with sec := { (up []).sec with audited := 1 } }
     ignores (.sessionResponse 5 .mailbox (List.replicate 40 0)) s 3 = true ∧ s.sec.audited % 4096 ≠ 0) ∧
    (accepts (.sessionClose 5 .mailbox 1) (up []) = true ∧ ((up []).session .mailbox).role ≠ 0) ∧
    (((up []).session .mailbox).role ≠ 0 ∧ (up []).nat Ob.sessionTimeout ≠ 0 ∧ ((up []).session .mailbox).lastRequest +
      (up []).nat Ob.sessionTimeout * 1000000000 ≤ max (up []).time ((up []).nat Ob.sessionTimeout * 1000000000) ∧
      max (up []).time ((up []).nat Ob.sessionTimeout * 1000000000 - 1) < ((up []).session .mailbox).lastRequest + (up []).nat Ob.sessionTimeout * 1000000000) := by
  decide +kernel

theorem domBytes_listed {s : State} {k : Nat} {d : List Byte} (h : s.doms.find? k = some d) : s.domBytes k 0 d.length = d := by
  apply List.ext_getElem
  · simp [State.domBytes]
  · intro i h1 h2
    simp [State.domBytes, State.domByte, h, h2]

/-- The checks of a write before the one of its value (Table 13-4), for a DOMAIN object that holds the bytes written. -/
def passesAll (c : Instr) (s : State) : Bool :=
  match requestOf c with
  | some r => (s.advance r.t).reaches r.m && (match objAt r.key with
    | some row =>
      let u := (s.advance r.t).touch r.m
      lengthOk row r.data.length && r.toggleOk && decide (u.needRole true r.key row ≤ u.roleOf r.m) && decide (row.acc = .rw) && !u.certLocks r.key r.data &&
        (u.dieUp || lodgeKey r.key) && !(stateCommand r.key && decide (u.nat Ob.claimHolder ≠ claimSide r.m)) && r.key != Ob.numberOfErrors &&
        r.key != Ob.storeParameters && r.key != Ob.restoreDefaultParameters && decide (widthOf row = 0) &&
        (match row.rng with | .domEntries _ _ => false | _ => true)
    | none => false)
  | none => false

/-- A write of the bytes that a DOMAIN object lists is accepted where the checks before its value pass. -/
theorem accepted_of_listed {c : Instr} {s : State} {r : Request} (hr : requestOf c = some r) (hp : passesAll c s = true)
    (hd : s.doms.find? r.key = some r.data) : Accepted c s := by
  have hd' : ((s.advance r.t).touch r.m).doms.find? r.key = some r.data := by
    rw [show ((s.advance r.t).touch r.m).doms = s.doms from ?_]
    · exact hd
    · unfold State.touch State.setSession; cases r.m <;> rfl
  unfold passesAll at hp
  rw [hr] at hp
  dsimp only at hp
  refine ⟨r, hr, ?_⟩
  unfold Request.Applied State.verdict
  cases ho : objAt r.key with
  | none => simp [ho] at hp
  | some row =>
    simp only [ho, Bool.and_eq_true, decide_eq_true_eq, Bool.not_eq_true', bne_iff_ne] at hp
    obtain ⟨h0, ⟨⟨⟨⟨⟨⟨⟨⟨⟨⟨⟨h1, h2⟩, h3⟩, h4⟩, h5⟩, h6⟩, h7⟩, h8⟩, h9⟩, h10⟩, h11⟩, h12⟩⟩ := hp
    have hh : ((s.advance r.t).touch r.m).holds row r.key (valueOf row r.data) r.data = true := by
      unfold State.holds
      rw [domBytes_listed hd']
      cases hg : row.rng <;> simp_all
    simp_all
    rw [if_neg (by omega), if_neg (by rcases h6 with h | h <;> simp [h]), if_neg (fun h => h.2 (h7 h.1))]

/-- Zero bytes. -/
def zeros (n : Nat) : List Byte := List.replicate n 0

theorem wit_ProtectionActs_tables :
    Accepted (.dramFirewallWrite 5 .mailbox (zeros 1024)) ((up []).setDom Ob.dramFirewall (zeros 1024)) ∧
    Accepted (.portFiltersWrite 5 .mailbox (zeros 256)) ((up []).setDom Ob.portFilters (zeros 256)) ∧
    Accepted (.packageKeysWrite 5 .mailbox (zeros 388)) ((up []).setDom Ob.packageKeys (zeros 388)) :=
  ⟨accepted_of_listed rfl (by decide +kernel) (by decide +kernel), accepted_of_listed rfl (by decide +kernel) (by decide +kernel),
    accepted_of_listed rfl (by decide +kernel) (by decide +kernel)⟩

theorem wit_ProtectionActs : accepts (.accessRightsWrite 5 .mailbox []) (up []) = true ∧
    (accepts (.roleKeyWrite 5 .mailbox 3 (List.replicate 32 1)) (up []) = true ∧ sessionPort .canFd ≠ sessionPort .mailbox ∧
      ((up []).session .canFd).role ≠ 4 - 3) ∧
    (let s := (up []).setDom (Ob.roleKey 0) (zeros 32)
     accepts (.roleKeyWrite 5 .mailbox 0 (List.replicate 32 1)) s = true ∧ sessionPort .canFd ≠ sessionPort .mailbox ∧
     s.domBytes (Ob.roleKey 0) 0 32 ≠ List.replicate 32 1 ∧ (s.session .canFd).role = 4 - 0) ∧
    accepts (.debugLockWrite 5 .mailbox 1) (up []) = true ∧ accepts (.certifiedLeave 5 .mailbox) (up [(Ob.certifiedConfiguration, 1)]) = true ∧
    (up [(Ob.trngHealth, 1)]).num Ob.trngHealth = 1 ∧
    (let s := up [(Ob.ethercatState, 3)]
     s.nat Ob.ethercatState = 3 ∧ s.sec.mailbox.role = 4 ∧ s.sec.fusedMin ≤ 0) ∧
    (up []).nat Ob.ethercatState ≠ 3 ∧
    (let s := { up [(Ob.ethercatState, 3)] with sec := { (up []).sec with running := .primary } }
     s.nat Ob.ethercatState = 3 ∧ s.sec.mailbox.role = 4 ∧ s.sec.running = .primary) := by decide +kernel

theorem wit_ProtectionActs_debug : ∃ row, objAt Ob.debugReadData = some row ∧ ((up []).advance 5).reaches .mailbox = true ∧
    (up []).needRole false Ob.debugReadData row ≤ (up []).roleOf .mailbox ∧ (up []).dieUp = true ∧ (up []).nat Ob.debugLock ≠ 0 ∧
    (let s := (up [(Ob.debugLock, 0)]).setDom Ob.dramFirewall openFirewall
     (s.advance 5).reaches .mailbox = true ∧ s.needRole false Ob.debugReadData row ≤ s.roleOf .mailbox ∧ s.dieUp = true ∧ s.nat Ob.debugLock = 0 ∧
     targetOf (s.nat Ob.debugReadAddress) = .dram ∧ s.fwGrants false 12 (s.nat Ob.debugReadAddress) 64 = true) :=
  ⟨_, rfl, by decide +kernel⟩

/-- A small state in which every Role Key differs from its factory value in its first byte. -/
def certState : State :=
  { up [] with doms := (List.range 4).map (fun i => (Ob.roleKey i, (dfltDomByte (Ob.roleKey i) 0 + 1) :: List.replicate 31 0)) }

theorem certState_keys : certState.keysChanged = true := by
  have h : ∀ i, i < 4 → (certState.domBytes (Ob.roleKey i) 0 32 != (List.range 32).map (dfltDomByte (Ob.roleKey i))) = true := by
    intro i hi
    have e : (certState.domBytes (Ob.roleKey i) 0 32).head? = some (dfltDomByte (Ob.roleKey i) 0 + 1) := by
      rcases i with _ | _ | _ | _ | i
      · rfl
      · rfl
      · rfl
      · rfl
      · omega
    simp only [bne_iff_ne, ne_eq]
    intro he
    rw [he] at e
    simp [List.range_succ_eq_map] at e
  simpa [State.keysChanged] using fun i hi => by simpa using h i hi

/-- The certified configuration can be entered once every Role Key has been changed. -/
theorem wit_ProtectionActs_certified : Accepted (.certifiedEnter 5 .mailbox) certState := by
  refine ⟨_, rfl, by decide +kernel, ?_⟩
  have hs : ((certState.advance 5).touch .mailbox).stateOk Ob.certifiedCommand
      (valueOf ⟨4, 1, .u 8, .wo, 4, 0, .between 1 2⟩ (leBytes 1 1)) = true := by
    have hm : ((certState.advance 5).touch .mailbox).mayCertify = true := by
      have hk : ((certState.advance 5).touch .mailbox).keysChanged = true := certState_keys
      unfold State.mayCertify
      rw [hk]
      decide +kernel
    exact hm
  unfold State.verdict
  rw [show objAt Ob.certifiedCommand = some ⟨4, 1, .u 8, .wo, 4, 0, .between 1 2⟩ from rfl]
  dsimp only
  rw [if_neg (by decide +kernel), if_neg (by decide +kernel), if_neg (by decide +kernel), if_neg (by decide +kernel), if_neg (by decide +kernel),
    if_neg (by decide +kernel), if_neg (by decide +kernel), if_neg (by decide +kernel), if_neg (by decide +kernel), if_pos hs]

/-- A small state with a package in slot 0, signed by a key that stands, being loaded into context 0. -/
def loading (p : Package) : State :=
  let s := (up [(Ob.slotState 0, 1)]).setDom Ob.packageKeys (List.replicate 388 1)
  { s with loader := { s.loader with slots := [(0, p)], keys := [(0, s.keyAt 0)], load := some (0, 0), writing := [1] } }

theorem wit_PackagesAct :
    (let s := loading package1
     s.mayWritePackage = true ∧ 3 ≤ s.sec.mailbox.role ∧ s.loadReads 1 = false ∧ 1 ∈ s.loader.writing ∧ package1.bytes ≤ 201326592 ∧
     package1.signatureOk = true ∧ s.keyEmpty package1.signerKey = false) ∧
    (let s := loaderWith [] (fun x => { x with writing := [1] })
     s.mayWritePackage = true ∧ 3 ≤ s.sec.mailbox.role ∧ s.loadReads 1 = false ∧ 1 ∈ s.loader.writing ∧ { package1 with signerKey := 3 }.bytes ≤ 201326592 ∧
     s.keyEmpty { package1 with signerKey := 3 }.signerKey = true) ∧
    (let s := loading package1
     s.mayWritePackage = true ∧ 3 ≤ s.sec.mailbox.role ∧ s.loadReads 2 = false ∧ 2 ∉ s.loader.writing) ∧
    (up [(Ob.ethercatState, 1)]).mayWritePackage = false ∧
    ((loading package1).mayWritePackage = true ∧ (loading package1).foeRefuses 0 .begin ≠ 0) ∧
    accepts (.erase 5 .mailbox) (up []) = true ∧
    (accepts (.load 5 .mailbox) (up []) = true ∧ (up []).nat (Ob.slotState ((up []).nat Ob.loadSlot)) = 0) ∧
    (let s := up [(Ob.slotState 0, 2)]
     accepts (.load 5 .mailbox) s = true ∧ s.nat (Ob.slotState (s.nat Ob.loadSlot)) = 2) ∧
    (let s := up [(Ob.slotState 0, 1)]
     accepts (.load 5 .mailbox) s = true ∧ s.nat (Ob.slotState (s.nat Ob.loadSlot)) = 1) := by decide +kernel

/-- The placement and the origin that a load finds. -/
def placedAt (s : State) (p : Package) : Option (Nat × Nat) :=
  match s.place? p p.placements 0 with
  | .ok x => some (x.1, x.2.2.origin)
  | .error _ => none

/-- What a load in progress is of: slot 0 into context 0, a package of slot 0. -/
def loads (s : State) (p : Package) : Bool := s.loader.load == some (0, 0) && s.loader.slots.find? 0 == some p

/-- A package of new weights for package 1. -/
def weights1 : Package := { package1 with weightOnly := true }

/-- A package whose one placement needs more synchronisation objects than a tile has memory for. -/
def tooLarge : Package := { package1 with placements := package1.placements.map (fun p => { p with dramBytes := 0x1C0000000 }) }

theorem wit_PackagesAct_load :
    (let p := { package1 with productCode := 0 }
     loads (loading p) p = true ∧ (loading p).envelopeFails 0 0 p = some 0x0E04) ∧
    (loads (loading package0) package0 = true ∧ (loading { package0 with productCode := 0x0064E001 }).envelopeFails 0 0 { package0 with productCode := 0x0064E001 } = none ∧
      (loading { package0 with productCode := 0x0064E001 }).contentPasses { package0 with productCode := 0x0064E001 } 0 = false) ∧
    (loads (loading package1) package1 = true ∧ (loading package1).envelopeFails 0 0 package1 = none ∧
      (loading package1).contentPasses package1 0 = true ∧ package1.weightOnly = false ∧ placedAt (loading package1) package1 = some (0, 0)) ∧
    (loads (loading tooLarge) tooLarge = true ∧ (loading tooLarge).envelopeFails 0 0 tooLarge = none ∧
      (loading tooLarge).contentPasses tooLarge 0 = true ∧ tooLarge.weightOnly = false ∧ placedAt (loading tooLarge) tooLarge = none) ∧
    (let s := withCtx ((loading weights1).setNat (Ob.contextState 0) 2) 0 (fun c => { c with pkg := some package1, w := 1, h := 1 })
     loads s weights1 = true ∧ s.envelopeFails 0 0 weights1 = none ∧ s.contentPasses weights1 0 = true ∧ weights1.weightOnly = true) := by
  decide +kernel

theorem wit_PackagesAct_commit :
    (let s := withCtx (up [(Ob.deviceState, 4), (Ob.contextState 0, 1), (Ob.commitTarget, 1), (Ob.contextState 1, 2)]) 0 (fun c => { c with pkg := some package1 })
     accepts (.commit 5 .mailbox) s = true ∧ (s.ctx (s.nat Ob.loadContext)).staged = none) ∧
    (let s := withCtx (up [(Ob.deviceState, 4), (Ob.contextState 0, 2), (Ob.commitTarget, 0)]) 0 (fun c => { c with pkg := some weights1, staged := some weights1 })
     accepts (.commit 5 .mailbox) s = true ∧ (s.ctx (s.nat Ob.loadContext)).staged ≠ none ∧ s.ctxState (s.nat Ob.loadContext) = 2) ∧
    (let s := loaderWith [(Ob.contextState 0, 1), (Ob.contextState 1, 3)] (fun x => { x with commit := some (0, 1) })
     s.loader.commit = some (0, 1) ∧ s.ctxState 0 = 1 ∧ s.ctxState 1 = 3) ∧
    (let s := loaderWith [(Ob.contextState 2, 1)] (fun x => { x with unloading := [(2, 5)] })
     s.loader.unloading = [(2, 5)] ∧ (s.queue 2).closedBytes = 0 ∧ 5 + 100000000 ≤ max s.time 100000005) := by decide +kernel

theorem wit_HangsAreFenced :
    (let s := recovery [] (fun r => { r with stall := [(3, 1000000000), (64, 1000000000)], tally := [(1, 5)] })
     s.watching = true ∧ s.expiredUnits = 3 :: [64] ∧ s.evaluating = true ∧ s.recov.phase ≠ .replaying) ∧
    (up [(Ob.deviceState, 7)]).watching = false ∧ (up []).expiredUnits = [] ∧
    (let s := recovery [(Ob.deviceState, 5)] (fun r => { r with phase := .fencing, expiryAt := 5, halts := true })
     s.recov.phase = .fencing ∧ s.recov.expiryAt + 2000000 ≤ max s.time 2000005 ∧ max s.time 2000004 < s.recov.expiryAt + 2000000 ∧
     s.recov.halts = true) ∧
    (let s := recovery [(Ob.deviceState, 5)] (fun r => { r with phase := .ledger })
     s.recov.phase = .ledger ∧ 69 ∉ s.recov.missing ∧ Memory.wf s.mem = true ∧ s.recov.halts = false ∧ s.recov.incomplete = false) ∧
    (let s := recovery [(Ob.deviceState, 5)] (fun r => { r with phase := .ledger, halts := true })
     s.recov.phase = .ledger ∧ Memory.wf s.mem = true ∧ s.recov.halts = true) ∧
    (let s := recovery [] (fun r => { r with dramLedger := true })
     s.recov.dramLedger = true ∧ s.dieUp = true) := by decide +kernel

theorem wit_RecoveryReturns :
    (let s := recovery [(Ob.deviceState, 6)] (fun r => { r with phase := .reset, since := 5 })
     s.recov.phase = .reset ∧ s.recov.since + 1000000 ≤ max s.time 1000005) ∧
    (let s := recovery [(Ob.deviceState, 6)] (fun r => { r with phase := .released })
     s.recov.phase = .released ∧ s.recov.restart = false ∧ s.dev = 6 ∧ s.sec.passes s.sec.primary = true ∧
     s.recov.since + 50000000 ≤ max s.time 50000000) ∧
    (let s := imaged false false (fun s => { s.setNat Ob.deviceState 6 with recov := { s.recov with phase := .released } })
     s.recov.phase = .released ∧ s.recov.restart = false ∧ s.dev = 6 ∧ s.sec.passes s.sec.primary = false ∧ s.sec.passes s.sec.fallback = false) ∧
    (let s := recovery [(Ob.deviceState, 6)] (fun r => { r with phase := .retraining, suspects := [0] })
     s.dev = 6 ∧ s.recov.phase = .retraining ∧ s.recov.restart = false ∧ s.recov.lost = false) ∧
    (let s := recovery [(Ob.deviceState, 6)] (fun r => { r with phase := .replaying, suspects := [0] })
     s.recov.suspects = 0 :: [] ∧ s.recov.replay = none ∧ s.recov.phase = .replaying) ∧
    (let r0 : Replay := ⟨0, 5, 0, 4, 100⟩
     let s := (recovery [(Ob.deviceState, 6), (Ob.contextState 0, 2)] (fun r =>
      { r with phase := .replaying, suspects := [0], replay := some r0, stall := [(0, 1000000000)] })).modCtx 0
        (fun c => { c with w := 1, h := 1, logical := some 4 })
     s.recov.replay = some r0 ∧ r0.ctx < 8 ∧ r0.started + 1000000 * r0.slice ≤ max s.time 100000005 ∧ s.subPorts r0.ctx = [] ∧
     (s.ctx r0.ctx).logical = some 4 ∧ r0.last ≤ 4 ∧ 0 ∈ s.expiredUnits ∧ 0 ∈ s.ctxTiles r0.ctx) ∧
    (let s := recovery [(Ob.deviceState, 6), (Ob.portEnable 3, 1)] (fun r => { r with phase := .returning })
     s.recov.phase = .returning ∧ (s.advance 500000000).portsReturned = true) := by decide +kernel

theorem wit_FirstExpiredUnitNamesTheCause :
    (let s := recovery [(Ob.contextState 0, 2), (Ob.contextState 1, 3)] (fun r => { r with stall := [(0, 1000000000), (69, 1000000000)] })
     s.expiredUnits = 0 :: [69] ∧ s.evaluating = true ∧ s.recov.phase ≠ .replaying) := by decide +kernel

theorem wit_TimeDistanceCountsHops :
    (let s := linkUpState [] id
     s.linkUp 0 = true ∧ s.hostMode 0 = false ∧ s.nat Ob.timeSource ≠ 2) ∧
    (let s := linkUpState [(Ob.timeSource, 2), (Ob.timeUpstreamPort, 0)] (fun q => { q with distance := 0x3FFFE })
     s.linkUp 0 = true ∧ s.hostMode 0 = false ∧ s.nat Ob.timeSource = 2 ∧ s.nat Ob.timeUpstreamPort = 0 ∧ (s.linkPort 0).distance < 0x3FFFF) ∧
    (let s := linkUpState [(Ob.timeSource, 2), (Ob.timeUpstreamPort, 3)] id
     s.linkUp 0 = true ∧ s.hostMode 0 = false ∧ s.nat Ob.timeSource = 2 ∧ s.nat Ob.timeUpstreamPort = 3 ∧ s.linkUp 3 = false) ∧
    ((linkUpState [(Ob.portMode 0, 1)] id).linkUp 0 = true ∧ (linkUpState [(Ob.portMode 0, 1)] id).hostMode 0 = true) := by decide +kernel

theorem wit_NoContextLeft : ∀ d : Fin 2, let s := up [(Ob.deviceState, 3 + d.val)]
    s.dieUp = true ∧ s.ctrl.transition = none ∧ (∀ n, n < 8 → s.ctxState n = 0) ∧ s.dev = 3 + d := by decide +kernel

/-! ## Ill-formed commands -/

theorem test_wf_voltages : [Instr.inputVoltageExcursion 5 40001, .inputBelowHoldUp 5 40001, .inputRestored 5 40001].all (fun c => !c.wf) = true ∧
    (Instr.inputRestored 5 40000).wf = true := by decide +kernel

theorem test_wf_temperatures : [Instr.thermalCapTick 5 32768 0, .thermalCapTick 5 0 (-32769), .thermalShutdown 5 32768 0, .thermalShutdown 5 0 32768].all
    (fun c => !c.wf) = true ∧ (Instr.thermalShutdown 5 32767 (-32768)).wf = true := by decide +kernel

theorem test_wf_written_bytes :
    [Instr.timeSourceWrite 5 .mailbox 256, .portEnable 5 .mailbox 0 256, .ruleEnable 5 .mailbox 0 256, .latchClear 5 .mailbox 0 256,
      .channelEnable 5 .mailbox 0 256, .encoderCommand 5 .mailbox 0 256, .forceExact 5 .mailbox 0 256, .referenceReset 5 .mailbox 256,
      .sensorRestore 5 .mailbox 0 256, .degradationReset 5 .mailbox 256, .calibrationRestart 5 .mailbox 256, .calibrationSave 5 .mailbox 256,
      .chaivoPortEnable 5 .mailbox 0 256, .numberOfErrorsClear 5 .mailbox 256, .statusAcknowledge 5 .mailbox 256, .sessionClose 5 .mailbox 256,
      .debugLockWrite 5 .mailbox 256, .builtInTest 5 .mailbox 256, .ledgerClear 5 .mailbox 256, .storeParameters 5 .mailbox 4294967296,
      .restoreDefaultParameters 5 .mailbox 4294967296].all (fun c => !c.wf) = true ∧ (Instr.portEnable 5 .mailbox 0 255).wf = true := by decide +kernel

theorem test_wf_data :
    [Instr.csi2PacketHeader 101 0 header, .deltaAudit 5 0 256 [], .gateDeliveryFlit 5 (.patch ⟨0, 0, 0, 64, 65⟩), .i3cTransferComplete 5 0 0 (List.replicate 33 0), .inertialReadComplete 5 0 (List.replicate 29 0),
      .transactionIssue 5 0 .scalar { access true with data := [] }, .projectionSetWrite 5 .mailbox 0 0 [],
      .timeOffsetWindowEnd ⟨5, 0⟩ 0 0 257, .extrinsicWindowEnd ⟨5, 0⟩ 0 [0, 0] [0, 0, 0], .extrinsicWindowEnd ⟨5, 0⟩ 0 [0, 0, 0] [], .sfpInsertion 5 0 [],
      .flitTrailer 5 0 [0] 0, .provocationItem 5 0 ⟨[], 0⟩, .packageFoeWrite 5 0 (.finish { package1 with name := List.replicate 33 0 }),
      .packageFoeWrite 5 0 (.finish { package1 with header := List.replicate 257 0 }), .packageFoeWrite 5 0 (.finish { package1 with pinned := some 33554432 }),
      .packageFoeWrite 5 0 (.finish { package1 with placements := package1.placements ++ package1.placements ++ package1.placements ++ package1.placements }),
      .builtInTestDone 5 [(64, 0)] 0, .ethercatFrame 5 (List.replicate 257 0)].all (fun c => !c.wf) = true := by decide +kernel

/-! ## Single commands on small states -/

/-- The state after a command; the state itself where the command stops. -/
def after (c : Instr) (s : State) : State :=
  match exec c s with
  | .next u => u
  | _ => s

/-- R326, R364: input power starts the module in BOOT at device time 0. -/
theorem test_power_up : State.reset.dev = 1 ∧ (after .inputPowerValid State.reset).dev = 1 ∧ (after .inputPowerValid State.reset).time = 0 := by
  decide +kernel

/-- R353: a second occurrence within 1 s raises the count of its entry. -/
theorem test_log_counts : (((up []).raise 0x0101 0).raise 0x0101 0).health.log.map (·.count) = [2] ∧
    (((up []).raise 0x0101 0).raise 0x0101 1).health.log.length = 2 := by decide +kernel

/-- R20: slots are whole microseconds of device time. -/
theorem test_slot_boundary : (after .slotBoundary ({ up [] with time := 1500, lastBoundary := 1000 })).time = 2000 := by decide +kernel

/-- Table 2-2: an EVA event word: x 3, y 2, polarity 1, 5 ticks later. -/
theorem test_eva_event : decodeEva 100 true (3 + 2 * 2 ^ 12 + 2 ^ 24 + 5 * 2 ^ 25) = ⟨.event 3 2 1, 105, true⟩ := by decide +kernel

/-- R36: an EVB event word. -/
theorem test_evb_event : decodeEvb 0 (2 ^ 60 + 7 * 2 ^ 48 + 9 * 2 ^ 36 + 11) = ⟨.event 7 9 1, 11, true⟩ := by decide +kernel

/-- R119: the generator from 1, by hand: 1, 0x2001, 0x2041, 0x40822041. -/
theorem test_generator : xorshift 1 = 0x40822041 := by decide +kernel

/-- The CRC-32 of IEEE 802.3 of the digits 1 to 9. -/
theorem test_crc32 : crc32 [0x31, 0x32, 0x33, 0x34, 0x35, 0x36, 0x37, 0x38, 0x39] = 0xCBF43926 := by decide +kernel

/-- R34: a read of Transfer Status counts a completed transfer. -/
theorem test_i3c : field ((after (.i3cTransferComplete 5 0 0 []) (withPort [] (fun q => { q with i3c := [⟨true, []⟩] }))).nat (Ob.transferStatus 0)) 0 16 = 1 := by
  decide +kernel

/-- R42: 25 ppb for each nanosecond, clamped to 200,000 ppb. -/
theorem test_rate_trim :
    (after (.rateTrimWindowEnd 5 0) (withPort [(Ob.rateTracking 0, 1), (Ob.portState 0, 2)] (fun q => { q with rMin := some 30, rPrev := some 10 }))).num
      (Ob.rateTrim 0) = 500 ∧
    (after (.rateTrimWindowEnd 5 0) (withPort [(Ob.rateTracking 0, 1), (Ob.portState 0, 2)] (fun q => { q with rMin := some 90000, rPrev := some 0 }))).num
      (Ob.rateTrim 0) = 200000 := by decide +kernel

/-- R18: an encoder preset loads at the boundary only. -/
theorem test_encoder_command : (after (.encoderCommand 5 .mailbox 0 1) (up [(Ob.positionPreset 0, 77)])).nat (Ob.position 0) = 0 ∧
    (after (.encoderCommand 5 .mailbox 0 1) (up [(Ob.positionPreset 0, 77)])).encoderBoundary.nat (Ob.position 0) = 77 := by decide +kernel

/-- R334: GO_RUN in STANDBY is ignored with reason 4 and changes nothing else. -/
theorem test_go_run_ignored : (after (.goRun 5 .mailbox) (up [])).nat Ob.lastReason = 4 ∧ (after (.goRun 5 .mailbox) (up [])).ctrl.transition = none := by
  decide +kernel

/-- R334: GO_READY begins a transition from STANDBY. -/
theorem test_go_ready : ((after (.goReady 5 .mailbox) (up [(Ob.contextState 0, 1)])).ctrl.transition).map (fun tr => (tr.cmd, tr.origin)) = some (1, 2) := by
  decide +kernel

/-- R115: a post at its target raises the object and wakes nothing else. -/
theorem test_post : ((after (.postArrival 5 0) (let s := tileUp [] id; { s with market := { s.market with posts := [⟨0, 258, 3, []⟩] } })).tile 1).obj 2 = 3 := by
  decide +kernel

/-- R114: an add on a scalar slot writes its destination; g0 takes nothing. -/
theorem test_scalar_add :
    (((up []).runScalar 4 { Tile.init with g := [(1, 5), (2, 6)] } ⟨.add, none, 3, 1, 2, false, 0⟩).tile 4).greg 3 = 11 ∧
    (((up []).runScalar 4 { Tile.init with g := [(1, 5), (2, 6)] } ⟨.add, none, 0, 1, 2, false, 0⟩).tile 4).greg 0 = 0 := by decide +kernel

/-- R284: a number in sequence is accepted and the expected number wraps. -/
theorem test_flit_number :
    (let s := linkUpState [] (fun q => { q with rx := some ⟨head 0x10 0 0 0 0 0, .here, false⟩, expected := 4095 })
     let c := flitCrc ⟨head 0x10 0 0 0 0 0, []⟩
     ((after (.flitTrailer 5 0 [] (BitVec.ofNat 64 (put 32 32 c + put 20 12 4095))) s).linkPort 0).expected) = 0 := by decide +kernel

/-- R292: a WRITE stores its bytes and no others. -/
theorem test_link_write :
    (let s := (linkUpState [] id).setDom Ob.dramFirewall openFirewall
     let u := after (.write 5 0 (head 2 2 1 0 0 64) (List.replicate 64 7)) s
     Memory.readBytes u.mem 60 8) = [0, 0, 0, 0, 7, 7, 7, 7] := by decide +kernel

/-- R322: a unit with action 0 drops each item whose ordinal is a multiple of Period. -/
theorem test_provocation_drop :
    (let s := up [(Ob.provocationEnable 0, 1), (Ob.period 0, 2)]
     let a := after (.provocationItem 5 0 ⟨[1], 0⟩) s
     let b := after (.provocationItem 6 0 ⟨[2], 0⟩) a
     ((a.prov 0).released, (b.prov 0).released, b.nat (Ob.actionsTaken 0))) = ([⟨[1], 0⟩], [], 1) := by decide +kernel

/-- R381: the tile that comes first names the cause, 0x0B01. -/
theorem test_expiry : (after (.tallyExpiry 5) (recovery [] (fun r => { r with stall := [(3, 1000000000), (64, 1000000000)] }))).nat
    Ob.lastRecoveryCause = 0x0B01 := by decide +kernel

/-- R348: bits of Error Register. -/
theorem test_error_register : (up [(Ob.faultsPending, 1), (Ob.inputVoltage, 24000), (Ob.portState 2, 3)]).readNum .mailbox Ob.errorRegister = 17 := by
  decide +kernel

/-- Memory: four bytes written read back in little-endian order, and a zero leaves no entry. -/
theorem test_memory : Memory.readNat (Memory.writeBytes [] 100 (leBytes 4 0x01020304)) 100 4 = 0x01020304 ∧
    Memory.writeBytes [] 100 [0, 5, 0] = [(101, 5)] := by decide +kernel

end Sys2Proof.Tests
end

section
/-! PROOFS. `Only` and `Objects` as frames: each holds of one named update and is carried along a chain of updates. -/

namespace Sys2Proof.Machine

/-! ## Chains of updates -/

/-- A part the same in two steps is the same over both. -/
theorem Part.same_trans {s u v : State} {p : Part} (h : p.same s u) (h' : p.same u v) : p.same s v := by
  cases p with
  | held => exact ⟨h'.1.trans h.1, h'.2.trans h.2⟩
  | _ => exact Eq.trans h' h

/-- A longer list of parts allows more. -/
theorem Only.mono {ps qs : List Part} {s u : State} (h : Only ps s u) (sub : ps ⊆ qs) : Only qs s u :=
  ⟨h.1, fun p hp => h.2 p (fun hm => hp (sub hm))⟩

/-- The parts two updates change one after the other are those of the first and those of the second. -/
theorem Only.append {ps qs : List Part} {s u v : State} (h : Only ps s u) (h' : Only qs u v) : Only (ps ++ qs) s v := by
  refine ⟨h'.1.trans h.1, fun p hp => ?_⟩
  rw [List.mem_append, not_or] at hp
  exact Part.same_trans (h.2 p hp.1) (h'.2 p hp.2)

/-- Objects kept by two updates are kept over both. -/
theorem Objects.trans {ks : List Nat} {s u v : State} (h : Objects ks s u) (h' : Objects ks u v) : Objects ks s v :=
  fun k hk => (h' k hk).trans (h k hk)

/-- An update that leaves the table of objects alone changes no object. -/
theorem objects_of_objs_eq {ks : List Nat} {s u : State} (h : u.objs = s.objs) : Objects ks s u :=
  fun k _ => State.num_congr h k

/-! ## Single updates -/

variable (s : State)

/-- Device time moves alone. -/
theorem only_advance (t : Nat) : Only [.time] s (s.advance t) :=
  ⟨rfl, fun p hp => by cases p <;> simp_all [Part.same]⟩

/-- A write of an object stays within the objects. -/
theorem only_setNat (k v : Nat) : Only [.objects] s (s.setNat k v) :=
  ⟨rfl, fun p hp => by cases p <;> simp_all [Part.same]⟩

/-- A counter raised stays within the objects. -/
theorem only_count (w k n : Nat) : Only [.objects] s (s.count w k n) := only_setNat s k _

/-- A write of an object changes that object at most. -/
theorem objects_setNat (k v : Nat) : Objects [k] s (s.setNat k v) :=
  fun _ hj => s.num_setNat_ne v (List.ne_of_not_mem_cons hj)

/-- A counter raised changes that counter at most. -/
theorem objects_count (w k n : Nat) : Objects [k] s (s.count w k n) := objects_setNat s k _

end Sys2Proof.Machine
end

section
/-! PROOFS. The ports of the link after a named update, and the fields of the control block a port sends (Table 11-4). -/

namespace Sys2Proof.Machine

variable (s : State)

/-! ## A port changed -/

@[simp] theorem State.linkPort_modLink_self (p : Nat) (f : LinkPort → LinkPort) : (s.modLink p f).linkPort p = f (s.linkPort p) := by
  simp [State.linkPort, State.modLink]
@[simp] theorem State.nat_modLink (p : Nat) (f : LinkPort → LinkPort) (k : Nat) : (s.modLink p f).nat k = s.nat k := rfl

/-- A change of a port stays within the link. -/
theorem only_modLink (p : Nat) (f : LinkPort → LinkPort) : Only [.link] s (s.modLink p f) :=
  ⟨rfl, fun p hp => by cases p <;> simp_all [Part.same, State.modLink]⟩

/-! ## Ports and other updates -/

@[simp] theorem State.linkPort_advance (t p : Nat) : (s.advance t).linkPort p = s.linkPort p := rfl
@[simp] theorem State.linkPort_setNat (k v p : Nat) : (s.setNat k v).linkPort p = s.linkPort p := rfl
@[simp] theorem State.linkUp_advance (t p : Nat) : (s.advance t).linkUp p = s.linkUp p := rfl
@[simp] theorem State.hostMode_advance (t p : Nat) : (s.advance t).hostMode p = s.hostMode p := rfl

/-! ## Timing blocks -/

/-- The content of a timing block with its kind, 2, at device time `time` and distance `d` (Table 11-4). -/
def timingBlock (time d : Nat) : BitVec 56 := BitVec.ofNat 56 (put 52 4 2 + put 18 34 time + put 0 18 d)

/-- The three fields of a timing block fit its 56 bits. -/
theorem timingBlock_toNat (time d : Nat) :
    (timingBlock time d).toNat = 2 * 2 ^ 52 + time % 2 ^ 34 * 2 ^ 18 + d % 2 ^ 18 := by
  simp only [timingBlock, put, BitVec.toNat_ofNat]
  omega

/-- The low 18 bits of a timing block are the distance. -/
theorem field_distance_timingBlock (time : Nat) {d : Nat} (h : d < 2 ^ 18) : field (timingBlock time d).toNat 0 18 = d := by
  rw [timingBlock_toNat, field, Nat.shiftRight_zero]
  omega

/-- The high 4 bits of a timing block are its kind. -/
theorem field_kind_timingBlock (time d : Nat) : field (timingBlock time d).toNat 52 4 = 2 := by
  rw [timingBlock_toNat, field, Nat.shiftRight_eq_div_pow]
  omega

end Sys2Proof.Machine
end

section
/-! PROOFS. The time distance a module sends, receives and shows (R298); no time is taken from a port in host mode (R298, R300). -/

namespace Sys2Proof.Machine

variable {s : State} {t : Nat} {p : Fin 4}

/-! ## The distance a module sends -/

/-- The cases of R298 in the words of the model: a time master, a module below an UP upstream port in fabric mode, any other. -/
def State.DistanceIs (s : State) (d : Nat) : Prop :=
  (s.nat Ob.timeSource ≠ 2 ∧ d = 0) ∨
    (s.nat Ob.timeSource = 2 ∧ ∃ q, s.nat Ob.timeUpstreamPort = q ∧
      ((q < 4 ∧ s.linkUp q = true ∧ s.hostMode q = false ∧ (s.linkPort q).distance < 0x3FFFF ∧ d = (s.linkPort q).distance + 1) ∨
        ((4 ≤ q ∨ s.linkUp q = false ∨ s.hostMode q = true) ∧ d = 0x3FFFF)))

/-- The model sends the distance that R298 gives. -/
theorem State.distanceNow_eq {d : Nat} (h : s.DistanceIs d) : s.distanceNow = d := by
  unfold State.distanceNow
  obtain ⟨master, rfl⟩ | ⟨slave, q, rfl, ⟨lt, up, fabric, below, rfl⟩ | ⟨none, rfl⟩⟩ := h
  · exact if_pos master
  · rw [if_neg (not_not_intro slave)]
    exact (if_pos (by simp [lt, up, fabric])).trans (Nat.min_eq_right below)
  · rw [if_neg (not_not_intro slave)]
    obtain far | down | host := none
    · exact if_neg (by simp [Nat.not_lt.mpr far])
    · exact if_neg (by simp [down])
    · exact if_neg (by simp [host])

/-- A distance fits the 18 bits a timing block has for it. -/
theorem State.DistanceIs.lt {d : Nat} (h : s.DistanceIs d) : d < 2 ^ 18 := by
  obtain ⟨-, rfl⟩ | ⟨-, q, -, ⟨-, -, -, below, rfl⟩ | ⟨-, rfl⟩⟩ := h <;> omega

/-! ## What the commands answer -/

/-- TIMING_BLOCK_SEND at an UP port in fabric mode. -/
theorem exec_timingBlockSend_fabric (up : s.linkUp p = true) (fabric : s.hostMode p = false) :
    exec (.timingBlockSend t p) s = .next (((s.advance t).setNat Ob.timeDistance s.distanceNow).modLink p
      (fun l => { l with block := some (timingBlock (s.advance t).time s.distanceNow) })) :=
  if_neg (by simp [up, fabric])

/-- The transit of a timing block in ps: its arrival against the sender's time it carries, corrected by the deskew loop (R270, R297). -/
def State.transit (s : State) (p : Nat) (content : BitVec 52) (arrivalPs : Int) : Int :=
  arrivalPs - 1000 * nearestMod 34 (s.time : Nat) (field content.toNat 18 34 : Nat) - s.num (Ob.deskewCorrection p)

/-- The state whose port `p` took a timing block: its transit into the mean (R297), its distance (R298). -/
def State.takeBlock (s : State) (p : Nat) (content : BitVec 52) (arrivalPs : Int) : State :=
  s.modLink p (fun l => { l with
    skip := false, sum := l.sum + s.transit p content arrivalPs, count := l.count + 1, distance := field content.toNat 0 18 })

@[simp] theorem State.distance_takeBlock (s : State) (p : Nat) (content : BitVec 52) (arrivalPs : Int) :
    ((s.takeBlock p content arrivalPs).linkPort p).distance = field content.toNat 0 18 := by
  simp [State.takeBlock]

/-- TIMING_BLOCK_RECEIVE at an UP port in fabric mode: the port takes the block; at the Time Upstream Port of a module that is no time
master, Time Distance follows. -/
theorem exec_timingBlockReceive_fabric (content : BitVec 52) (arrival : Int) (up : s.linkUp p = true) (fabric : s.hostMode p = false) :
    exec (.timingBlockReceive t p content arrival) s = .next (
      if s.nat Ob.timeUpstreamPort = p ∧ s.nat Ob.timeSource = 2 then
        ((s.advance t).takeBlock p content arrival).setNat Ob.timeDistance ((s.advance t).takeBlock p content arrival).distanceNow
      else (s.advance t).takeBlock p content arrival) := by
  rw [apply_ite Host.Outcome.next]
  exact if_neg (by simp [up, fabric])

/-- TIMING_BLOCK_RECEIVE at a port in host mode only moves device time on. -/
theorem exec_timingBlockReceive_host (content : BitVec 52) (arrival : Int) (host : s.hostMode p = true) :
    exec (.timingBlockReceive t p content arrival) s = .next (s.advance t) :=
  if_pos (by simp [host])

/-- TIME at an UP port in host mode is counted and discarded (R300). -/
theorem exec_time_host (a : BitVec 32) (b : BitVec 48) (up : s.linkUp p = true) (host : s.hostMode p = true) :
    exec (.time t p a b) s = .next ((s.advance t).count 64 (Ob.linkCounter p 8) 1) :=
  (if_neg (by simp [up])).trans (if_pos (by simp [host]))

/-! ## The statement -/

/-- Settles O58: the distance sent is the model's `distanceNow`, which is R298's by `State.distanceNow_eq`; each command is a short chain
of named updates whose frames are put together. -/
theorem timeDistanceCountsHops : Obligations.TimeDistanceCountsHops := by
  unfold Obligations.TimeDistanceCountsHops
  intro t p s up
  refine ⟨fun d fabric hd => ?_, fun content arrival fabric => ?_, fun host => ⟨fun content arrival => ?_, fun a b => ?_⟩⟩
  · have sent : s.distanceNow = d := s.distanceNow_eq hd
    refine ⟨_, timingBlock (s.advance t).time d, exec_timingBlockSend_fabric up fabric, ?_, ?_, field_kind_timingBlock _ d, ?_, ?_, ?_⟩
    · simp [sent]
    · exact field_distance_timingBlock _ (State.DistanceIs.lt hd)
    · simp [sent]
    · exact (objects_setNat (s.advance t) _ _).trans (objects_of_objs_eq rfl)
    · exact ((only_advance s t).append (only_setNat _ _ _)).append (only_modLink _ _ _)
  · refine ⟨_, exec_timingBlockReceive_fabric content arrival up fabric, ?_⟩
    have took : Only [.time, .link] s ((s.advance t).takeBlock p content arrival) := (only_advance s t).append (only_modLink _ _ _)
    have kept : Objects [Ob.timeDistance] s ((s.advance t).takeBlock p content arrival) := objects_of_objs_eq rfl
    split
    · exact ⟨by simp, kept.trans (objects_setNat _ _ _), (took.append (only_setNat _ _ _)).mono (by simp)⟩
    · exact ⟨by simp, kept, took.mono (by simp)⟩
  · exact exec_timingBlockReceive_host content arrival host
  · exact ⟨_, exec_time_host a b up host, objects_count (s.advance t) _ _ _, (only_advance s t).append (only_count _ _ _ _)⟩

end Sys2Proof.Machine
end

section
/-! PROOFS. `Kept`: device time, the control block and the objects of some indices are as before; the rule of each named update that a slot
boundary is made of. -/

namespace Sys2Proof.Machine

/-! ## The relation -/

/-- The indices of the objects of the device itself (R326, R327, R332, R334): Device State and Die Up are among them, no port, tile,
context, frame or track is. -/
abbrev DeviceIndex (i : Nat) : Prop := i < 0x2100

/-- The indices of the device itself and of its 8 contexts (Table 4-10): Context State is among the latter. -/
abbrev ControlIndex (i : Nat) : Prop := i < 0x2100 ∨ (0x2410 ≤ i ∧ i < 0x2418)

/-- Device time, the control block and every object of the indices `is` are as before. -/
structure Kept (is : Nat → Prop) (s u : State) : Prop where
  time : u.time = s.time
  ctrl : u.ctrl = s.ctrl
  num : ∀ k, is (k / 256) → u.num k = s.num k

variable {is : Nat → Prop} {s u v : State}

theorem Kept.refl (s : State) : Kept is s s := ⟨rfl, rfl, fun _ _ => rfl⟩

theorem Kept.trans (h : Kept is s u) (h' : Kept is u v) : Kept is s v :=
  ⟨h'.time.trans h.time, h'.ctrl.trans h.ctrl, fun k hk => (h'.num k hk).trans (h.num k hk)⟩

/-- What keeps the device and its contexts keeps the device. -/
theorem Kept.device (h : Kept ControlIndex s u) : Kept DeviceIndex s u := ⟨h.time, h.ctrl, fun k hk => h.num k (Or.inl hk)⟩

theorem Kept.nat (h : Kept is s u) (k : Nat) (hk : is (k / 256)) : u.nat k = s.nat k := congrArg Int.toNat (h.num k hk)

/-- An update of other parts of the state. -/
theorem kept_of_eq (ht : u.time = s.time) (hc : u.ctrl = s.ctrl) (ho : u.objs = s.objs) : Kept is s u :=
  ⟨ht, hc, fun k _ => State.num_congr ho k⟩

/-- An update that keeps it, after one of other parts of the state. -/
theorem Kept.after (h : Kept is u v) (ht : u.time = s.time) (hc : u.ctrl = s.ctrl) (ho : u.objs = s.objs) : Kept is s v :=
  (kept_of_eq ht hc ho).trans h

/-- Steps that each keep it keep it one after another. -/
theorem kept_foldl {α : Type} {f : State → α → State} (l : List α) (h : ∀ s, ∀ a ∈ l, Kept is s (f s a)) (s : State) :
    Kept is s (l.foldl f s) := by
  induction l generalizing s with
  | nil => exact Kept.refl s
  | cons a l ih =>
    exact (h s a (List.mem_cons_self ..)).trans (ih (fun s b hb => h s b (List.mem_cons_of_mem _ hb)) (f s a))

/-- A choice between two updates. -/
theorem kept_ite {c : Prop} [Decidable c] (h : c → Kept is s u) (h' : ¬c → Kept is s v) : Kept is s (if c then u else v) := by
  split
  · exact h ‹_›
  · exact h' ‹_›

/-! ## Writes of objects -/

section
variable (s)

/-- A key names its index. -/
theorem obKey_index {i sub : Nat} (hs : sub < 256) : obKey i sub / 256 = i := by
  simp only [obKey]
  omega

/-- A write of an object of another index. -/
theorem kept_setNum_key {k : Nat} (v : Int) (hk : ¬is (k / 256)) : Kept is s (s.setNum k v) :=
  ⟨rfl, rfl, fun _ hj => s.num_setNum_ne v (fun e => hk (e ▸ hj))⟩

theorem kept_setNum {i sub : Nat} (v : Int) (h : ¬is i ∧ sub < 256) : Kept is s (s.setNum (obKey i sub) v) :=
  kept_setNum_key s v (by rw [obKey_index h.2]; exact h.1)

theorem kept_setNat {i sub v : Nat} (h : ¬is i ∧ sub < 256) : Kept is s (s.setNat (obKey i sub) v) := kept_setNum s v h

theorem kept_count {w i sub n : Nat} (h : ¬is i ∧ sub < 256) : Kept is s (s.count w (obKey i sub) n) := kept_setNat s h

theorem kept_setAll_nil : Kept is s (s.setAll []) := Kept.refl s

theorem kept_setAll_cons {i sub : Nat} {v : Int} {l : List (Nat × Int)} (h : ¬is i ∧ sub < 256)
    (hl : Kept is (s.setNum (obKey i sub) v) ((s.setNum (obKey i sub) v).setAll l)) : Kept is s (s.setAll ((obKey i sub, v) :: l)) :=
  (kept_setNum s v h).trans hl

/-! ## Updates of other parts -/

theorem kept_setDom (k : Nat) (bs : List Byte) : Kept is s (s.setDom k bs) := kept_of_eq rfl rfl rfl
theorem kept_store (a : Nat) (bs : List Byte) : Kept is s (s.store a bs) := kept_of_eq rfl rfl rfl
theorem kept_setCal (c : Cal) : Kept is s (s.setCal c) := kept_of_eq rfl rfl rfl
theorem kept_setSquare (q : Square) : Kept is s (s.setSquare q) := kept_of_eq rfl rfl rfl
theorem kept_setEgo (e : Ego) : Kept is s (s.setEgo e) := kept_of_eq rfl rfl rfl
theorem kept_progress (u n : Nat) : Kept is s (s.progress u n) := kept_of_eq rfl rfl rfl
theorem kept_modPort (p : Nat) (f : SensorPort → SensorPort) : Kept is s (s.modPort p f) := kept_of_eq rfl rfl rfl
theorem kept_modTile (t : Nat) (f : Tile → Tile) : Kept is s (s.modTile t f) := kept_of_eq rfl rfl rfl
theorem kept_modCtx (n : Nat) (f : Context → Context) : Kept is s (s.modCtx n f) := kept_of_eq rfl rfl rfl

/-! ## Notices and faults -/

theorem kept_raise (code unit_ : Nat) : Kept ControlIndex s (s.raise code unit_) :=
  have others : ∀ k ∈ raiseKeys, ¬ControlIndex (k / 256) := by decide
  ⟨s.raise_time .., s.raise_ctrl .., fun k hk => (s.raise_spec code unit_).2 k (fun hm => others k hm hk)⟩

theorem kept_raiseIf (c : Bool) (code unit_ : Nat) : Kept ControlIndex s (s.raiseIf c code unit_) :=
  kept_ite (fun _ => kept_raise s code unit_) (fun _ => Kept.refl s)

theorem kept_raiseSlow (code unit_ : Nat) : Kept ControlIndex s (s.raiseSlow code unit_) := by
  have noted (l : SMap Nat) : Kept ControlIndex s { s.raise code unit_ with health := { (s.raise code unit_).health with lastNotice := l } } :=
    (kept_raise s code unit_).trans (kept_of_eq rfl rfl rfl)
  unfold State.raiseSlow
  split
  · exact kept_ite (fun _ => Kept.refl s) (fun _ => noted _)
  · exact noted _

end

end Sys2Proof.Machine
end

section
/-! PROOFS. A slot boundary up to its device transition keeps time, the control block, the device and its contexts: held writes and loop
commits (R255), the Kerb path's swap (R62), the encoders (R91), the rate rings (R264), the calibration runtime (R258). -/

namespace Sys2Proof.Machine

variable (s : State)

/-! ## Loop commits and epochs -/

theorem kept_commitLoop (c : LoopCommit) : Kept ControlIndex s (s.commitLoop c) :=
  kept_ite (fun _ => kept_setNum s _ (by omega)) (fun _ => kept_ite (fun _ => kept_of_eq rfl rfl rfl) (fun _ => kept_of_eq rfl rfl rfl))

theorem kept_slewOffset (p : Nat) : Kept ControlIndex s (s.slewOffset p) := by
  refine kept_ite (fun _ => Kept.refl s) (fun _ => ?_)
  have applied (v : Int) : Kept ControlIndex s (s.setNum (Ob.appliedOffset p) v) := kept_setNum s v (by omega)
  exact kept_ite (fun _ => (applied _).trans (kept_setCal _ _)) (fun _ => applied _)

theorem kept_noteHeld : Kept ControlIndex s s.noteHeld :=
  kept_ite (fun _ => Kept.refl s) (fun _ => (kept_foldl _ (fun s _ _ => kept_raise s _ _) s).trans (kept_setCal _ _))

theorem kept_calBoundary (k : Nat) : Kept ControlIndex s (s.calBoundary k) := by
  have commits (s : State) (l : List LoopCommit) : Kept ControlIndex s (l.foldl State.commitLoop s) :=
    kept_foldl l (fun s c _ => kept_commitLoop s c) s
  refine Kept.trans ?_ (kept_foldl _ (fun s p _ => kept_slewOffset s p) _)
  refine kept_ite (fun _ => ?_) (fun _ => kept_ite (fun _ => ?_) (fun _ => kept_ite (fun _ => Kept.refl s) (fun _ => kept_noteHeld s)))
  · refine Kept.trans ?_ (kept_setCal _ _)
    refine Kept.trans ?_ (kept_setCal _ _)
    refine Kept.trans ?_ (kept_foldl _ (fun s f _ => kept_setNat s (by omega)) _)
    refine Kept.trans ?_ (kept_count _ (by omega))
    refine Kept.trans ?_ (kept_setNat _ (by omega))
    exact (kept_ite (fun _ => commits _ _) (fun _ => Kept.refl _)).after rfl rfl rfl
  · exact (commits s _).trans (kept_setCal _ _)

/-! ## The Kerb path, the encoders, the rate rings -/

theorem kept_recordEdge (e : Edge) : Kept ControlIndex s (s.recordEdge e) :=
  kept_ite (fun _ => kept_of_eq rfl rfl rfl) (fun _ => ((kept_count _ (by omega)).trans (kept_raise _ _ _)).after rfl rfl rfl)

theorem kept_fireRule (n stamp : Nat) (o : Option Nat) : Kept ControlIndex s (s.fireRule n stamp o) :=
  (kept_recordEdge _ _).after rfl rfl rfl

theorem kept_releaseRule (n stamp : Nat) : Kept ControlIndex s (s.releaseRule n stamp) :=
  kept_ite (fun _ => (kept_recordEdge _ _).after rfl rfl rfl) (fun _ => kept_of_eq rfl rfl rfl)

theorem kept_evalRule (n stamp : Nat) (o : Option Nat) (verified : Bool) : Kept ControlIndex s (s.evalRule n stamp o verified) := by
  have same := Kept.refl (is := ControlIndex) s
  have released := kept_releaseRule s n stamp
  refine kept_ite (fun _ => same) (fun _ => kept_ite (fun _ => kept_ite (fun _ => released) (fun _ => same)) (fun _ => ?_))
  refine kept_ite (fun _ => kept_ite (fun _ => same) (fun _ => released)) (fun _ => ?_)
  exact kept_ite (fun _ => kept_fireRule s n stamp o) (fun _ => same)

theorem kept_kerbSwap (changed : List Nat) (stamp : Nat) : Kept ControlIndex s (s.kerbSwap changed stamp) :=
  kept_ite (fun _ => Kept.refl s) (fun _ => kept_foldl _ (fun s n _ => kept_evalRule s n _ _ _) s)

theorem kept_encoderBoundary : Kept ControlIndex s s.encoderBoundary := by
  refine kept_foldl _ (fun s e he => kept_ite (fun _ => ?_) (fun _ => Kept.refl s)) s
  have encoder : e < 4 := List.mem_range.mp he
  exact kept_ite (fun _ => (kept_setNat _ (by omega)).after rfl rfl rfl) (fun _ => kept_of_eq rfl rfl rfl)

theorem kept_rateRings : Kept ControlIndex s s.rateRings :=
  kept_foldl _ (fun s _ _ => kept_ite
    (fun _ => ((kept_store s _ _).trans (kept_setCal _ _)).trans (kept_modPort _ _ _)) (fun _ => Kept.refl s)) s

/-! ## The calibration runtime -/

theorem kept_offsetTask (p : Nat) (estimate : Rat) (peak : Nat) : Kept ControlIndex s (s.offsetTask p estimate peak) := by
  have shown (v : Int) : Kept ControlIndex s (s.setNum (Ob.offsetEstimate p) v) := kept_setNum s v (by omega)
  refine kept_ite (fun _ => shown _) (fun _ => ?_)
  exact kept_ite (fun _ => ((shown _).trans (kept_setCal _ _)).trans (kept_raise _ _ _))
    (fun _ => ((shown _).trans (kept_setCal _ _)).trans (kept_raiseIf _ _ _ _))

theorem kept_extrinsicTask (f : Nat) (rotation translation : List Rat) : Kept ControlIndex s (s.extrinsicTask f rotation translation) :=
  kept_ite (fun _ => Kept.refl s) (fun _ =>
    kept_ite (fun _ => (kept_raise _ _ _).after rfl rfl rfl) (fun _ => (kept_raiseIf _ _ _ _).after rfl rfl rfl))

theorem kept_scaleTask (rho : Rat) : Kept ControlIndex s (s.scaleTask rho) := by
  unfold State.scaleTask
  split
  · exact Kept.refl s
  · refine kept_ite (fun _ => Kept.refl s) (fun _ => kept_ite (fun _ => (kept_raise _ _ _).after rfl rfl rfl) (fun _ => ?_))
    exact ((kept_setNum _ _ (by omega)).trans (kept_raiseIf _ _ _ _)).after rfl rfl rfl

theorem kept_runTask (x : CalTask) : Kept ControlIndex s (s.runTask x) :=
  kept_ite (fun _ => kept_offsetTask s _ _ _) (fun _ => kept_ite (fun _ => kept_scaleTask s _) (fun _ => kept_extrinsicTask s _ _ _))

theorem kept_serveTasks (n : Nat) (s : State) : Kept ControlIndex s (State.serveTasks n s) := by
  induction n generalizing s with
  | zero => exact Kept.refl s
  | succ n ih =>
    unfold State.serveTasks
    split
    · exact Kept.refl s
    · refine kept_ite (fun _ => Kept.refl s) (fun _ => kept_ite (fun _ => ?_) (fun _ => ?_))
      · exact ((kept_runTask _ _).trans (ih _)).after rfl rfl rfl
      · exact (kept_raiseSlow _ _ _).after rfl rfl rfl

theorem kept_calMillisecond : Kept ControlIndex s s.calMillisecond :=
  kept_ite (fun _ => (kept_serveTasks _ _).after rfl rfl rfl) (fun _ => Kept.refl s)

end Sys2Proof.Machine
end

section
/-! PROOFS. A full commit at its boundary (R427) starts and stops contexts; time, the control block and the device itself stay. -/

namespace Sys2Proof.Machine

variable (s : State) (n : Nat)

/-! ## Tiles and bounds of a context -/

theorem kept_setVolt (t clock mv : Nat) : Kept DeviceIndex s (s.setVolt t clock mv) :=
  kept_setAll_cons _ (by omega) <| kept_setAll_cons _ (by omega) <| kept_setAll_cons _ (by omega) <|
    kept_setAll_cons _ (by omega) <| kept_setAll_cons _ (by omega) <| kept_setAll_nil _

theorem kept_holdVolts : Kept DeviceIndex s (s.holdVolts n) := kept_foldl _ (fun s _ _ => kept_setVolt s _ _ _) s

theorem kept_startVolt (t : Nat) : Kept DeviceIndex s (s.startVolt t) := (kept_setVolt s _ _ _).trans (kept_modTile _ _ _)

theorem kept_showBounds : Kept DeviceIndex s (s.showBounds n) := by
  unfold State.showBounds
  split
  · exact kept_ite (fun _ => Kept.refl s) (fun _ => kept_setDom s _ _)
  · exact Kept.refl s

theorem kept_setMode (mode : Nat) : Kept DeviceIndex s (s.setMode n mode) :=
  ((kept_setNat s (by omega)).trans (kept_holdVolts _ n)).trans (kept_showBounds _ n)

theorem kept_stopTiles (tileState : Nat) : Kept DeviceIndex s (s.stopTiles n tileState) :=
  (kept_foldl _ (fun s _ _ => kept_modTile s _ _) s).trans (kept_foldl _ (fun s _ _ => kept_setNat s (by omega)) _)

theorem kept_noteRan : Kept DeviceIndex s (s.noteRan n) := by
  unfold State.noteRan
  split
  · exact kept_of_eq rfl rfl rfl
  · exact Kept.refl s

/-! ## The weight swap (R428, R429) -/

theorem kept_writeWeights (p : Placement) : Kept DeviceIndex s (s.writeWeights n p) := kept_foldl _ (fun s _ _ => kept_store s _ _) s

/-- A package writes only objects of its context (R419). -/
theorem kept_writeCtxObject (index sub v : Nat) : Kept DeviceIndex s (s.writeCtxObject n index sub v) := by
  simp only [State.writeCtxObject]
  split
  · refine kept_ite (fun held => ?_) (fun _ => Kept.refl s)
    split
    · exact kept_setDom s _ _
    · simp only [ctxKey, Bool.and_eq_true, Bool.or_eq_true, beq_iff_eq] at held
      exact kept_setNum_key s _ (by omega)
  · exact Kept.refl s

theorem kept_writeCtxObjects (p : Package) : Kept DeviceIndex s (s.writeCtxObjects n p) :=
  kept_foldl _ (fun s _ _ => kept_writeCtxObject s n _ _ _) s

theorem kept_applySwap : Kept DeviceIndex s (s.applySwap n) := by
  simp only [State.applySwap]
  split
  · exact Kept.refl s
  · have ends {u : State} (h : Kept DeviceIndex s u) :
        Kept DeviceIndex s (if s.nat Ob.commitPending = 2 then u.setNat Ob.commitPending 0 else u) :=
      kept_ite (fun _ => h.trans (kept_setNat u (by omega))) (fun _ => h)
    refine ends (kept_ite (fun _ => Kept.trans ?_ (kept_noteRan _ n)) (fun _ => ?_))
    all_goals
      refine Kept.trans ?_ (kept_writeCtxObjects _ n _)
      split
      · exact (kept_modCtx s _ _).trans (kept_writeWeights _ n _)
      · exact kept_modCtx s _ _

theorem kept_swapIfCommitted : Kept DeviceIndex s (s.swapIfCommitted n) := kept_ite (fun _ => kept_applySwap s n) (fun _ => Kept.refl s)

/-! ## Starting and stopping -/

theorem kept_startContext : Kept DeviceIndex s (s.startContext n) := by
  refine Kept.trans ?_ (kept_foldl _ (fun s t _ => ?_) _)
  · refine Kept.trans ?_ (kept_showBounds _ n)
    refine Kept.trans ?_
      (kept_setAll_cons _ (by omega) <| kept_setAll_cons _ (by omega) <| kept_setAll_cons _ (by omega) <|
        kept_setAll_cons _ (by omega) <| kept_setAll_cons _ (by omega) <| kept_setAll_nil _)
    exact (kept_noteRan s n).trans (kept_modCtx _ _ _)
  · refine Kept.trans ?_ (kept_startVolt _ t)
    refine Kept.trans ?_ (kept_setAll_cons _ (by omega) <| kept_setAll_cons _ (by omega) <| kept_setAll_cons _ (by omega) <| kept_setAll_nil _)
    exact kept_modTile s _ _

theorem kept_stopContext : Kept DeviceIndex s (s.stopContext n) := by
  refine Kept.trans ?_ (kept_swapIfCommitted _ n)
  refine Kept.trans ?_ (kept_modCtx _ _ _)
  refine Kept.trans ?_ (kept_stopTiles _ n 0)
  refine Kept.trans ?_ (kept_setMode _ n 0)
  refine Kept.trans ?_ (kept_setAll_cons _ (by omega) <| kept_setAll_cons _ (by omega) <| kept_setAll_nil _)
  exact kept_ite (fun _ => kept_of_eq rfl rfl rfl) (fun _ => Kept.refl s)

theorem kept_dropCommit : Kept DeviceIndex s s.dropCommit := kept_ite (fun _ => (kept_setNat _ (by omega)).after rfl rfl rfl) (fun _ => Kept.refl s)

theorem kept_commitBoundary : Kept DeviceIndex s s.commitBoundary := by
  simp only [State.commitBoundary]
  split
  · exact Kept.refl s
  next n target _ =>
    have started := (kept_dropCommit s).trans
      (kept_ite (c := s.dropCommit.ctxState n = 1) (fun _ => kept_startContext _ n) (fun _ => Kept.refl _))
    refine kept_ite (fun _ => started) (fun _ => started.trans ?_)
    have stopped (u : State) : Kept DeviceIndex u (if u.ctxState target = 2 ∨ u.ctxState target = 3 then u.stopContext target else u) :=
      kept_ite (fun _ => kept_stopContext u target) (fun _ => Kept.refl u)
    exact (stopped _).trans (kept_of_eq rfl rfl rfl)

end Sys2Proof.Machine
end

section
/-! PROOFS. The Square's part of a slot boundary: what its updates keep, and the slot it opens (R222). -/

namespace Sys2Proof.Machine

variable (s : State)

/-! ## Ego-motion, sensors, the device step -/

theorem kept_egoBoundary : Kept DeviceIndex s s.egoBoundary := kept_ite (fun _ => kept_setEgo s _) (fun _ => Kept.refl s)

theorem kept_setSensor (i : Nat) (x : SensorStep) : Kept DeviceIndex s (s.setSensor i x) :=
  (kept_setAll_cons _ (by omega) <| kept_setAll_cons _ (by omega) <| kept_setAll_nil _).after rfl rfl rfl

theorem kept_raiseSensor (i step : Nat) : Kept DeviceIndex s (s.raiseSensor i step) :=
  kept_ite (fun _ => Kept.refl s) (fun _ => ((kept_setSensor s i _).trans (kept_count _ (by omega))).trans (kept_raise _ _ _).device)

theorem kept_floorsBoundary : Kept DeviceIndex s s.floorsBoundary := kept_foldl _ (fun s _ _ => kept_raiseSensor s _ _) s

theorem kept_restoreSensors (i : Nat) : Kept DeviceIndex s (s.restoreSensors i) :=
  kept_ite (fun _ => kept_setSensor s _ _) (fun _ => kept_foldl _ (fun s _ _ => kept_setSensor s _ _) s)

theorem kept_takeRestores (due : List (Nat × Nat)) : Kept DeviceIndex s (s.takeRestores due) :=
  (kept_foldl due (fun s _ _ => kept_restoreSensors s _) s).trans (kept_of_eq rfl rfl rfl)

theorem kept_setDevStep (n : Nat) : Kept DeviceIndex s (s.setDevStep n) :=
  kept_ite (fun _ => Kept.refl s) (fun _ => ((kept_setNat _ (by omega)).trans (kept_raiseIf _ _ _ _).device).after rfl rfl rfl)

theorem kept_restoresDue (k : Nat) : Kept DeviceIndex s (s.restoresDue k) :=
  (kept_takeRestores s _).trans ((kept_setDevStep _ _).after rfl rfl rfl)

/-! ## Slots that close, tracks no longer followed -/

theorem kept_showSlots : Kept DeviceIndex s s.showSlots := kept_setNat s (by omega)

theorem kept_closeLate (k : Nat) : Kept DeviceIndex s (s.closeLate k) :=
  (((kept_setSquare s _).trans (kept_showSlots _)).trans (kept_progress _ _ _)).trans (kept_count _ (by omega))

theorem kept_closeBefore (k n : Nat) (s : State) : Kept DeviceIndex s (State.closeBefore k n s) := by
  induction n generalizing s with
  | zero => exact Kept.refl s
  | succ n ih =>
    unfold State.closeBefore
    split
    · exact kept_ite (fun _ => (kept_closeLate s _).trans (ih _)) (fun _ => Kept.refl s)
    · exact Kept.refl s

theorem kept_dropFollowed : Kept DeviceIndex s s.dropFollowed := (kept_setNat _ (by omega)).after rfl rfl rfl

/-! ## Records filed -/

/-- The slot numbers of the open slots, each with whether it has closed. -/
def State.slotMarks (s : State) : List (Nat × Bool) := s.square.open_.map (fun o => (o.k, o.closed))

/-- The device is kept, and so are the newest slot and which slots are open: what filing a record does not touch (R222). -/
structure KeptSlots (s u : State) : Prop where
  kept : Kept DeviceIndex s u
  top : u.square.top = s.square.top
  marks : u.slotMarks = s.slotMarks

theorem KeptSlots.trans {s u v : State} (h : KeptSlots s u) (h' : KeptSlots u v) : KeptSlots s v :=
  ⟨h.kept.trans h'.kept, h'.top.trans h.top, h'.marks.trans h.marks⟩

theorem keptSlots_ite {s u v : State} {c : Prop} [Decidable c] (h : c → KeptSlots s u) (h' : ¬c → KeptSlots s v) :
    KeptSlots s (if c then u else v) := by
  split
  · exact h ‹_›
  · exact h' ‹_›

/-- An update that keeps the device and leaves the Square alone. -/
theorem Kept.slots {s u : State} (h : Kept DeviceIndex s u) (hq : u.square = s.square) : KeptSlots s u :=
  ⟨h, by rw [hq], by rw [State.slotMarks, hq, State.slotMarks]⟩

theorem keptSlots_refl : KeptSlots s s := (Kept.refl s).slots rfl

theorem keptSlots_raise (code unit_ : Nat) : KeptSlots s (s.raise code unit_) := (kept_raise s _ _).device.slots (s.raise_square _ _)

theorem keptSlots_setSquare {q : Square} (ht : q.top = s.square.top) (ho : q.open_ = s.square.open_) :
    KeptSlots s (s.setSquare q) :=
  ⟨kept_setSquare s q, ht, by simp only [State.slotMarks, State.setSquare, ho]⟩

theorem keptSlots_countRaise {w i sub n : Nat} (code : Nat) (h : ¬DeviceIndex i ∧ sub < 256) :
    KeptSlots s ((s.count w (obKey i sub) n).raise code noUnit) :=
  ((kept_count s h).slots rfl).trans (keptSlots_raise _ _ _)

theorem keptSlots_follow (i : Nat) : KeptSlots s (s.follow i) :=
  keptSlots_ite (fun _ => keptSlots_refl s) (fun _ => keptSlots_ite
    (fun _ => (keptSlots_setSquare s (by rfl) (by rfl)).trans ((kept_setNat _ (by omega)).slots rfl)) (fun _ => keptSlots_raise s _ _))

theorem keptSlots_rejectRecord : KeptSlots s s.rejectRecord := keptSlots_countRaise s _ (by omega)
theorem keptSlots_storeFull : KeptSlots s s.storeFull := keptSlots_countRaise s _ (by omega)
theorem keptSlots_lateDiscard : KeptSlots s s.lateDiscard := keptSlots_countRaise s _ (by omega)
theorem keptSlots_waitCount (late : Bool) : KeptSlots s (s.waitCount late) := keptSlots_setSquare s rfl rfl

/-- A measurement put into an open slot. -/
theorem keptSlots_fileOpen (k : Nat) (m : Meas) : KeptSlots s
    (s.setSquare { s.square with open_ := s.square.open_.map (fun o => if o.k = k then { o with meas := o.meas ++ [m] } else o) }) := by
  refine ⟨kept_setSquare s _, rfl, ?_⟩
  simp only [State.slotMarks, State.setSquare, List.map_map]
  exact List.map_congr_left (fun o _ => by dsimp only [Function.comp]; split <;> rfl)

theorem keptSlots_fileRecord (n : Nat) (bs : List Byte) : KeptSlots s (s.fileRecord n bs) := by
  unfold State.fileRecord
  extract_lets k s1 _ s2 _ s3
  have followed : KeptSlots s s1 := keptSlots_ite (fun _ => keptSlots_follow s _) (fun _ => keptSlots_refl s)
  have taken : KeptSlots s s2 := (followed.trans (keptSlots_setSquare s1 (by rfl) (by rfl))).trans ((kept_progress _ _ _).slots rfl)
  refine taken.trans ?_
  split
  next => -- the slot is open
    split
    · exact keptSlots_rejectRecord s2
    · exact keptSlots_rejectRecord s2
    · exact keptSlots_ite (fun _ => keptSlots_storeFull s2) (fun _ => (keptSlots_fileOpen s2 k _).trans (keptSlots_waitCount _ _))
  next => -- the slot has closed: the late queue (R226)
    have counted : KeptSlots s2 s3 := keptSlots_waitCount s2 _
    refine counted.trans (keptSlots_ite (fun _ => keptSlots_refl s3) (fun _ => ?_))
    split
    · exact keptSlots_lateDiscard s3
    · refine keptSlots_ite (fun _ => keptSlots_lateDiscard s3) (fun _ => ?_)
      split
      · exact keptSlots_lateDiscard s3
      · exact keptSlots_rejectRecord s3
      · exact keptSlots_ite (fun _ => keptSlots_lateDiscard s3)
          (fun _ => (keptSlots_setSquare s3 (by rfl) (by rfl)).trans ((kept_setNat _ (by omega)).slots rfl))

theorem keptSlots_fileRecords (l : List (Nat × List Byte)) (s : State) :
    KeptSlots s (l.foldl (fun s h => s.fileRecord h.1 h.2) s) := by
  induction l generalizing s with
  | nil => exact keptSlots_refl s
  | cons h l ih => exact (keptSlots_fileRecord s h.1 h.2).trans (ih _)

/-! ## The slot that begins -/

/-- Slot `k` is the newest the Square opened, and stands open (R222). -/
def State.SlotStandsOpen (s : State) (k : Nat) : Prop := s.square.top = some k ∧ ∃ o ∈ s.square.open_, o.k = k ∧ o.closed = false

/-- A slot that stands open does so after records were filed. -/
theorem KeptSlots.standsOpen {s u : State} (h : KeptSlots s u) {k : Nat} (hs : s.SlotStandsOpen k) : u.SlotStandsOpen k := by
  obtain ⟨top, o, mem, rfl, opened⟩ := hs
  have mark : (o.k, o.closed) ∈ u.slotMarks := h.marks ▸ List.mem_map_of_mem mem
  obtain ⟨o', mem', same⟩ := List.mem_map.mp mark
  obtain ⟨number, closed⟩ := Prod.mk.inj same
  exact ⟨h.top.trans top, o', mem', number, closed.trans opened⟩

/-- What is kept of the device decides whether its outputs drive. -/
theorem Kept.driving {s u : State} (h : Kept DeviceIndex s u) : u.driving = s.driving := by
  have dev : u.dev = s.dev := h.nat Ob.deviceState (by decide)
  unfold State.driving
  rw [dev, h.ctrl]

/-- The start of a slot keeps the device; where the device drives, the slot of the present instant then stands open (R222, R327). -/
theorem openSlot_spec : Kept DeviceIndex s s.openSlot ∧ (s.driving = true → s.openSlot.SlotStandsOpen (slotOf s.time)) := by
  unfold State.openSlot
  extract_lets s1 k e c o due _ s2
  have before : Kept DeviceIndex s s1 := (kept_closeBefore _ _ s).trans (kept_dropFollowed _)
  have filed := (keptSlots_fileRecords due s2).trans ((kept_showSlots _).slots rfl)
  have opened : s2.SlotStandsOpen k := ⟨rfl, o, List.mem_append_right _ (List.mem_singleton_self o), rfl, rfl⟩
  by_cases drives : s1.driving = true
  · rw [if_neg (by simp [drives])]
    exact ⟨(before.trans (kept_setSquare s1 _)).trans filed.kept, fun _ => before.time ▸ filed.standsOpen opened⟩
  · rw [if_pos (by simp [drives])]
    exact ⟨before, fun h => absurd (before.driving.trans h) drives⟩

/-- The Square's part of a boundary keeps the device; where the device drives, the slot that begins stands open. -/
theorem squareBoundary_spec :
    Kept DeviceIndex s s.squareBoundary ∧ (s.driving = true → s.squareBoundary.SlotStandsOpen (slotOf s.time)) := by
  have before : Kept DeviceIndex s ((s.egoBoundary.floorsBoundary).restoresDue (slotOf s.time)).copyDetail :=
    (((kept_egoBoundary s).trans (kept_floorsBoundary _)).trans (kept_restoresDue _ _)).trans (kept_setSquare _ _)
  obtain ⟨after, opened⟩ := openSlot_spec ((s.egoBoundary.floorsBoundary).restoresDue (slotOf s.time)).copyDetail
  exact ⟨before.trans after, fun h => before.time ▸ opened (before.driving.trans h)⟩

end Sys2Proof.Machine
end

section
/-! PROOFS. A slot boundary of a device whose contexts are all EMPTY (R328). -/

namespace Sys2Proof.Machine

variable (s : State)

/-- The state at a slot boundary's instant, before any of its effects on the die. -/
def State.atBoundary : State := { s with time := s.boundaryTime, lastBoundary := s.boundaryTime }.retryTaps

/-- A slot boundary's effects before a device transition is taken (R255, R62, R91, R264, R258). -/
def State.beforeTransition : State :=
  let changed := s.heldNum.map Prod.fst ++ s.heldDom.map Prod.fst
  let held := { s.calBoundary (slotOf s.time) with heldNum := [], heldDom := [] }
  (held.kerbSwap changed s.time).encoderBoundary.rateRings.calMillisecond

theorem dieBoundary_eq : s.dieBoundary = s.beforeTransition.transitionBoundary.commitBoundary.squareBoundary := rfl

theorem kept_beforeTransition : Kept ControlIndex s s.beforeTransition := by
  refine Kept.trans ?_ (kept_calMillisecond _)
  refine Kept.trans ?_ (kept_rateRings _)
  refine Kept.trans ?_ (kept_encoderBoundary _)
  exact (kept_calBoundary s _).trans ((kept_kerbSwap _ _ _).after rfl rfl rfl)

/-- After a device transition a boundary keeps the device; where the device drives, the slot that begins stands open. -/
theorem afterTransition_spec : Kept DeviceIndex s s.commitBoundary.squareBoundary ∧
    (s.driving = true → s.commitBoundary.squareBoundary.SlotStandsOpen (slotOf s.time)) := by
  have commit := kept_commitBoundary s
  obtain ⟨square, opened⟩ := squareBoundary_spec s.commitBoundary
  exact ⟨commit.trans square, fun h => commit.time ▸ opened (commit.driving.trans h)⟩

variable {s}

/-- SLOT_BOUNDARY on a die that is up, in READY or RUN. -/
theorem exec_slotBoundary_up (up : s.dieUp = true) (dev : s.dev = 3 ∨ s.dev = 4) :
    exec .slotBoundary s = .next s.atBoundary.dieBoundary := by
  have free : s.fenced = false := by obtain h | h := dev <;> simp [State.fenced, h]
  exact if_pos ⟨up, (congrArg (!·) free : (!s.fenced) = true)⟩

/-- A slot boundary falls on a multiple of 1,000 ns (R5). -/
theorem atBoundary_time_mod (s : State) : s.atBoundary.time % 1000 = 0 := Nat.mul_mod_left ..

/-- Contexts that are all EMPTY stay so up to the device transition of a boundary. -/
theorem Kept.noContext {u : State} (h : Kept ControlIndex s u) (empty : ∀ n, n < 8 → s.ctxState n = 0) : u.anyContext = false := by
  refine List.any_eq_false.mpr (fun n mem => ?_)
  have hn : n < 8 := List.mem_range.mp mem
  have same : u.ctxState n = s.ctxState n := h.nat (Ob.contextState n) (by rw [obKey_index (by omega)]; omega)
  simp [same, empty n hn]

/-- READY without a context falls to STANDBY (R328). -/
theorem transitionBoundary_ready (idle : s.ctrl.transition = none) (ready : s.dev = 3) (empty : s.anyContext = false) :
    s.transitionBoundary = s.setNat Ob.deviceState 2 := by
  simp [State.transitionBoundary, idle, ready, empty]

/-- RUN without a transition goes on. -/
theorem transitionBoundary_run (idle : s.ctrl.transition = none) (run : s.dev = 4) : s.transitionBoundary = s := by
  simp [State.transitionBoundary, idle, run]

/-- Settles O60: up to the device transition a boundary keeps the device and its contexts, which decide the transition; after it the
boundary keeps the device, and opens the slot where the device drives. -/
theorem noContextLeft : Obligations.NoContextLeft := by
  unfold Obligations.NoContextLeft
  intro s up idle empty
  have before : Kept ControlIndex s.atBoundary s.atBoundary.beforeTransition := kept_beforeTransition _
  have idle' : s.atBoundary.beforeTransition.ctrl.transition = none := by rw [before.ctrl]; exact idle
  have dev : s.atBoundary.beforeTransition.dev = s.dev := before.nat Ob.deviceState (by decide)
  refine ⟨fun ready => ⟨_, exec_slotBoundary_up up (.inl ready), ?_⟩, fun run => ⟨_, exec_slotBoundary_up up (.inr run), ?_⟩⟩
  · rw [dieBoundary_eq, transitionBoundary_ready idle' (dev.trans ready) (before.noContext empty)]
    obtain ⟨after, -⟩ := afterTransition_spec (s.atBoundary.beforeTransition.setNat Ob.deviceState 2)
    exact ⟨(after.nat Ob.deviceState (by decide)).trans (State.nat_setNat_self ..), by
      rw [after.time, State.setNat_time, before.time, atBoundary_time_mod]⟩
  · rw [dieBoundary_eq, transitionBoundary_run idle' (dev.trans run)]
    obtain ⟨after, opened⟩ := afterTransition_spec s.atBoundary.beforeTransition
    have drives : s.atBoundary.beforeTransition.driving = true := by simp [State.driving, dev, run, idle']
    obtain ⟨top, slot⟩ := opened drives
    rw [after.time]
    exact ⟨(after.nat Ob.deviceState (by decide)).trans (dev.trans run), top, slot⟩

end Sys2Proof.Machine
end

section
/-! PROOFS. Error Register (R348): the value a master reads is five conditions at their bits, and each condition in the words of the rule. -/

namespace Sys2Proof.Machine

variable (s : State)

/-! ## The layout of the bits -/

/-- The register with each condition at its bit of R348. -/
def errorBits (fault input throttle comm step : Bool) : Nat :=
  bnat fault + 4 * bnat input + 8 * bnat throttle + 16 * bnat comm + 128 * bnat step

/-- A bit shows its own condition, whatever the others are. -/
theorem bitAt_errorBits : ∀ fault input throttle comm step : Bool, let r := errorBits fault input throttle comm step
    r < 256 ∧ bitAt r 0 = fault ∧ bitAt r 1 = false ∧ bitAt r 2 = input ∧ bitAt r 3 = throttle ∧ bitAt r 4 = comm ∧
      bitAt r 5 = false ∧ bitAt r 6 = false ∧ bitAt r 7 = step := by
  decide

/-! ## The conditions -/

/-- Some sensor port is LOST. -/
def State.anyPortLost : Bool := (List.range 4).any (fun p => s.nat (Ob.portState p) = 3)

/-- Some enabled Chaivo port is DOWN. -/
def State.anyLinkDown : Bool :=
  (List.range 4).any (fun p => s.on (Ob.linkPortEnable p) && decide (s.nat (Ob.linkPortState p) = 3))

variable {s}

theorem State.on_iff {k : Nat} : s.on k = true ↔ s.num k = 1 := decide_eq_true_iff

theorem outsideInput_iff {mv : Int} : outsideInput mv = true ↔ mv < 18000 ∨ 32000 < mv := by
  simp [outsideInput]

theorem State.anyPortLost_iff : s.anyPortLost = true ↔ ∃ p, p < 4 ∧ s.nat (Ob.portState p) = 3 := by
  simp [State.anyPortLost]

theorem State.anyLinkDown_iff :
    s.anyLinkDown = true ↔ ∃ p, p < 4 ∧ s.num (Ob.linkPortEnable p) = 1 ∧ s.nat (Ob.linkPortState p) = 3 := by
  simp [State.anyLinkDown, State.on_iff]

/-! ## The read -/

/-- The model's register has R348's conditions at R348's bits. -/
theorem bitAt_errorRegister (s : State) : let r := errorRegister s
    r < 256 ∧ bitAt r 0 = decide (0 < s.nat Ob.faultsPending) ∧ bitAt r 1 = false ∧ bitAt r 2 = outsideInput (s.num Ob.inputVoltage) ∧
      bitAt r 3 = s.on Ob.throttleState ∧ bitAt r 4 = (s.anyPortLost || s.anyLinkDown) ∧ bitAt r 5 = false ∧ bitAt r 6 = false ∧
      bitAt r 7 = decide (1 ≤ s.nat Ob.deviceStep) :=
  bitAt_errorBits _ _ _ _ _

/-- Error Register belongs to the Lodge set, so a read gives the register with the die up or down, to every master alike (R338). -/
theorem readNum_errorRegister (s : State) (m : Master) : s.readNum m Ob.errorRegister = (errorRegister s : Nat) := by
  have noCount : (if Ob.errorRegister % 256 = 0 then countOf (Ob.errorRegister / 256) else none) = none := by decide
  have lodge : lodgeKey Ob.errorRegister = true := by decide
  simp only [State.readNum, noCount, lodge]
  simp [State.lodgeView]

/-- Settles O59: the value read is the model's register, whose bits are the conditions by `bitAt_errorRegister`; each condition is then put in
the words of R348. -/
theorem errorRegisterShowsConditions : Obligations.ErrorRegisterShowsConditions := by
  unfold Obligations.ErrorRegisterShowsConditions
  intro s m r read
  obtain rfl : errorRegister s = r := Int.ofNat_inj.mp ((readNum_errorRegister s m).symm.trans read)
  obtain ⟨byte, fault, b1, input, throttle, comm, b5, b6, step⟩ := bitAt_errorRegister s
  refine ⟨byte, ?_, b1, ?_, ?_, ?_, b5, b6, ?_⟩
  · rw [fault, decide_eq_true_iff]
  · rw [input, outsideInput_iff]
  · rw [throttle, State.on_iff]
  · rw [comm, Bool.or_eq_true, State.anyPortLost_iff, State.anyLinkDown_iff]
  · rw [step, decide_eq_true_iff]

end Sys2Proof.Machine
end

section
/-! PROOFS. Bits and bytes of a record: which bits a sum of powers of two sets, what a number's bytes read as within a longer byte list. -/

namespace Sys2Proof

/-! ## Bits -/

theorem bitAt_eq_testBit (n i : Nat) : bitAt n i = n.testBit i := by
  simp [bitAt, field, Nat.testBit_eq_decide_div_mod_eq, Nat.shiftRight_eq_div_pow]

theorem sumNat_eq_sum (l : List Nat) : sumNat l = l.sum := List.sum_eq_foldl.symm

/-- A sum of powers of two none of which lies below 2^m is a multiple of 2^m. -/
theorem two_pow_dvd_sum_two_pow {m : Nat} {l : List Nat} (above : ∀ y ∈ l, m ≤ y) : 2 ^ m ∣ (l.map (2 ^ ·)).sum := by
  induction l with
  | nil => exact Nat.dvd_zero _
  | cons x l ih =>
    rw [List.map_cons, List.sum_cons]
    exact Nat.dvd_add (Nat.pow_dvd_pow 2 (above x List.mem_cons_self)) (ih (fun y hy => above y (List.mem_cons_of_mem x hy)))

/-- The powers of two of a rising list set the bits that the list names: the lowest lies below all others, so no addition carries. -/
theorem testBit_sumNat_two_pow {l : List Nat} (rising : l.Pairwise (· < ·)) (i : Nat) :
    (sumNat (l.map (2 ^ ·))).testBit i = true ↔ i ∈ l := by
  rw [sumNat_eq_sum]
  induction l with
  | nil => simp only [List.map_nil, List.sum_nil, Nat.zero_testBit, Bool.false_eq_true, List.not_mem_nil]
  | cons x l ih =>
    obtain ⟨above, rising⟩ := List.pairwise_cons.mp rising
    obtain ⟨k, rest⟩ := two_pow_dvd_sum_two_pow above
    have noCarry : 2 ^ x + (l.map (2 ^ ·)).sum = (l.map (2 ^ ·)).sum ||| 2 ^ x := by
      rw [Nat.add_comm, rest]
      exact Nat.two_pow_add_eq_or_of_lt (Nat.pow_lt_pow_succ (by decide)) k
    rw [List.map_cons, List.sum_cons, noCarry, Nat.testBit_or, Bool.or_eq_true, ih rising, Nat.testBit_two_pow, decide_eq_true_iff,
      List.mem_cons, or_comm, eq_comm]

/-! ## Bytes -/

@[simp] theorem leBytes_length (n v : Nat) : (leBytes n v).length = n := by
  induction n generalizing v with
  | zero => rfl
  | succ n ih => simp [leBytes, ih]

/-- The bytes of a number read back as the number, cut to their count. -/
theorem ofLeBytes_leBytes (n v : Nat) : ofLeBytes (leBytes n v) = v % 256 ^ n := by
  induction n generalizing v with
  | zero => simp [leBytes, ofLeBytes, Nat.mod_one]
  | succ n ih => simp [leBytes, ofLeBytes, ih, Nat.pow_succ', Nat.mod_mul]

/-- Padding or cutting at `m` leaves a number that ends by then. -/
theorem leAt_padTo (bs : List Byte) {m off n : Nat} (h : off + n ≤ m) : leAt (padTo m bs) off n = leAt bs off n := by
  refine congrArg ofLeBytes (List.map_congr_left fun i hi => ?_)
  have within : off + i < m := by have := List.mem_range.mp hi; omega
  simp [padTo, bytesAt, within]

/-- A number past the first part of a byte list is one of the rest. -/
theorem leAt_append_right (as bs : List Byte) {off n : Nat} (h : as.length ≤ off) :
    leAt (as ++ bs) off n = leAt bs (off - as.length) n := by
  refine congrArg ofLeBytes (List.map_congr_left fun i _ => ?_)
  rw [List.getD_eq_getElem?_getD, List.getD_eq_getElem?_getD, List.getElem?_append_right (by omega), Nat.sub_add_comm h]

/-- A number's bytes at the head of a byte list read as the number. -/
theorem leAt_leBytes_append (n v : Nat) (bs : List Byte) : leAt (leBytes n v ++ bs) 0 n = v % 256 ^ n := by
  rw [← ofLeBytes_leBytes]
  refine congrArg ofLeBytes (List.ext_getElem (by simp [bytesAt]) fun i _ hi => ?_)
  simp [bytesAt, List.getElem?_append_left hi, List.getElem?_eq_getElem hi]

end Sys2Proof
end

section
/-! PROOFS. Reads after several objects were written and after the sequencer changed. -/

namespace Sys2Proof.Machine

/-- An object that `setAll` names once reads the value given. -/
theorem State.num_setAll_of_mem (s : State) {l : List (Nat × Int)} (once : (l.map Prod.fst).Nodup) {k : Nat} {v : Int} (h : (k, v) ∈ l) :
    (s.setAll l).num k = v := by
  induction l generalizing s with
  | nil => cases h
  | cons e l ih =>
    obtain ⟨fresh, once⟩ := List.nodup_cons.mp once
    obtain rfl | h := List.mem_cons.mp h
    · exact (State.num_setAll_ne _ l (fun e he hk => fresh (List.mem_map.mpr ⟨e, he, hk.symm⟩))).trans (s.num_setNum_self k v)
    · exact ih _ once h

@[simp] theorem State.modRecov_recov (s : State) (f : Recov → Recov) : (s.modRecov f).recov = f s.recov := rfl
@[simp] theorem State.nat_modRecov (s : State) (f : Recov → Recov) (k : Nat) : (s.modRecov f).nat k = s.nat k := rfl

end Sys2Proof.Machine
end

section
/-! PROOFS. The two sets of bits an expiry is read from: a set of contexts, the expired units in the ledger header (R386, Table 16-4). -/

namespace Sys2Proof.Machine

/-- The bits of the contexts are the powers of two of those for which `f` holds. -/
theorem ctxBits_eq_sumNat (f : Nat → Bool) : ctxBits f = sumNat (((List.range 8).filter f).map (2 ^ ·)) := by
  rw [ctxBits, sumNat_eq_sum, sumNat_eq_sum]
  induction List.range 8 with
  | nil => rfl
  | cons n l ih =>
    rw [List.map_cons, List.sum_cons, ih]
    cases h : f n <;> simp [bnat, h]

/-- A context's bit shows whether `f` holds of it. -/
theorem bitAt_ctxBits (f : Nat → Bool) {n : Nat} (h : n < 8) : bitAt (ctxBits f) n = true ↔ f n = true := by
  rw [bitAt_eq_testBit, ctxBits_eq_sumNat, testBit_sumNat_two_pow (List.pairwise_lt_range.filter f)]
  simp [h]

/-- The 16 bytes at offset 40 of the ledger header, behind its first ten fields, are the expired units' bits. -/
theorem leAt_ledgerHeader_units (s : State) (size : Nat) (deep : List (Nat × Nat)) :
    leAt (s.ledgerHeader size deep) 40 16 = sumNat (s.recov.expired.map (2 ^ ·)) % 256 ^ 16 := by
  simp only [State.ledgerHeader, List.append_assoc]
  rw [leAt_padTo _ (by decide)]
  iterate 10 rw [leAt_append_right _ _ (by simp)]
  simp only [leBytes_length]
  exact leAt_leBytes_append 16 _ _

/-- A unit's bit in the ledger header is set exactly where the unit expired. -/
theorem bitAt_ledgerHeader_units {s : State} (rising : s.recov.expired.Pairwise (· < ·)) (size : Nat) (deep : List (Nat × Nat)) {i : Nat}
    (h : i < 128) : bitAt (leAt (s.ledgerHeader size deep) 40 16) i = true ↔ i ∈ s.recov.expired := by
  rw [leAt_ledgerHeader_units, bitAt_eq_testBit, show 256 ^ 16 = 2 ^ 128 by decide, Nat.testBit_mod_two_pow,
    ← testBit_sumNat_two_pow rising]
  simp [h]

end Sys2Proof.Machine
end

section
/-! PROOFS. A fence (R383, Table 16-2) leaves the sequencer and the objects of hang detection and recovery as they are. -/

namespace Sys2Proof.Machine

variable (s : State)

/-- The indices of hang detection and recovery (Table 14-4): Last Recovery Cause, Last Hung Unit and Suspect Contexts are among them. -/
abbrev RecoveryIndex (i : Nat) : Prop := 0x2C00 ≤ i ∧ i < 0x2D00

/-! ## The objects -/

theorem keptRecovery_stopTiles (n tileState : Nat) : Kept RecoveryIndex s (s.stopTiles n tileState) :=
  (kept_foldl _ (fun s _ _ => kept_modTile s _ _) s).trans (kept_foldl _ (fun s _ _ => kept_setNat s (by omega)) _)

theorem keptRecovery_pauseContext {n : Nat} (h : n < 8) : Kept RecoveryIndex s (s.pauseContext n) := by
  have paused : Kept RecoveryIndex s ((s.leaveRunning n).setNat (Ob.contextState n) 3) := (kept_setNat _ (by omega)).after rfl rfl rfl
  exact kept_ite (fun _ => paused.trans (keptRecovery_stopTiles _ n 4)) (fun _ => paused.trans (kept_modCtx _ _ _))

theorem keptRecovery_pauseAll : Kept RecoveryIndex s s.pauseAll :=
  kept_foldl _ (fun s _ hn => kept_ite (fun _ => keptRecovery_pauseContext s (List.mem_range.mp hn)) (fun _ => Kept.refl s)) s

theorem keptRecovery_abandonSlots : Kept RecoveryIndex s s.abandonSlots :=
  ((kept_setNat _ (by omega)).trans (kept_setNat _ (by omega))).after rfl rfl rfl

theorem keptRecovery_dropCommit : Kept RecoveryIndex s s.dropCommit :=
  kept_ite (fun _ => (kept_setNat _ (by omega)).after rfl rfl rfl) (fun _ => Kept.refl s)

/-- The state of a fence before a commit, a load and a transition are dropped. -/
def State.quiesced : State := ((((List.range 4).foldl State.closeEdges s).endDrives.pauseAll).abandonSlots).closeBatches

theorem keptRecovery_quiesced : Kept RecoveryIndex s s.quiesced := by
  have edges (s : State) : Kept RecoveryIndex s ((List.range 4).foldl State.closeEdges s) :=
    kept_foldl _ (fun s p _ => kept_of_eq (u := s.closeEdges p) rfl rfl rfl) s
  have drives (s : State) : Kept RecoveryIndex s s.endDrives := kept_of_eq rfl rfl rfl
  have batches (s : State) : Kept RecoveryIndex s s.closeBatches :=
    kept_foldl _ (fun s q _ => kept_of_eq (u := s.closeBatch q) rfl rfl rfl) s
  unfold State.quiesced
  exact (edges s).trans <| (drives _).trans <| (keptRecovery_pauseAll _).trans <| (keptRecovery_abandonSlots _).trans <| batches _

/-- The state with a commit, a load and a transition dropped from its objects, and the die down. -/
def State.dropPending : State :=
  s.dropCommit.setAll [(Ob.dieUp, 0), (Ob.loadProgress, 0), (Ob.commitPending, 0), (Ob.transitionPending, 0)]

theorem State.fence_objs : s.fence.objs = s.quiesced.dropPending.objs := by
  simp only [State.fence, State.dropPending, State.quiesced]

theorem keptRecovery_dropPending : Kept RecoveryIndex s s.dropPending := by
  refine (keptRecovery_dropCommit s).trans ?_
  exact kept_setAll_cons _ (by omega) <| kept_setAll_cons _ (by omega) <| kept_setAll_cons _ (by omega) <|
    kept_setAll_cons _ (by omega) <| kept_setAll_nil _

theorem State.nat_fence {k : Nat} (h : RecoveryIndex (k / 256)) : s.fence.nat k = s.nat k :=
  (State.nat_congr s.fence_objs k).trans (((keptRecovery_quiesced s).trans (keptRecovery_dropPending _)).nat k h)

/-! ## The sequencer -/

theorem foldl_recov {α : Type} {f : State → α → State} (h : ∀ s a, (f s a).recov = s.recov) (l : List α) :
    (l.foldl f s).recov = s.recov := by
  induction l generalizing s with
  | nil => rfl
  | cons a l ih => exact (ih (f s a)).trans (h s a)

@[simp] theorem State.stopTiles_recov (n tileState : Nat) : (s.stopTiles n tileState).recov = s.recov :=
  calc (s.stopTiles n tileState).recov = (s.modTiles n _).recov := foldl_recov _ (fun s t => s.setNat_recov (Ob.tileState t) tileState) _
    _ = s.recov := foldl_recov s (fun s t => s.modTile_recov t _) _

@[simp] theorem State.pauseContext_recov (n : Nat) : (s.pauseContext n).recov = s.recov := by
  unfold State.pauseContext
  split
  · exact State.stopTiles_recov _ n 4
  · rfl

@[simp] theorem State.pauseAll_recov : s.pauseAll.recov = s.recov :=
  foldl_recov s (fun s n => by split <;> simp) _

@[simp] theorem State.dropCommit_recov : s.dropCommit.recov = s.recov := by unfold State.dropCommit; split <;> rfl

@[simp] theorem State.quiesced_recov : s.quiesced.recov = s.recov := by
  have edges : ((List.range 4).foldl State.closeEdges s).recov = s.recov := foldl_recov s (f := State.closeEdges) (fun _ _ => rfl) _
  have drives (s : State) : s.endDrives.recov = s.recov := rfl
  have slots (s : State) : s.abandonSlots.recov = s.recov := rfl
  have batches (s : State) : s.closeBatches.recov = s.recov := foldl_recov s (f := State.closeBatch) (fun _ _ => rfl) _
  rw [State.quiesced, batches, slots, State.pauseAll_recov, drives, edges]

@[simp] theorem State.fence_recov : s.fence.recov = s.recov := by
  simp only [State.fence, State.setAll_recov, State.dropCommit_recov]
  exact s.quiesced_recov

end Sys2Proof.Machine
end

section
/-! PROOFS. An expiry (R381, R393): the first expired unit names the cause, the contexts at work on expired tiles are the suspects. -/

namespace Sys2Proof.Machine

variable {s : State} {x : Nat} {xs : List Nat}

/-! ## Device time alone changes no expiry -/

@[simp] theorem State.expiredUnits_advance (s : State) (t : Nat) : (s.advance t).expiredUnits = s.expiredUnits := rfl
@[simp] theorem State.watching_advance (s : State) (t : Nat) : (s.advance t).watching = s.watching := rfl
@[simp] theorem State.suspectsOf_advance (s : State) (t : Nat) (units : List Nat) : (s.advance t).suspectsOf units = s.suspectsOf units := rfl

/-! ## Expired units and suspects -/

/-- The expired units come in the order of Tally Values. -/
theorem State.expiredUnits_rising (s : State) : s.expiredUnits.Pairwise (· < ·) := List.pairwise_lt_range.filter _

theorem State.quiet_eq_false_iff {n : Nat} :
    s.quiet n = false ↔ ∃ y ∈ s.ctxTiles n, (s.tile y).trans ≠ [] ∨ (s.tile y).unit_.misses ≠ [] := by
  simp only [State.quiet, List.all_eq_false, Bool.and_eq_true, beq_iff_eq, Classical.not_and_iff_not_or_not, ne_eq]

/-- The suspects in the words of R393. -/
theorem State.mem_suspectsOf {units : List Nat} {n : Nat} : n ∈ s.suspectsOf units ↔ n < 8 ∧
    (s.ctxState n = 2 ∨ (s.ctxState n = 3 ∧ ∃ y ∈ s.ctxTiles n, (s.tile y).trans ≠ [] ∨ (s.tile y).unit_.misses ≠ [])) ∧
    ∃ y ∈ s.ctxTiles n, y ∈ units := by
  rw [← State.quiet_eq_false_iff]
  simp only [State.suspectsOf, State.works, List.mem_filter, List.mem_range, Bool.and_eq_true, Bool.or_eq_true, decide_eq_true_iff, beq_iff_eq,
    Bool.not_eq_true', List.any_eq_true, List.contains_iff_mem, and_assoc, and_self_left]

/-! ## What the command answers -/

/-- The objects that show an expiry of unit `x` with the suspects `sus`. -/
def expiryObjects (x : Nat) (sus : List Nat) : List (Nat × Int) :=
  [(Ob.lastRecoveryCause, (causeOf x : Nat)), (Ob.lastHungUnit, (x : Nat)), (Ob.deviceState, 5), (Ob.recoveryStage, 1),
    (Ob.suspectContexts, (ctxBits (fun n => sus.contains n) : Nat))]

theorem nat_setAll_expiryObjects {sus : List Nat} {k v : Nat} (h : (k, (v : Int)) ∈ expiryObjects x sus) :
    (s.setAll (expiryObjects x sus)).nat k = v := by
  have once : [Ob.lastRecoveryCause, Ob.lastHungUnit, Ob.deviceState, Ob.recoveryStage, Ob.suspectContexts].Nodup := by decide
  rw [State.nat, State.num_setAll_of_mem s (l := expiryObjects x sus) once h, Int.toNat_natCast]

/-- TALLY_EXPIRY outside a replay fences a state whose objects and sequencer record the expiry. -/
theorem exec_tallyExpiry_evaluating (t : Nat) (units : s.expiredUnits = x :: xs) (eval : s.evaluating = true) (live : s.recov.phase ≠ .replaying) :
    ∃ v : State, exec (.tallyExpiry t) s = .next v.fence ∧ v.nat Ob.lastRecoveryCause = causeOf x ∧ v.nat Ob.lastHungUnit = x ∧
      v.nat Ob.suspectContexts = ctxBits (fun n => (s.suspectsOf (x :: xs)).contains n) ∧
      v.recov.cause = causeOf x ∧ v.recov.expired = x :: xs ∧ v.recov.suspects = s.suspectsOf (x :: xs) := by
  have watching : s.watching = true := by simp [State.watching, eval]
  show ∃ v : State, execTallyExpiry t s = .next v.fence ∧ _
  simp only [execTallyExpiry, State.expiredUnits_advance, units, State.watching_advance, watching, State.advance_recov, live,
    Bool.not_true, Bool.false_eq_true, false_and, or_self, if_false, State.suspectsOf_advance]
  refine ⟨_, rfl, ?_⟩
  simp only [State.nat_modRecov, State.modRecov_recov, and_true]
  have shows {u : State} {k v : Nat} (h : (k, (v : Int)) ∈ expiryObjects x (s.suspectsOf (x :: xs))) := nat_setAll_expiryObjects (s := u) h
  exact ⟨shows (by simp [expiryObjects]), shows (by simp [expiryObjects]), shows (by simp [expiryObjects])⟩

/-! ## The statement -/

/-- Settles O57: the expiry records its first unit and its suspects in `exec_tallyExpiry_evaluating`, and the fence that follows keeps what it
recorded; the rest says which bits and which contexts those are. -/
theorem firstExpiredUnitNamesTheCause : Obligations.FirstExpiredUnitNamesTheCause := by
  unfold Obligations.FirstExpiredUnitNamesTheCause
  intro t x xs s units eval live
  have rising : (x :: xs).Pairwise (· < ·) := units ▸ s.expiredUnits_rising
  obtain ⟨v, run, shownCause, hung, shown, cause, expired, suspects⟩ := exec_tallyExpiry_evaluating t units eval live
  refine ⟨v.fence, run, (List.pairwise_cons.mp rising).1, ?_, ?_, ?_, fun size deep i hi => ?_, fun n => ?_, fun n hn => ?_⟩
  · rw [v.nat_fence (by decide), shownCause]
  · rw [v.fence_recov, cause]
  · rw [v.nat_fence (by decide), hung]
  · have units' : v.fence.recov.expired = x :: xs := by rw [v.fence_recov, expired]
    rw [bitAt_ledgerHeader_units (units' ▸ rising) size deep hi, units']
  · rw [v.fence_recov, suspects, State.mem_suspectsOf]
  · rw [v.nat_fence (by decide), shown, bitAt_ctxBits _ hn, v.fence_recov, suspects, List.contains_iff_mem]

end Sys2Proof.Machine
end
